-- ==== Sys2Proof/Word.lean ====
section
/-! DEFINITION. The words of the part: bytes of its ports and of the air, and pass numbers. -/

namespace Sys2Proof

/-- One byte of a port frame or of an air frame. -/
abbrev Byte := BitVec 8

/-- A 40-bit pass number (00_scope.md 4.5). The value 0 stands for no pass. -/
abbrev PassNo := BitVec 40

end Sys2Proof
end

