-- ==== Sys2Proof/Syntax.lean ====
section
/-! DEFINITION. The commands of the part: one constructor of `Instr` for each row of spec/opcode_table.json, and the
small types their operands use. An order's operands are the raw fields of its body (Table 11-1). -/

namespace Sys2Proof

/-- The four lanes (00_scope.md 1.2). -/
inductive Lane where
  | l0 | l1 | l2 | l3
  deriving DecidableEq, Repr

def Lane.toNat : Lane → Nat
  | .l0 => 0 | .l1 => 1 | .l2 => 2 | .l3 => 3

def Lane.all : List Lane := [.l0, .l1, .l2, .l3]

/-- The lane after this one in the order P0, P1, P2, P3, P0 of R39. -/
def Lane.succ : Lane → Lane
  | .l0 => .l1 | .l1 => .l2 | .l2 => .l3 | .l3 => .l0

/-- One value for each lane. -/
structure PerLane (α : Type) where
  l0 : α
  l1 : α
  l2 : α
  l3 : α
  deriving DecidableEq, Repr

def PerLane.get {α : Type} (v : PerLane α) : Lane → α
  | .l0 => v.l0 | .l1 => v.l1 | .l2 => v.l2 | .l3 => v.l3

def PerLane.set {α : Type} (v : PerLane α) (n : Lane) (x : α) : PerLane α :=
  match n with
  | .l0 => { v with l0 := x }
  | .l1 => { v with l1 := x }
  | .l2 => { v with l2 := x }
  | .l3 => { v with l3 := x }

def PerLane.map {α β : Type} (f : α → β) (v : PerLane α) : PerLane β :=
  ⟨f v.l0, f v.l1, f v.l2, f v.l3⟩

def PerLane.const {α : Type} (x : α) : PerLane α := ⟨x, x, x, x⟩

/-- The five order ports (R167). -/
inductive Port where
  | lp (n : Lane)
  | sp
  deriving DecidableEq, Repr

/-- One value for each port. -/
structure PerPort (α : Type) where
  lp : PerLane α
  sp : α
  deriving DecidableEq, Repr

def PerPort.get {α : Type} (v : PerPort α) : Port → α
  | .lp n => v.lp.get n
  | .sp => v.sp

def PerPort.set {α : Type} (v : PerPort α) (p : Port) (x : α) : PerPort α :=
  match p with
  | .lp n => { v with lp := v.lp.set n x }
  | .sp => { v with sp := x }

/-- The five positions of the reader: P0 to P3 and PS (R32). -/
inductive Position where
  | lane (n : Lane)
  | ps
  deriving DecidableEq, Repr

def Position.all : List Position := [.lane .l0, .lane .l1, .lane .l2, .lane .l3, .ps]

/-- One value for each position. -/
structure PerPos (α : Type) where
  lane : PerLane α
  ps : α
  deriving DecidableEq, Repr

def PerPos.get {α : Type} (v : PerPos α) : Position → α
  | .lane n => v.lane.get n
  | .ps => v.ps

def PerPos.set {α : Type} (v : PerPos α) (p : Position) (x : α) : PerPos α :=
  match p with
  | .lane n => { v with lane := v.lane.set n x }
  | .ps => { v with ps := x }

def PerPos.const {α : Type} (x : α) : PerPos α := ⟨.const x, x⟩

/-- The six antennas A0 to A5 (R31). -/
inductive Antenna where
  | a0 | a1 | a2 | a3 | a4 | a5
  deriving DecidableEq, Repr

def Antenna.toNat : Antenna → Nat
  | .a0 => 0 | .a1 => 1 | .a2 => 2 | .a3 => 3 | .a4 => 4 | .a5 => 5

def Antenna.all : List Antenna := [.a0, .a1, .a2, .a3, .a4, .a5]

/-- One value for each antenna. -/
structure PerAnt (α : Type) where
  a0 : α
  a1 : α
  a2 : α
  a3 : α
  a4 : α
  a5 : α
  deriving DecidableEq, Repr

def PerAnt.get {α : Type} (v : PerAnt α) : Antenna → α
  | .a0 => v.a0 | .a1 => v.a1 | .a2 => v.a2 | .a3 => v.a3 | .a4 => v.a4 | .a5 => v.a5

def PerAnt.set {α : Type} (v : PerAnt α) (a : Antenna) (x : α) : PerAnt α :=
  match a with
  | .a0 => { v with a0 := x }
  | .a1 => { v with a1 := x }
  | .a2 => { v with a2 := x }
  | .a3 => { v with a3 := x }
  | .a4 => { v with a4 := x }
  | .a5 => { v with a5 := x }

def PerAnt.const {α : Type} (x : α) : PerAnt α := ⟨x, x, x, x, x, x⟩

/-- The two beams of a lane: ENB on the approach side, EXB on the loading side (00_scope.md 1.2). -/
inductive Beam where
  | enb | exb
  deriving DecidableEq, Repr

/-- What the receiver met in one visit, from the opening of the answer window to the end of reception
(Table 2-4): receiver overdrive, a coding violation, and the bytes heard, among which the part looks for the lead-in
(log 22). -/
structure Reception where
  overdrive : Bool
  violation : Bool
  heard : List Byte
  deriving DecidableEq, Repr

/-- Where VMAIN stands against the retention threshold, the warning threshold and the recovery level (R181; log 6). -/
inductive VmainBand where
  | belowRetention | belowWarning | belowRecovery | aboveRecovery
  deriving DecidableEq, Repr

/-- The cause of a start-up (R185). -/
inductive StartCause where
  | power | reset
  deriving DecidableEq, Repr

/-- The reasons of a withdrawal (R113). -/
inductive WithdrawReason where
  | holdTimeout | blocked | laneClosed | lowSupply
  deriving DecidableEq, Repr

/-- The commands. Port transactions first, then the orders in the order of the table, then the events. -/
inductive Instr where
  /-- An order transaction ends on a port: its whole bytes, and whether it ended inside a further byte (R169). -/
  | orderFrame (p : Port) (bytes : List Byte) (insideByte : Bool)
  /-- An order frame ends on a port whose reply slot is in progress (R170). -/
  | orderFrameDiscarded (p : Port)
  /-- A fetch transaction ends on a port after `clocked` whole bytes following its 0xF0 byte (R172). -/
  | fetchTransaction (p : Port) (clocked : Nat)
  | passPut (p : Port) (pass : PassNo) (state : Byte)
  | passBlock (p : Port) (pass : PassNo)
  | passUnblock (p : Port) (pass : PassNo)
  | passErase (p : Port) (pass : PassNo)
  | passClearLearned (p : Port)
  | passQuery (p : Port) (pass : PassNo)
  | tableStatus (p : Port)
  | readerSet (p : Port) (attempts threshold coarse fine window : Byte) (target : BitVec 16)
  /-- The antenna byte of P0, P1, P2, P3 and PS; 0xFF is NONE (R33). -/
  | antennaMap (p : Port) (p0 p1 p2 p3 ps : Byte)
  | antennaTune (p : Port) (antenna : Byte)
  | positionStatus (p : Port)
  | admitSet (p : Port) (resort lockout : BitVec 16) (quiet learnMask : Byte)
  | rulePut (p : Port) (index enabled : Byte) (value mask : BitVec 16) (lanes : Byte)
      (start stop : BitVec 16) (cls charge : Byte)
  | ruleQuery (p : Port) (selector : Byte) (value : BitVec 16)
  | verdictFetch (p : Port) (lane : Byte)
  | laneMode (p : Port) (lane mode : Byte)
  | laneStatus (p : Port) (lane : Byte)
  | laneSet (p : Port) (lane window debounce high low mute : Byte)
  | manualGrant (p : Port) (lane : Byte)
  | loadingSet (p : Port) (limit hold : Byte)
  | loadingStatus (p : Port)
  | countsRead (p : Port) (period part lane start number : Byte)
  /-- Part 1 of a tariff set: T(1) to T(11) and the terms (R191). -/
  | tariffPutPart1 (p : Port) (product : BitVec 16) (prices : Vector (BitVec 24) 11) (fee : BitVec 16)
      (minDays : Byte) (unit minRefund : BitVec 16) (claim refundable : Byte)
  /-- Part 2 of a tariff set: T(12) to T(21) (R191). -/
  | tariffPutPart2 (p : Port) (product : BitVec 16) (prices : Vector (BitVec 24) 10)
  | tariffQuery (p : Port) (selector : Byte) (value : BitVec 16)
  | tariffErase (p : Port) (product : BitVec 16)
  | refundSet (p : Port) (hold : BitVec 16)
  | refundQuote (p : Port)
  | refundCommit (p : Port) (quote : BitVec 16)
  | refundRelease (p : Port) (quote : BitVec 16)
  | refundStatus (p : Port)
  | journalRead (p : Port) (count : Byte)
  | journalRemove (p : Port) (seq : BitVec 16)
  | clockSet (p : Port) (day : BitVec 16) (time : BitVec 24) (hour : Byte)
  | clockSync (p : Port) (mode window arm : Byte)
  | clockStatus (p : Port)
  | supplyStatus (p : Port)
  | noticeFetch (p : Port)
  | noticeMask (p : Port) (mask : BitVec 16)
  | ident (p : Port)
  /-- A scan or service read visit ends (R43). -/
  | readVisitCompletion (r : Reception)
  /-- A stamp attempt ends (R46). -/
  | stampAttemptCompletion (r : Reception)
  /-- A tune visit ends: the current at level 4 and the current at level 12, in mA; the second counts only
  where the first is below 40 (R52). -/
  | tuneCompletion (i4 i12 : Nat)
  | beamRawChange (n : Lane) (b : Beam) (broken : Bool)
  | beamDebouncedChange (n : Lane) (b : Beam)
  | boardRawChange (active : Bool)
  | boardPulse
  | liftStop (active : Bool)
  | grantExpiry (n : Lane)
  | holdTimeout (n : Lane)
  | repeatQuietDeadline (n : Lane)
  | timedSignalEnd (n : Lane)
  | tonePatternEnd (n : Lane)
  | refundHoldExpiry
  | localSecondBoundary
  | runMinute
  | stpPulse
  | pulseWatchExpiry
  /-- VMAIN comes to stand in a band. -/
  | vmainChange (band : VmainBand)
  | recoveryTimer
  /-- RESET becomes active. -/
  | reset
  /-- Power return, or the release of RESET; `selected` tells which ports' select is active as the start-up
  completes (R185, R167; log 20). -/
  | startUp (cause : StartCause) (selected : PerPort Bool)
  | withdrawalTaken (n : Lane) (r : WithdrawReason)
  | boardDebouncedInactive
  | vbakFailure
  | fetchStatusFixed (p : Port)
  deriving DecidableEq, Repr

end Sys2Proof
end

