-- ==== Sys2Proof/Config.lean ====
section
/-! DEFINITION. What the spec leaves open: constants without a value, which no proof can see. -/

namespace Sys2Proof.Config

/-- The enumerations that a reply body carries and that Table 11-3 gives no values for (R190). -/
inductive OpenField where
  | positionState | visitOutcome | visitKind | visitPurpose | positionCode
  | tuneResult | lampState | clockState | pulseState | refundState | quoteEnd
  | supplyState | startCause | reportKind | transceiver
  deriving DecidableEq, Repr

/-- The byte that a reply carries for a value of an enumeration without values in Table 11-3 (log 8). -/
opaque openCode : OpenField → Nat → Byte

/-- The millisecond base after its greatest value, by the counter of `State.free` (R155; log 5). -/
opaque msAfterLimit : Nat → Nat

/-- Run seconds after their greatest value, by the counter of `State.free` (R155; log 5). -/
opaque runSecAfterLimit : Nat → Nat

/-- Whether an OPEN tune whose two measurements are equal records level 12 and not level 4; its
argument is the current (R53 step 1; log 11). -/
opaque openTieAtLevel12 : Nat → Bool

/-- The retained content as bytes, over which the check value is computed (R184; log 7). -/
opaque retainedBytes {Content : Type} : Content → List Byte

/-- How the stored check value of the retained region stands after its content is lost, by the counter of `State.free`
(R184; log 7). -/
opaque skewAfterLoss : Nat → Nat

/-- The code echo of a malformed frame that ended before one whole byte had come; its argument is the counter of
`State.free` (R169; log 5). -/
opaque echoOfNoByte : Nat → Byte

end Sys2Proof.Config
end

