-- ==== Sys2Proof/Machine/State.lean ====
section
/-! DEFINITION. The state of the part, block by block (Table 0-1), as plain data, and its value after reset. -/

namespace Sys2Proof.Machine

/-- No command of this part stops it: every command has its effect, or a stated absence of one, in every
state. There is nothing to raise, so nothing is safe or unsafe here. -/
inductive Fault where
  deriving DecidableEq, Repr

/-- Why a command has no meaning. -/
inductive Refusal where
  /-- Raised by `exec` for a command that has no meaning yet, and by no meaning. Safe: the model stops where the
  part goes on. -/
  | notModelled (mnemonic : String)
  deriving DecidableEq, Repr

/-! ## Pass table (chapter 1) -/

inductive Origin where
  | resident | learned
  deriving DecidableEq, Repr

/-- The values of a prior state (Table 1-1). -/
inductive Standing where
  | active | blocked
  deriving DecidableEq, Repr

/-- The state of a record. The prior state is present exactly while the state is HELD (R1), so HELD carries it. -/
inductive RecState where
  | active | blocked | held (prior : Standing) | refunded
  deriving DecidableEq, Repr

def Standing.toState : Standing → RecState
  | .active => .active
  | .blocked => .blocked

/-- The ticket group of Table 1-1. -/
structure Ticket where
  product : Nat
  days : Nat
  firstDay : Nat
  lastDay : Nat
  paid : Nat
  deriving DecidableEq, Repr

structure Rides where
  count : Nat
  day : Nat
  deriving DecidableEq, Repr

structure LastPassage where
  second : Nat
  lane : Lane
  deriving DecidableEq, Repr

/-- A pass record (Table 1-1). -/
structure PassRecord where
  pass : PassNo
  origin : Origin
  state : RecState
  ticket : Option Ticket
  used : Nat
  lastUse : Option Nat
  consumedHere : Option Nat
  rides : Option Rides
  lastPassage : Option LastPassage
  behind : Bool
  live : Option Lane
  lastSeen : Nat
  deriving DecidableEq, Repr

/-- The ways in use, as (slot, record) with slot = bucket × 4 + way; a slot not listed is a free way (R1, R4). -/
abbrev PassTable := List (Nat × PassRecord)

/-! ## Reader (chapter 2) -/

/-- The reader settings of Table 2-9. -/
structure ReaderSettings where
  attempts : Nat
  threshold : Nat
  coarse : Nat
  fine : Int
  window : Nat
  target : Nat
  deriving DecidableEq, Repr

inductive TuneResult where
  | ok | limit | opened | shorted
  deriving DecidableEq, Repr

/-- A tune record (R53). Its antenna is the place it stands at. -/
structure TuneRecord where
  level : Nat
  current : Nat
  newLevel : Nat
  result : TuneResult
  deriving DecidableEq, Repr

/-- The outcomes of Table 2-6. -/
inductive VisitOutcome where
  | card | silent | collide | corrupt | clip
  deriving DecidableEq, Repr

/-- What the reader remembers of one position (R35, R47 to R49). PS keeps no collide run: it stays 0. -/
structure PosMemory where
  faultCount : Nat
  degraded : Bool
  fault : Bool
  collideRun : Nat
  lastOutcome : Option VisitOutcome
  deriving DecidableEq, Repr

/-- The purpose of a visit (R30). -/
inductive Purpose where
  | scanRead | serviceRead | laneStamp | serviceStamp | tune
  deriving DecidableEq, Repr

inductive VisitKind where
  | read | stamp | tune
  deriving DecidableEq, Repr

def Purpose.kind : Purpose → VisitKind
  | .scanRead | .serviceRead => .read
  | .laneStamp | .serviceStamp => .stamp
  | .tune => .tune

/-- The visit record of a read or a stamp attempt: level and timing are copied at the start (R30); the wait is in
microseconds, the window in milliseconds. -/
structure CardVisit where
  purpose : Purpose
  position : Position
  antenna : Antenna
  level : Nat
  wait : Int
  window : Nat
  deriving DecidableEq, Repr

/-- The visit record. A tune has no position, level or timing; it keeps the target it started with (R55) and
whether an ANTENNA TUNE order waits on it (R51). -/
inductive Visit where
  | card (v : CardVisit)
  | tune (antenna : Antenna) (target : Nat) (ordered : Bool)
  deriving DecidableEq, Repr

inductive Requester where
  | dayStamp | writeBack | commit
  deriving DecidableEq, Repr

/-- A stamp request (Table 2-5), and the echoed pass number of its last attempt with outcome CARD (R45). -/
structure StampReq where
  position : Position
  requester : Requester
  pass : PassNo
  used : Nat
  lastUse : Option Nat
  mark : Bool
  seq : Nat
  attempts : Nat
  time : Nat
  echoed : Option PassNo
  deriving DecidableEq, Repr

/-- The content of the service slot (R37). -/
inductive ServiceVisit where
  | read (made : Nat)
  | stamp (r : StampReq)
  deriving DecidableEq, Repr

structure TuneEntry where
  antenna : Antenna
  ordered : Bool
  deriving DecidableEq, Repr

structure Reader where
  map : PerPos (Option Antenna)
  /-- A deferred change of a position: the antenna or NONE it will take (R33). -/
  deferred : PerPos (Option (Option Antenna))
  levels : PerAnt Nat
  tunes : PerAnt (Option TuneRecord)
  pos : PerPos PosMemory
  settings : ReaderSettings
  visit : Option Visit
  slot : Option ServiceVisit
  stamps : List StampReq
  tuneList : List TuneEntry
  pointer : Lane
  deriving DecidableEq, Repr

/-! ## Admission unit (chapter 3) -/

/-- The settings of Table 3-1; the repeat-quiet time is in tenths of a second. -/
structure AdmSettings where
  resort : Nat
  lockout : Nat
  quiet : Nat
  learnMask : PerLane Bool
  deriving DecidableEq, Repr

/-- A lane rule (Table 3-2). -/
structure LaneRule where
  enabled : Bool
  value : Nat
  mask : Nat
  lanes : PerLane Bool
  start : Nat
  stop : Nat
  cls : Nat
  charge : Bool
  deriving DecidableEq, Repr

/-- The refusal reasons in the order of Table 3-3. -/
inductive RefuseReason where
  | unreadable | foreign | noClock | refunded | blocked | held | inUse | notYet | expired
  | rule | noDays | passback
  deriving DecidableEq, Repr

/-- A verdict's kind, with the reason where the kind has one (Table 3-4). -/
inductive VerdictKind where
  | admitted | queued | refuse (r : RefuseReason) | withdrawn (r : WithdrawReason) | manual
  deriving DecidableEq, Repr

/-- The verdict flags of 00_scope.md 4.6. -/
structure VerdictFlags where
  newDay : Bool
  noCharge : Bool
  unlearned : Bool
  behind : Bool
  fromQueue : Bool
  deriving DecidableEq, Repr

inductive Passage where
  | idle | queued | granted | entering
  deriving DecidableEq, Repr

/-- A verdict record (Table 3-4). Product and last valid day are absent together (R77). -/
structure Verdict where
  seq : Nat
  kind : VerdictKind
  pass : PassNo
  product : Option Nat
  remaining : Nat
  lastDay : Option Nat
  flags : VerdictFlags
  cls : Nat
  passage : Passage
  deriving DecidableEq, Repr

/-- The pass data of an admission note (R71). -/
structure NoteData where
  seq : Nat
  flags : VerdictFlags
  product : Nat
  days : Nat
  used : Nat
  lastDay : Nat
  deriving DecidableEq, Repr

/-- An admission note; the note of a manual context holds no pass data (R71). -/
structure Note where
  cls : Nat
  data : Option NoteData
  deriving DecidableEq, Repr

/-- A filled repeat-quiet memory (R54). -/
structure Quiet where
  pass : PassNo
  deadline : Nat
  deriving DecidableEq, Repr

structure Admission where
  settings : AdmSettings
  rules : Vector LaneRule 16
  verdicts : PerLane (Option Verdict)
  quiet : PerLane (Option Quiet)
  notes : PerLane (Option Note)
  deriving DecidableEq, Repr

/-! ## Lane units (chapter 4) -/

inductive Mode where
  | opened | closed | free
  deriving DecidableEq, Repr

/-- The beam tracker with its passage-seen mark (R85). -/
inductive Tracker where
  | clear
  | fromEntry (seen : Bool)
  | fromExit (seen : Bool)
  deriving DecidableEq, Repr

/-- A debounced input: the raw level, the debounced level, and the moment from which the raw level has stood
different from the debounced one (R84). `true` is broken, or active. -/
structure Debounced where
  raw : Bool
  level : Bool
  since : Option Nat
  deriving DecidableEq, Repr

/-- A lane context (R87). The two times are present together, from the grant on. -/
structure Context where
  pass : Option PassNo
  cls : Nat
  newDay : Bool
  noCharge : Bool
  grantTime : Option Nat
  windowEnd : Option Nat
  deriving DecidableEq, Repr

inductive SignalKind where
  | refusal | withdrawn | intrusion
  deriving DecidableEq, Repr

structure Signal where
  kind : SignalKind
  endAt : Nat
  deriving DecidableEq, Repr

/-- The lamp states of Table 4-3. -/
inductive Lamp where
  | dark | greenSteady | greenBlink | redSteady | redBlink
  deriving DecidableEq, Repr

inductive Pitch where
  | khz10 | khz16 | khz24 | khz32
  deriving DecidableEq, Repr

/-- The tone patterns of R100. -/
inductive Pattern where
  | highTone | twoLow | lowTone
  deriving DecidableEq, Repr

/-- A playing tone pattern: its start and end, the pitch of its first tone, and the pitch its second tone has or will
start with, none where muted or where it has no second tone (R100; log 17). -/
structure Tone where
  pattern : Pattern
  start : Nat
  endAt : Nat
  first : Pitch
  second : Option Pitch
  deriving DecidableEq, Repr

inductive ReportKind where
  | admitted | manual | free | intrusion | reverse | expired
  deriving DecidableEq, Repr

/-- The last passage report (R96). -/
structure Report where
  kind : ReportKind
  pass : PassNo
  second : Nat
  seq : Nat
  deriving DecidableEq, Repr

/-- The per-lane settings of Table 4-4; the grant window is in tenths of a second. -/
structure LaneSettings where
  window : Nat
  high : Pitch
  low : Pitch
  mute : Bool
  deriving DecidableEq, Repr

structure LaneUnit where
  mode : Mode
  passage : Passage
  tracker : Tracker
  enb : Debounced
  exb : Debounced
  ctx : Option Context
  signal : Option Signal
  tone : Option Tone
  report : Option Report
  /-- The lamp state shown and the moment it was entered, from which a blink runs (R99; log 17). -/
  lamp : Lamp
  lampSince : Nat
  settings : LaneSettings
  deriving DecidableEq, Repr

/-! ## Loading monitor (chapter 5) -/

/-- A release queue entry (R110). The pass number is 0 for a manual context. -/
structure QueueEntry where
  lane : Lane
  pass : PassNo
  cls : Nat
  enqueued : Nat
  deadline : Nat
  deriving DecidableEq, Repr

/-- A withdrawal handed to the loading monitor and not yet taken (R113). -/
structure Handed where
  lane : Lane
  reason : WithdrawReason
  deriving DecidableEq, Repr

structure Loading where
  occupancy : Nat
  live : Nat
  queue : List QueueEntry
  limit : Nat
  hold : Nat
  liftStop : Bool
  board : Debounced
  handed : List Handed
  deriving DecidableEq, Repr

/-! ## Count unit (chapter 6) -/

/-- The lane day counters of Table 6-1. -/
structure LaneCounts where
  admitted : Nat
  manual : Nat
  free : Nat
  intrusions : Nat
  reverse : Nat
  expiries : Nat
  withdrawals : Nat
  newDays : Nat
  deriving DecidableEq, Repr

/-- The refusal counts of R121, in the order of Table 3-3. -/
abbrev RefusalCounts := Vector Nat 12

/-- The lift day counters of Table 6-2. -/
structure LiftCounts where
  total : Nat
  boarded : Nat
  excess : Nat
  unlearned : Nat
  learnFailures : Nat
  unrecorded : Nat
  refunds : Nat
  refundTotal : Nat
  peak : Nat
  deriving DecidableEq, Repr

/-- A count set with its counted day (R119). -/
structure CountSet where
  day : Nat
  lanes : PerLane LaneCounts
  refusals : PerLane RefusalCounts
  lift : LiftCounts
  deriving DecidableEq, Repr

/-- A minute bin (R125); `none` is the minute unknown. -/
structure Bin where
  minute : Option Nat
  passages : Nat
  boarded : Nat
  deriving DecidableEq, Repr

structure Counts where
  current : CountSet
  previous : Option CountSet
  openBin : Bin
  ring : List Bin
  deriving DecidableEq, Repr

/-! ## Refund engine (chapter 7) -/

/-- A tariff set (Table 7-1); `prices` are T(1) to T(21). -/
structure Tariff where
  product : Nat
  prices : List Nat
  fee : Nat
  minDays : Nat
  unit : Nat
  minRefund : Nat
  claim : Nat
  refundable : Bool
  deriving DecidableEq, Repr

/-- The quote flags of Table 11-3. -/
structure QuoteFlags where
  credited : Bool
  minCharge : Bool
  feeClamped : Bool
  belowMinimum : Bool
  cardBehind : Bool
  deriving DecidableEq, Repr

/-- The values of a quote (R138 to R140, Table 11-8). -/
structure Quote where
  product : Nat
  days : Nat
  paid : Nat
  used : Nat
  charge : Nat
  charged : Nat
  listK : Nat
  listD : Nat
  usedValue : Nat
  gross : Nat
  fee : Nat
  afterFee : Nat
  unit : Nat
  refund : Nat
  minRefund : Nat
  flags : QuoteFlags
  deriving DecidableEq, Repr

/-- The refund context's fields in READING from the taking of the card answer (Table 7-2). -/
structure Reading where
  pass : PassNo
  readDay : Nat
  seq : Nat
  quote : Option Quote
  deriving DecidableEq, Repr

/-- The refund context's fields in QUOTED and COMMITTING (Table 7-2), and the refund hold that the quote body
carries (Table 11-8). -/
structure StandingQuote where
  pass : PassNo
  readDay : Nat
  seq : Nat
  quote : Quote
  number : Nat
  deadline : Nat
  hold : Nat
  deriving DecidableEq, Repr

inductive RefundCtx where
  | idle
  | reading (r : Option Reading)
  | quoted (q : StandingQuote)
  | committing (q : StandingQuote) (pendingSeq : Nat)
  deriving DecidableEq, Repr

inductive QuoteEnd where
  | opened | released | expired | committed
  deriving DecidableEq, Repr

/-- The last quote as REFUND STATUS reports it (R153). -/
structure LastQuote where
  number : Nat
  pass : PassNo
  refund : Nat
  outcome : QuoteEnd
  deriving DecidableEq, Repr

inductive EntryStatus where
  | pending | done | uncertain
  deriving DecidableEq, Repr

/-- A journal entry (Table 7-8). -/
structure JournalEntry where
  seq : Nat
  status : EntryStatus
  quote : Nat
  pass : PassNo
  product : Nat
  days : Nat
  charged : Nat
  paid : Nat
  refund : Nat
  day : Nat
  time : Nat
  deriving DecidableEq, Repr

/-- The tariff staging record: the part 1 fields, with eleven prices (R191). -/
abbrev Staging := Tariff

structure RefundEngine where
  tariffs : List Tariff
  staging : Option Staging
  hold : Nat
  ctx : RefundCtx
  lastNumber : Nat
  lastQuote : Option LastQuote
  journal : List JournalEntry
  nextSeq : Nat
  deriving DecidableEq, Repr

/-! ## Time unit (chapter 8) -/

/-- The sync modes; ONE_SHOT is ONE_SHOT armed (R160). -/
inductive SyncMode where
  | off | oneShot | continuous | monitor
  deriving DecidableEq, Repr

/-- The snapshot of R161: the phase error, and the operating day and time of day where the clock was SET. -/
structure Snapshot where
  error : Int
  clock : Option (Nat × Nat)
  deriving DecidableEq, Repr

structure TimeUnit where
  ms : Nat
  runSec : Nat
  /-- The time of day while the clock is SET; `none` is UNSET (R156). -/
  tod : Option Nat
  /-- The last operating day, in force while the clock is SET (R157). -/
  lastDay : Nat
  boundaryHour : Nat
  secStart : Nat
  secEnd : Nat
  mode : SyncMode
  jitter : Nat
  pulseLost : Bool
  watch : Option Nat
  lastPulse : Option Nat
  snapshot : Option Snapshot
  pulseCount : Nat
  driftCount : Nat
  /-- The model's own: the run second of the latest run minute taken (log 29). -/
  runMinuteTaken : Nat
  deriving DecidableEq, Repr

/-! ## Supply and retention (chapter 10) -/

inductive SupplyState where
  | run | low | down
  deriving DecidableEq, Repr

inductive StartKind where
  | warm | cold
  deriving DecidableEq, Repr

structure Supply where
  state : SupplyState
  vmain : VmainBand
  /-- Milliseconds for which VMAIN has stood above the recovery level, up to 200 (R185 step 4). -/
  stood : Nat
  resetHeld : Bool
  recovery : Option Nat
  /-- How far the check value stored with the retained region stands from the value of its content: 0 while the two are in
  step (R184; log 7). -/
  checkSkew : BitVec 16
  startKind : StartKind
  startCause : StartCause
  lowCount : Nat
  lastChange : Option Nat
  deriving DecidableEq, Repr

/-! ## Order ports (chapter 9) -/

/-- The result codes of Table 9-2. -/
inductive Result where
  | ok | busy | badFrame | unknown | denied | badArg | notFound | pinned | tableFull | state
  | noCard | cardMismatch | noTariff | notRefundable | journalFull | expired | lowSupply
  | unreadable | foreign | refunded | blocked | inUse
  deriving DecidableEq, Repr

/-- The state of a position (Table 2-2). -/
inductive PosState where
  | tuning | fault | off | busy | scan
  deriving DecidableEq, Repr

/-- What POSITION STATUS returns of one position (R56). -/
structure PosStatus where
  antenna : Option Antenna
  state : PosState
  memory : PosMemory
  /-- The attempts remaining of the stamp or service visit pending for the position. -/
  pendingAttempts : Option Nat
  deriving DecidableEq, Repr

/-- What POSITION STATUS returns of one antenna (R56). -/
structure AntStatus where
  level : Nat
  tune : Option TuneRecord
  tunePending : Bool
  deriving DecidableEq, Repr

structure PositionReport where
  positions : PerPos PosStatus
  antennas : PerAnt AntStatus
  visit : Option Visit
  pointer : Lane
  settings : ReaderSettings
  deriving DecidableEq, Repr

/-- What LANE STATUS returns (R102). The context comes with the milliseconds remaining to its window end. -/
structure LaneReport where
  mode : Mode
  passage : Passage
  tracker : Tracker
  enb : Bool
  exb : Bool
  rel : Bool
  lamp : Lamp
  tone : Bool
  ctx : Option (Context × Option Nat)
  position : PosState
  degraded : Bool
  faultCount : Nat
  report : Option Report
  settings : LaneSettings
  debounce : Nat
  deriving DecidableEq, Repr

/-- What LOADING STATUS returns (R117); each queue entry comes with the milliseconds remaining to its deadline. -/
structure LoadingReport where
  occupancy : Nat
  live : Nat
  sum : Nat
  limit : Nat
  hold : Nat
  liftStop : Bool
  supply : SupplyState
  room : Bool
  queue : List (QueueEntry × Nat)
  peak : Nat
  deriving DecidableEq, Repr

/-- What REFUND STATUS returns (R153). -/
structure RefundReport where
  ctx : RefundCtx
  remaining : Option Nat
  lastQuote : Option LastQuote
  entries : Nat
  nextSeq : Nat
  tariffs : Nat
  hold : Nat
  deriving DecidableEq, Repr

/-- What CLOCK STATUS returns (R165). -/
structure ClockReport where
  tod : Option Nat
  day : Nat
  boundaryHour : Nat
  runSec : Nat
  intoSecond : Nat
  mode : SyncMode
  jitter : Nat
  pulseLost : Bool
  snapshot : Option Snapshot
  pulseCount : Nat
  driftCount : Nat
  deriving DecidableEq, Repr

/-- What SUPPLY STATUS returns (R189). -/
structure SupplyReport where
  state : SupplyState
  recovery : Option Nat
  startKind : StartKind
  startCause : StartCause
  lowCount : Nat
  lastChange : Option Nat
  deriving DecidableEq, Repr

/-- A reply body by its named fields. Its bytes are laid out by Sys2Proof/Machine/Layout.lean (R190, R191). -/
inductive Body where
  | none
  | passEdit (created : Bool) (bucket way : Nat) (evicted : PassNo)
  | cleared (count : Nat)
  | passRecord (bucket way : Nat) (r : PassRecord) (ridesToday : Nat)
  | tableStatus (resident learned pinned full failures : Nat)
  | readerSettings (r : ReaderSettings)
  | antennaMap (m : PerPos (Option Antenna))
  | tuneRecord (a : Antenna) (t : TuneRecord)
  | positionStatus (r : PositionReport)
  | admSettings (r : AdmSettings)
  | laneRule (index : Option Nat) (r : LaneRule)
  | verdict (v : Verdict)
  | laneMode (m : Mode) (p : Passage)
  | laneStatus (r : LaneReport)
  | laneSettings (debounce : Nat) (rs : List LaneSettings)
  | passage (p : Passage)
  | loadingSettings (limit hold : Nat)
  | loadingStatus (r : LoadingReport)
  | lanePart (day : Nat) (clockSet : Option Bool) (c : LaneCounts)
  | refusalPart (day : Nat) (clockSet : Option Bool) (c : RefusalCounts)
  | liftPart (day : Nat) (clockSet : Option Bool) (c : LiftCounts)
  | bins (held : Nat) (bins : List Bin) (openBin : Bin)
  | tariff (held : Nat) (t : Tariff)
  | refundHold (hold : Nat)
  | quote (q : StandingQuote)
  | cardPass (p : PassNo)
  | journalSeq (seq : Nat)
  | refundStatus (r : RefundReport)
  | journal (held nextSeq : Nat) (es : List JournalEntry)
  | remaining (n : Nat)
  | clockSet (tod day boundaryHour : Nat)
  | clockSync (mode : SyncMode) (jitter : Nat) (pulseLost : Bool)
  | clockStatus (r : ClockReport)
  | supplyStatus (r : SupplyReport)
  | notices (set : BitVec 16) (station : Option (Option StartKind))
  | noticeMask (mask set : BitVec 16)
  | ident (p : Port)
  deriving DecidableEq, Repr

/-- A reply (R168). The REPEAT flag belongs to a fetch and is formed there (R172). -/
structure Reply where
  code : Byte
  result : Result
  lost : Bool
  body : Body
  deriving DecidableEq, Repr

inductive Slot where
  | empty
  | inProgress (code : Byte)
  | ready (r : Reply)
  deriving DecidableEq, Repr

/-- A port context (R168), with the fetch transaction in progress and what the data output carried in the latest
transaction, its last zeros left off: an order transaction carries 0x00 alone (R167, R172). -/
structure PortCtx where
  slot : Slot
  lost : Bool
  delivered : Bool
  notices : BitVec 16
  mask : BitVec 16
  /-- The reply bytes that the open fetch transaction sends, empty where its status was 0x00. -/
  fetch : Option (List Byte)
  sent : List Byte
  awaitRelease : Bool
  deriving DecidableEq, Repr

structure Ports where
  ctx : PerPort PortCtx
  /-- The start kind, present while START is pending on the station port (R168). -/
  startKind : Option StartKind
  deriving DecidableEq, Repr

/-! ## The whole part -/

structure State where
  table : PassTable
  reader : Reader
  adm : Admission
  lanes : PerLane LaneUnit
  /-- The common debounce time in milliseconds (Table 4-4). -/
  debounce : Nat
  load : Loading
  counts : Counts
  refund : RefundEngine
  time : TimeUnit
  ports : Ports
  supply : Supply
  /-- The model's own: the counter that free values are applied to (log 5). -/
  free : Nat
  /-- The model's own: the commands that wait, first in, first out (log 1). -/
  pending : List Instr
  deriving DecidableEq, Repr

/-- The content of the retained region (Table 10-2). The learn mask is one of the admission settings. -/
structure Retained where
  table : PassTable
  map : PerPos (Option Antenna)
  levels : PerAnt Nat
  tunes : PerAnt (Option TuneRecord)
  reader : ReaderSettings
  admission : AdmSettings
  rules : Vector LaneRule 16
  modes : PerLane Mode
  lanes : PerLane LaneSettings
  debounce : Nat
  limit : Nat
  hold : Nat
  current : CountSet
  previous : Option CountSet
  tariffs : List Tariff
  refundHold : Nat
  journal : List JournalEntry
  nextSeq : Nat
  lastDay : Nat
  boundaryHour : Nat
  jitter : Nat
  deriving DecidableEq, Repr

/-! ## Cold values (Table 10-2) and start-up values -/

/-- Table 2-9, cold defaults. -/
def ReaderSettings.cold : ReaderSettings :=
  { attempts := 3, threshold := 8, coarse := 6, fine := 0, window := 3, target := 250 }

/-- R57: every position's memory at a start-up. -/
def PosMemory.start : PosMemory :=
  { faultCount := 0, degraded := false, fault := false, collideRun := 0, lastOutcome := none }

/-- Table 2-1. -/
def coldMap : PerPos (Option Antenna) :=
  { lane := { l0 := some .a0, l1 := some .a1, l2 := some .a2, l3 := some .a3 }, ps := some .a4 }

/-- R57, cold start. -/
def Reader.cold : Reader :=
  { map := coldMap, deferred := .const none, levels := .const 8, tunes := .const none, pos := .const .start,
    settings := .cold, visit := none, slot := none, stamps := [], tuneList := [], pointer := .l3 }

/-- Table 3-1, cold defaults. -/
def AdmSettings.cold : AdmSettings :=
  { resort := 0, lockout := 180, quiet := 20, learnMask := .const true }

/-- R59: rules 1 to 15 at a cold start. -/
def LaneRule.cold : LaneRule :=
  { enabled := false, value := 0, mask := 0, lanes := .const false, start := 0, stop := 0, cls := 0, charge := false }

/-- R59: rule 0 at a cold start. -/
def LaneRule.cold0 : LaneRule :=
  { enabled := true, value := 0, mask := 0, lanes := .const true, start := 0, stop := 0, cls := 3, charge := true }

def coldRules : Vector LaneRule 16 :=
  (Vector.replicate 16 LaneRule.cold).set 0 LaneRule.cold0

/-- R80, cold start. -/
def Admission.cold : Admission :=
  { settings := .cold, rules := coldRules, verdicts := .const none, quiet := .const none, notes := .const none }

/-- Table 4-4, cold defaults. -/
def LaneSettings.cold : LaneSettings :=
  { window := 80, high := .khz24, low := .khz10, mute := false }

def Debounced.rest : Debounced := { raw := false, level := false, since := none }

/-- R103, cold start, with both beams clear (log 28). -/
def LaneUnit.cold : LaneUnit :=
  { mode := .closed, passage := .idle, tracker := .clear, enb := .rest, exb := .rest, ctx := none, signal := none,
    tone := none, report := none, lamp := .redSteady, lampSince := 0, settings := .cold }

/-- R118, cold start, with LIFT_STOP and BOARD inactive (log 28). -/
def Loading.cold : Loading :=
  { occupancy := 0, live := 0, queue := [], limit := 24, hold := 20, liftStop := false, board := .rest, handed := [] }

def LaneCounts.zero : LaneCounts :=
  { admitted := 0, manual := 0, free := 0, intrusions := 0, reverse := 0, expiries := 0, withdrawals := 0,
    newDays := 0 }

def LiftCounts.zero : LiftCounts :=
  { total := 0, boarded := 0, excess := 0, unlearned := 0, learnFailures := 0, unrecorded := 0, refunds := 0,
    refundTotal := 0, peak := 0 }

/-- A count set with every counter 0 and the given counted day. -/
def CountSet.zero (day : Nat) : CountSet :=
  { day := day, lanes := .const .zero, refusals := .const (Vector.replicate 12 0), lift := .zero }

def Bin.fresh (minute : Option Nat) : Bin := { minute := minute, passages := 0, boarded := 0 }

/-- R129, cold start. -/
def Counts.cold : Counts :=
  { current := .zero 0, previous := none, openBin := .fresh none, ring := [] }

/-- R154, cold start. -/
def RefundEngine.cold : RefundEngine :=
  { tariffs := [], staging := none, hold := 180, ctx := .idle, lastNumber := 0, lastQuote := none, journal := [],
    nextSeq := 0 }

/-- R166, cold start. -/
def TimeUnit.cold : TimeUnit :=
  { ms := 0, runSec := 0, tod := none, lastDay := 0, boundaryHour := 3, secStart := 0, secEnd := 1000, mode := .off,
    jitter := 20, pulseLost := false, watch := none, lastPulse := none, snapshot := none, pulseCount := 0,
    driftCount := 0, runMinuteTaken := 0 }

/-- R168: a port context at the end of a start-up, before any notice is raised. -/
def PortCtx.start : PortCtx :=
  { slot := .empty, lost := false, delivered := false, notices := 0, mask := 0, fetch := none, sent := [],
    awaitRelease := false }

/-- Bit 6 of Table 11-4: START on the station port. -/
def startNoticeBit : BitVec 16 := 0x0040

/-- The machine right after reset: a part powered for the first time, whose RESET has been released with VMAIN above
the recovery level for 200 ms, has made its cold start (R184, R185, R187; log 2). -/
def State.reset : State :=
  { table := []
    reader := .cold
    adm := .cold
    lanes := .const .cold
    debounce := 30
    load := .cold
    counts := .cold
    refund := .cold
    time := .cold
    ports := { ctx := { lp := .const .start, sp := { PortCtx.start with notices := startNoticeBit } },
               startKind := some .cold }
    supply := { state := .run, vmain := .aboveRecovery, stood := 200, resetHeld := false, recovery := none,
                checkSkew := 0, startKind := .cold, startCause := .reset, lowCount := 0, lastChange := none }
    free := 0
    pending := [] }

end Sys2Proof.Machine
end

