-- ==== Sys2Proof/Machine/Flags.lean ====
section
/-! DEFINITION. Check values, counters that saturate or wrap, and the flag and notice bits (R42, R169, Tables 11-3 and
11-4). -/

namespace Sys2Proof.Machine

/-! ## Cyclic redundancy checks -/

/-- `n` shifts of a most-significant-bit-first check register of 8 bits with polynomial 0x31 (R42, R169). -/
def crc8Shifts : Nat → BitVec 8 → BitVec 8
  | 0, c => c
  | n + 1, c => crc8Shifts n (if c.msb then (c <<< 1) ^^^ 0x31#8 else c <<< 1)

/-- The 8-bit check of order frames, replies and usage blocks: polynomial 0x31, initial value 0xFF, no final
inversion (R42, R169, R172). -/
def crc8 (bytes : List Byte) : Byte :=
  bytes.foldl (fun c b => crc8Shifts 8 (c ^^^ b)) 0xFF#8

/-- `n` shifts of a check register of 16 bits with polynomial 0x1021 (R42). -/
def crc16Shifts : Nat → BitVec 16 → BitVec 16
  | 0, c => c
  | n + 1, c => crc16Shifts n (if c.msb then (c <<< 1) ^^^ 0x1021#16 else c <<< 1)

/-- The 16-bit check of air frames and ticket blocks: polynomial 0x1021, the given initial value, no final
inversion (R42). -/
def crc16 (init : BitVec 16) (bytes : List Byte) : BitVec 16 :=
  bytes.foldl (fun c b => crc16Shifts 8 (c ^^^ (b.setWidth 16).shiftLeft 8)) init

/-! ## Counters (00_scope.md 4.2) -/

/-- The greatest value of a 32-bit day counter (R120, R122). -/
def max32 : Nat := 4294967295

/-- The greatest value of a 16-bit count (R121, R125, R163, R189). -/
def max16 : Nat := 65535

/-- Adds `k` to a counter that saturates at `m`. -/
def addSat (m k c : Nat) : Nat := min m (c + k)

/-- Advances a counter that wraps to 0 after `m - 1`. -/
def addWrap (m c : Nat) : Nat := (c + 1) % m

/-! ## Flag bytes (Table 11-3) -/

def bit (b : Bool) (k : Nat) : Nat := if b then 2 ^ k else 0

def VerdictFlags.none : VerdictFlags :=
  { newDay := false, noCharge := false, unlearned := false, behind := false, fromQueue := false }

def VerdictFlags.toByte (f : VerdictFlags) : Byte :=
  BitVec.ofNat 8 (bit f.newDay 0 + bit f.noCharge 1 + bit f.unlearned 2 + bit f.behind 3 + bit f.fromQueue 4)

def QuoteFlags.none : QuoteFlags :=
  { credited := false, minCharge := false, feeClamped := false, belowMinimum := false, cardBehind := false }

def QuoteFlags.toByte (f : QuoteFlags) : Byte :=
  BitVec.ofNat 8
    (bit f.credited 0 + bit f.minCharge 1 + bit f.feeClamped 2 + bit f.belowMinimum 3 + bit f.cardBehind 4)

/-! ## Notices (Table 0-3, Table 11-4) -/

inductive LaneNotice where
  | verdict | passage | crowded | position | mode | orderDone
  deriving DecidableEq, Repr

inductive StationNotice where
  | journal | holdEnd | clock | rollover | antenna | supply | start | intrusion | orderDone
  deriving DecidableEq, Repr

def LaneNotice.mask : LaneNotice → BitVec 16
  | .verdict => 0x0001 | .passage => 0x0002 | .crowded => 0x0004 | .position => 0x0008
  | .mode => 0x0010 | .orderDone => 0x0020

def StationNotice.mask : StationNotice → BitVec 16
  | .journal => 0x0001 | .holdEnd => 0x0002 | .clock => 0x0004 | .rollover => 0x0008
  | .antenna => 0x0010 | .supply => 0x0020 | .start => 0x0040 | .intrusion => 0x0080
  | .orderDone => 0x0100

/-- The notices that a port has (Table 11-4). -/
def portNotices : Port → BitVec 16
  | .lp _ => 0x003F
  | .sp => 0x01FF

/-- ORDER_DONE of a port. -/
def orderDoneBit : Port → BitVec 16
  | .lp _ => LaneNotice.orderDone.mask
  | .sp => StationNotice.orderDone.mask

end Sys2Proof.Machine
end

