-- ==== Sys2Proof/Machine/Operands.lean ====
section
/-! DEFINITION. Operand forms: numbers in frames, most significant byte first (R190), and the field values that orders
accept (Tables 11-1 and 11-3). -/

namespace Sys2Proof.Machine

/-! ## Multi-byte numbers -/

/-- The number that bytes spell, most significant first (R190). -/
def beNat (bytes : List Byte) : Nat :=
  bytes.foldl (fun acc b => acc * 256 + b.toNat) 0

/-- A number as `k` bytes, most significant first (R190). -/
def beBytes : Nat → Nat → List Byte
  | 0, _ => []
  | k + 1, n => BitVec.ofNat 8 (n / 256 ^ k) :: beBytes k n

/-- The number in `len` bytes of a frame from byte `at` on. -/
def field (bytes : List Byte) (start len : Nat) : Nat :=
  beNat ((bytes.drop start).take len)

/-- One byte of a frame. -/
def byteAt (bytes : List Byte) (i : Nat) : Byte := bytes.getD i 0

/-- A two's complement byte (R190). -/
def signedByte (b : Byte) : Int := b.toInt

/-! ## Field values -/

def laneOf (b : Byte) : Option Lane :=
  match b.toNat with
  | 0 => some .l0 | 1 => some .l1 | 2 => some .l2 | 3 => some .l3
  | _ => none

/-- The lanes an order names: one lane, or all four by 0xFF (LANE SET, Table 11-1). -/
def lanesOf (b : Byte) : Option (List Lane) :=
  if b = 0xFF#8 then some Lane.all else (laneOf b).map ([·])

def antennaOf (b : Byte) : Option Antenna :=
  match b.toNat with
  | 0 => some .a0 | 1 => some .a1 | 2 => some .a2 | 3 => some .a3 | 4 => some .a4 | 5 => some .a5
  | _ => none

/-- An antenna or NONE as ANTENNA MAP carries it; the outer `none` is a value the order does not accept. -/
def mapEntryOf (b : Byte) : Option (Option Antenna) :=
  if b = 0xFF#8 then some none else (antennaOf b).map some

/-- A set of lanes; `none` where a bit above bit 3 is set (R190). -/
def laneSetOf (b : Byte) : Option (PerLane Bool) :=
  if b.toNat < 16 then
    some { l0 := b.getLsbD 0, l1 := b.getLsbD 1, l2 := b.getLsbD 2, l3 := b.getLsbD 3 }
  else none

/-- A yes or no byte (0, 1). -/
def boolOf (b : Byte) : Option Bool :=
  match b.toNat with
  | 0 => some false
  | 1 => some true
  | _ => none

/-- The record states that PASS PUT accepts (R21, Table 11-3). -/
def standingOf (b : Byte) : Option Standing :=
  match b.toNat with
  | 0 => some .active
  | 1 => some .blocked
  | _ => none

def modeOf (b : Byte) : Option Mode :=
  match b.toNat with
  | 0 => some .opened
  | 1 => some .closed
  | 2 => some .free
  | _ => none

def pitchOf (b : Byte) : Option Pitch :=
  match b.toNat with
  | 0 => some .khz10
  | 1 => some .khz16
  | 2 => some .khz24
  | 3 => some .khz32
  | _ => none

def syncModeOf (b : Byte) : Option SyncMode :=
  match b.toNat with
  | 0 => some .off
  | 1 => some .oneShot
  | 2 => some .continuous
  | 3 => some .monitor
  | _ => none

/-- A number that must lie in a range, as R190 asks of every field. -/
def inRange (lo hi n : Nat) : Option Nat := if lo ≤ n ∧ n ≤ hi then some n else none

/-- The nine rounding units of Table 7-1. -/
def roundingUnits : List Nat := [1, 2, 5, 10, 20, 50, 100, 200, 500]

/-! ## Codes of Table 11-3 -/

def RefuseReason.index : RefuseReason → Fin 12
  | .unreadable => 0 | .foreign => 1 | .noClock => 2 | .refunded => 3 | .blocked => 4 | .held => 5
  | .inUse => 6 | .notYet => 7 | .expired => 8 | .rule => 9 | .noDays => 10 | .passback => 11

def withdrawCode : WithdrawReason → Byte
  | .holdTimeout => 0x21 | .blocked => 0x22 | .laneClosed => 0x24 | .lowSupply => 0x25

def VerdictKind.code : VerdictKind → Byte
  | .admitted => 1 | .queued => 2 | .refuse _ => 3 | .withdrawn _ => 4 | .manual => 5

/-- The reason byte of a verdict: 0 where the kind has no reason. -/
def VerdictKind.reasonCode : VerdictKind → Byte
  | .refuse r => BitVec.ofNat 8 (r.index.val + 1)
  | .withdrawn r => withdrawCode r
  | .admitted | .queued | .manual => 0

def Result.code : Result → Byte
  | .ok => 0x00 | .busy => 0x01 | .badFrame => 0x02 | .unknown => 0x03 | .denied => 0x04 | .badArg => 0x05
  | .notFound => 0x06 | .pinned => 0x07 | .tableFull => 0x08 | .state => 0x09 | .noCard => 0x0A
  | .cardMismatch => 0x0B | .noTariff => 0x0C | .notRefundable => 0x0D | .journalFull => 0x0E
  | .expired => 0x0F | .lowSupply => 0x10 | .unreadable => 0x11 | .foreign => 0x12 | .refunded => 0x13
  | .blocked => 0x14 | .inUse => 0x15

def Standing.code : Standing → Byte
  | .active => 0 | .blocked => 1

def RecState.code : RecState → Byte
  | .active => 0 | .blocked => 1 | .held _ => 2 | .refunded => 3

def Origin.code : Origin → Byte
  | .resident => 0 | .learned => 1

def Mode.code : Mode → Byte
  | .opened => 0 | .closed => 1 | .free => 2

def Passage.code : Passage → Byte
  | .idle => 0 | .queued => 1 | .granted => 2 | .entering => 3

def Tracker.code : Tracker → Byte
  | .clear => 0 | .fromEntry _ => 1 | .fromExit _ => 2

def EntryStatus.code : EntryStatus → Byte
  | .pending => 0 | .done => 1 | .uncertain => 2

def Pitch.code : Pitch → Byte
  | .khz10 => 0 | .khz16 => 1 | .khz24 => 2 | .khz32 => 3

def SyncMode.code : SyncMode → Byte
  | .off => 0 | .oneShot => 1 | .continuous => 2 | .monitor => 3

def StartKind.code : StartKind → Byte
  | .warm => 0 | .cold => 1

def laneCode (n : Lane) : Byte := BitVec.ofNat 8 n.toNat

def antennaCode (a : Antenna) : Byte := BitVec.ofNat 8 a.toNat

/-- The receiving port in the IDENT reply: 0 to 3 for LP0 to LP3, 4 for SP (section 11.2). -/
def portCode : Port → Byte
  | .lp n => BitVec.ofNat 8 n.toNat
  | .sp => 4

def boolCode (b : Bool) : Byte := if b then 1 else 0

end Sys2Proof.Machine
end

