-- ==== Sys2Proof/Machine/Ops.lean ====
section
/-! DEFINITION. The named operations over the state: one update per block, notices and replies of the ports, the pass
table's ways, the day counters, and what the lines of the part show. -/

namespace Sys2Proof.Machine

/-! ## One update per block -/

def State.withReader (s : State) (f : Reader → Reader) : State := { s with reader := f s.reader }
def State.withAdm (s : State) (f : Admission → Admission) : State := { s with adm := f s.adm }
def State.withLoad (s : State) (f : Loading → Loading) : State := { s with load := f s.load }
def State.withCounts (s : State) (f : Counts → Counts) : State := { s with counts := f s.counts }
def State.withRefund (s : State) (f : RefundEngine → RefundEngine) : State := { s with refund := f s.refund }
def State.withTime (s : State) (f : TimeUnit → TimeUnit) : State := { s with time := f s.time }
def State.withSupply (s : State) (f : Supply → Supply) : State := { s with supply := f s.supply }
def State.withTable (s : State) (f : PassTable → PassTable) : State := { s with table := f s.table }

def State.port (s : State) (p : Port) : PortCtx := s.ports.ctx.get p

def State.withPort (s : State) (p : Port) (f : PortCtx → PortCtx) : State :=
  { s with ports := { s.ports with ctx := s.ports.ctx.set p (f (s.ports.ctx.get p)) } }

def State.lane (s : State) (n : Lane) : LaneUnit := s.lanes.get n

/-! ## Running and stopped -/

/-- The part is stopped while the supply state is DOWN and while RESET is held (R183). -/
def State.stopped (s : State) : Bool := s.supply.state == .down || s.supply.resetHeld

/-- An event or order of the part: it has no effect while the part is stopped (R183). -/
def State.running (s : State) (f : State → State) : State := if s.stopped then s else f s

/-! ## Lamps (R99) -/

/-- The lamp state of Table 4-3. -/
def LaneUnit.lampState (u : LaneUnit) : Lamp :=
  match u.passage, u.signal, u.mode with
  | .granted, _, _ => .greenSteady
  | .entering, _, _ => .greenSteady
  | _, some ⟨.intrusion, _⟩, _ => .redBlink
  | _, some ⟨.refusal, _⟩, _ => .redSteady
  | _, some ⟨.withdrawn, _⟩, _ => .redSteady
  | .queued, none, _ => .greenBlink
  | .idle, none, .closed => .redSteady
  | .idle, none, .free => .greenSteady
  | .idle, none, .opened => .dark

/-- Shows the lamp state that now holds; a state newly entered begins at `ms` (R99). -/
def LaneUnit.settleLamp (ms : Nat) (u : LaneUnit) : LaneUnit :=
  if u.lampState = u.lamp then u else { u with lamp := u.lampState, lampSince := ms }

/-- The one write of a lane unit: it changes the unit and shows its lamp state at once. -/
def State.withLane (s : State) (n : Lane) (f : LaneUnit → LaneUnit) : State :=
  { s with lanes := s.lanes.set n ((f (s.lanes.get n)).settleLamp s.time.ms) }

/-! ## Notices and ATN (R175) -/

def State.raiseBits (s : State) (p : Port) (m : BitVec 16) : State :=
  s.withPort p fun c => { c with notices := c.notices ||| m }

def State.raiseLane (s : State) (n : Lane) (x : LaneNotice) : State := s.raiseBits (.lp n) x.mask

def State.raiseStation (s : State) (x : StationNotice) : State := s.raiseBits .sp x.mask

/-- Raises a notice of the lane port where the position is a lane's. -/
def State.raiseAt (s : State) (pos : Position) (x : LaneNotice) : State :=
  match pos with
  | .lane n => s.raiseLane n x
  | .ps => s

/-- ATN of a port: a pending notice outside the mask, while the part is not stopped (R175, R183). -/
def State.atn (s : State) (p : Port) : Bool :=
  !s.stopped && ((s.port p).notices &&& ~~~(s.port p).mask != 0)

/-! ## Replies (R168, R170, R173, R178) -/

/-- The orders whose replies raise no ORDER_DONE: NOTICE FETCH and NOTICE MASK (R178). -/
inductive DoneNotice where
  | raised | silent
  deriving DecidableEq, Repr

/-- Byte `i` of a port's data output in its latest transaction, counted from the byte after the first: 0x00 in an order
transaction, and in every byte while the part is stopped (R167, R172, R183). -/
def State.dataByte (s : State) (p : Port) (i : Nat) : Byte := if s.stopped then 0 else (s.port p).sent.getD i 0

/-- A reply becomes ready at the taking of its order, with LOST clear (R173, R178). -/
def State.replyNow (s : State) (p : Port) (code : Byte) (done : DoneNotice) (res : Result) (body : Body) : State :=
  let s := s.withPort p fun c => { c with slot := .ready { code := code, result := res, lost := false, body := body } }
  match done with
  | .raised => s.raiseBits p (orderDoneBit p)
  | .silent => s

/-- The reply of the long order in progress on the station port becomes ready: LOST takes the lost mark, the mark is
cleared, and ORDER_DONE is raised (R173, R178). -/
def State.completeLong (s : State) (res : Result) (body : Body) : State :=
  match (s.port .sp).slot with
  | .inProgress code =>
    (s.withPort .sp fun c =>
      { c with slot := .ready { code := code, result := res, lost := c.lost, body := body }, lost := false }).raiseStation
        .orderDone
  | .empty => s
  | .ready _ => s

/-- What the owning block makes of an order: the state after it, and its reply where that is ready at the taking. -/
structure Answer where
  state : State
  reply : Option (Result × Body)

/-- An order refused by its block: nothing changes (R174). -/
def refuseWith (s : State) (r : Result) : Answer := ⟨s, some (r, .none)⟩

/-- An order answered OK at its taking. -/
def answerOk (s : State) (b : Body) : Answer := ⟨s, some (.ok, b)⟩

/-- The rights of R171 as a fact about one order on one port. -/
abbrev Rights := Bool

/-- Only the station port may send the order. -/
def stationOnly : Port → Rights
  | .sp => true
  | .lp _ => false

/-- The order names a lane: a lane port may name its own lane; a lane byte outside 0 to 3 passes (R171). -/
def ownLane (p : Port) (lane : Byte) : Rights :=
  match p, laneOf lane with
  | .sp, _ => true
  | .lp _, none => true
  | .lp n, some m => n == m

/-- Taking an order frame on a port whose frame has passed R169 (R170, R171). While the reply slot is in progress the
frame is discarded and the lost mark is set. A port that waits for its select to be released takes nothing (R167).
An order's row is this taking of its frame (log 4). -/
def takeOrder (p : Port) (code : Byte) (done : DoneNotice) (rights : Rights) (block : State → Answer) (s : State) :
    State :=
  s.running fun s =>
    if (s.port p).awaitRelease then s.withPort p fun c => { c with awaitRelease := false }
    else
      match (s.port p).slot with
      | .inProgress _ => s.withPort p fun c => { c with lost := true, sent := [] }
      | .empty | .ready _ =>
        let s := s.withPort p fun c => { c with slot := .empty, delivered := false, sent := [] }
        if rights then
          let a := block s
          match a.reply with
          | some (res, body) => a.state.replyNow p code done res body
          | none => a.state.withPort p fun c => { c with slot := .inProgress code }
        else s.replyNow p code done .denied .none

/-! ## Pass table ways (R4 to R8) -/

/-- The bucket of a pass number: the exclusive-OR of its four 10-bit groups (R4). -/
def bucketOf (p : PassNo) : Nat :=
  (p.extractLsb' 30 10 ^^^ p.extractLsb' 20 10 ^^^ p.extractLsb' 10 10 ^^^ p.extractLsb' 0 10).toNat

/-- Whether an entry is the record of the pass: in the pass's bucket, with its number (R6). -/
def isRecordOf (p : PassNo) (e : Nat × PassRecord) : Bool := e.1 / 4 == bucketOf p && e.2.pass == p

/-- The slot and record of a pass, where it is in the table (R6). -/
def findPass (t : PassTable) (p : PassNo) : Option (Nat × PassRecord) := t.find? (isRecordOf p)

def findRecord (t : PassTable) (p : PassNo) : Option PassRecord := (findPass t p).map (·.2)

/-- Changes the record of a pass, where it is in the table. -/
def updateRecord (t : PassTable) (p : PassNo) (f : PassRecord → PassRecord) : PassTable :=
  t.map fun e => if isRecordOf p e then (e.1, f e.2) else e

/-- Puts a record into a slot, in place of what the slot held; slots stay rising. -/
def putSlot : PassTable → Nat → PassRecord → PassTable
  | [], k, r => [(k, r)]
  | e :: t, k, r =>
    if k < e.1 then (k, r) :: e :: t
    else if k = e.1 then (k, r) :: t
    else e :: putSlot t k r

/-- The lowest-numbered free way of a bucket, as a slot (R5). -/
def freeSlot (t : PassTable) (bucket : Nat) : Option Nat :=
  [4 * bucket, 4 * bucket + 1, 4 * bucket + 2, 4 * bucket + 3].find? fun k => t.all fun e => e.1 != k

/-- Whether a record is pinned: LIVE, HELD or BEHIND (R11). -/
def PassRecord.pinned (r : PassRecord) : Bool :=
  r.live.isSome || r.behind ||
    match r.state with
    | .held _ => true
    | .active | .blocked | .refunded => false

def PassRecord.evictable (r : PassRecord) : Bool := r.origin == .learned && !r.pinned

/-- The one of two eviction candidates that goes first: the smaller last seen, else the lower way (R8). -/
def firstToEvict (a : Option (Nat × PassRecord)) (e : Nat × PassRecord) : Option (Nat × PassRecord) :=
  match a with
  | none => some e
  | some b => if e.2.lastSeen < b.2.lastSeen then some e else some b

/-- The eviction candidate of a bucket (R8). Entries stand in the order of their ways. -/
def evictionCandidate (t : PassTable) (bucket : Nat) : Option (Nat × PassRecord) :=
  (t.filter fun e => e.1 / 4 == bucket && e.2.evictable).foldl firstToEvict none

/-- Where a new record of a pass goes: its slot, and the pass number it evicts or 0 (R5, R8, R21). -/
def placeFor (t : PassTable) (p : PassNo) : Option (Nat × PassNo) :=
  match freeSlot t (bucketOf p) with
  | some k => some (k, 0)
  | none => (evictionCandidate t (bucketOf p)).map fun e => (e.1, e.2.pass)

/-- A record as R7 and R21 create it. -/
def newRecord (p : PassNo) (o : Origin) (st : Standing) (live : Option Lane) (now : Nat) : PassRecord :=
  { pass := p, origin := o, state := st.toState, ticket := none, used := 0, lastUse := none, consumedHere := none,
    rides := none, lastPassage := none, behind := false, live := live, lastSeen := now }

def State.record (s : State) (p : PassNo) : Option PassRecord := findRecord s.table p

def State.updateRecord (s : State) (p : PassNo) (f : PassRecord → PassRecord) : State :=
  s.withTable fun t => Machine.updateRecord t p f

/-- A lookup for a card read sets last seen where it finds the record (R6). -/
def State.seeRecord (s : State) (p : PassNo) : State :=
  s.updateRecord p fun r => { r with lastSeen := s.time.runSec }

/-- Rides today of a record (R20). -/
def ridesToday (t : TimeUnit) (r : PassRecord) : Nat :=
  match r.rides, t.tod with
  | some g, some _ => if g.day = t.lastDay then g.count else 0
  | _, _ => 0

/-! ## Day counters (R120 to R125) -/

def State.countLane (s : State) (n : Lane) (f : LaneCounts → LaneCounts) : State :=
  s.withCounts fun c =>
    { c with current := { c.current with lanes := c.current.lanes.set n (f (c.current.lanes.get n)) } }

def State.countLift (s : State) (f : LiftCounts → LiftCounts) : State :=
  s.withCounts fun c => { c with current := { c.current with lift := f c.current.lift } }

/-- Adds one refusal of the lane for the reason (R121). -/
def State.countRefusal (s : State) (n : Lane) (r : RefuseReason) : State :=
  s.withCounts fun c =>
    let v := c.current.refusals.get n
    { c with current := { c.current with
        refusals := c.current.refusals.set n (v.set r.index.val (addSat max16 1 v[r.index.val])) } }

/-- A forward passage of the lane: the lane's counter and the total together, neither where the total is full
(R123), and the open bin (R125). -/
def State.countPassage (s : State) (n : Lane) (f : LaneCounts → LaneCounts) : State :=
  let s := s.withCounts fun c => { c with openBin := { c.openBin with passages := addSat max16 1 c.openBin.passages } }
  if s.counts.current.lift.total < max32 then
    (s.countLane n f).countLift fun l => { l with total := l.total + 1 }
  else s

/-- The open bin closes and joins the ring of at most 60, and a new one begins (R126). -/
def Counts.closeBin (minute : Option Nat) (c : Counts) : Counts :=
  let ring := c.ring ++ [c.openBin]
  { c with openBin := .fresh minute, ring := ring.drop (ring.length - 60) }

/-! ## Occupancy (R104, R124) -/

/-- The occupancy rises by one, capped at 255, and the peak follows it. -/
def State.occupancyUp (s : State) : State :=
  if s.load.occupancy < 255 then
    (s.withLoad fun l => { l with occupancy := l.occupancy + 1 }).countLift fun c =>
      { c with peak := max c.peak (s.load.occupancy + 1) }
  else s

/-- The occupancy falls by one, floored at 0. -/
def State.occupancyDown (s : State) : State := s.withLoad fun l => { l with occupancy := l.occupancy - 1 }

/-- Room exists (R109). -/
def State.room (s : State) : Bool :=
  decide (s.load.occupancy + s.load.live < s.load.limit) && !s.load.liftStop && s.supply.state == .run

/-! ## Lane contexts -/

/-- Whether a lane context at the lane holds the pass (R87). -/
def State.laneHolds (s : State) (n : Lane) (p : PassNo) : Bool :=
  match (s.lane n).ctx with
  | some c => c.pass == some p
  | none => false

/-- The lane whose context holds the pass (R87). -/
def State.holderOf (s : State) (p : PassNo) : Option Lane := Lane.all.find? fun n => s.laneHolds n p

/-! ## Lines (R98 to R100, R183) -/

/-- RELn (R98, R183). -/
def State.rel (s : State) (n : Lane) : Bool :=
  !s.stopped &&
    match (s.lane n).passage, (s.lane n).mode with
    | .granted, _ => true
    | .entering, _ => true
    | _, .free => true
    | _, _ => false

/-- Whether a blink of the given half period, begun at `since`, is lit at `now` (R99). -/
def blinkLit (half since now : Nat) : Bool := (now - since) / half % 2 == 0

/-- LGRn (R99, R183). -/
def State.greenLamp (s : State) (n : Lane) : Bool :=
  !s.stopped &&
    match (s.lane n).lamp with
    | .greenSteady => true
    | .greenBlink => blinkLit 250 (s.lane n).lampSince s.time.ms
    | .dark | .redSteady | .redBlink => false

/-- LRDn (R99, R183). -/
def State.redLamp (s : State) (n : Lane) : Bool :=
  !s.stopped &&
    match (s.lane n).lamp with
    | .redSteady => true
    | .redBlink => blinkLit 125 (s.lane n).lampSince s.time.ms
    | .dark | .greenSteady | .greenBlink => false

/-- The pitch a pattern sounds at, `t` milliseconds after its start (R100): two low tones of 100 ms with 100 ms between
them, or one tone throughout. -/
def Tone.pitchAt (tn : Tone) (t : Nat) : Option Pitch :=
  match tn.pattern with
  | .twoLow => if t < 100 then some tn.first else if t < 200 then none else if t < 300 then tn.second else none
  | .highTone => if t < 150 then some tn.first else none
  | .lowTone => if t < 300 then some tn.first else none

/-- TONEn: silent, or the pitch that sounds (R100, R183). -/
def State.toneLine (s : State) (n : Lane) : Option Pitch :=
  if s.stopped then none
  else
    match (s.lane n).tone with
    | none => none
    | some tn => tn.pitchAt (s.time.ms - tn.start)

end Sys2Proof.Machine
end

