-- ==== Sys2Proof/Machine/Transceiver.lean ====
section
/-! DEFINITION. The transceiver: position states, the scan arbiter, requests for stamps and tunes, the telegrams of
visits and their outcomes (sections 2.1 to 2.7, 11.4). -/

namespace Sys2Proof.Machine

/-! ## Position states (R35) -/

/-- The antenna whose tune is in flight. -/
def State.tuning (s : State) : Option Antenna :=
  match s.reader.visit with
  | some (.tune a _ _) => some a
  | some (.card _) => none
  | none => none

/-- Whether a lane stamp is pending for the lane's position. -/
def State.stampPending (s : State) (n : Lane) : Bool := s.reader.stamps.any fun r => r.position == .lane n

/-- Work is pending or in progress at the position: condition 4 of Table 2-2. -/
def State.posBusy (s : State) : Position → Bool
  | .lane n => (s.lane n).passage != .idle || s.stampPending n
  | .ps => s.reader.slot.isSome

/-- The state of a position: the first entry of Table 2-2 whose condition holds (R35). -/
def State.posState (s : State) (p : Position) : PosState :=
  if (s.reader.map.get p).isSome && s.reader.map.get p == s.tuning then .tuning
  else if (s.reader.pos.get p).fault then .fault
  else if (s.reader.map.get p).isNone then .off
  else if s.posBusy p then .busy
  else
    match p with
    | .ps => .off
    | .lane n =>
      match (s.lane n).mode with
      | .opened => .scan
      | .closed => .off
      | .free => .off

/-- A position that cannot carry out work: unmapped, or its fault flag set (R36). -/
def State.unworkable (s : State) (p : Position) : Bool :=
  (s.reader.map.get p).isNone || (s.reader.pos.get p).fault

/-! ## The scan arbiter (R38 to R40) -/

/-- The answer wait in microseconds (R41). -/
def ReaderSettings.wait (r : ReaderSettings) : Int := r.coarse * 100 + r.fine * 10

/-- A read or stamp visit that starts now (R30). -/
def State.cardVisit (s : State) (purpose : Purpose) (p : Position) (a : Antenna) : Visit :=
  .card { purpose := purpose, position := p, antenna := a, level := s.reader.levels.get a,
          wait := s.reader.settings.wait, window := s.reader.settings.window }

def State.startVisit (s : State) (v : Visit) : State := s.withReader fun r => { r with visit := some v }

/-- Line 1 of Table 2-3: the service visit in the slot. -/
def State.serviceChoice (s : State) : Option Visit :=
  match s.reader.slot, s.reader.map.ps with
  | some (.read _), some a => some (s.cardVisit .serviceRead .ps a)
  | some (.stamp _), some a => some (s.cardVisit .serviceStamp .ps a)
  | _, _ => none

/-- Line 2 of Table 2-3: the oldest lane stamp request. -/
def State.stampChoice (s : State) : Option Visit :=
  match s.reader.stamps with
  | [] => none
  | r :: _ => (s.reader.map.get r.position).map fun a => s.cardVisit .laneStamp r.position a

/-- Line 4 of Table 2-3: the first position in SCAN after the rotation pointer (R39). -/
def State.scanChoice (s : State) : Option Lane :=
  let p := s.reader.pointer
  [p.succ, p.succ.succ, p.succ.succ.succ, p].find? fun n => s.posState (.lane n) == .scan

/-- Starts the scan read at a lane position, and moves the pointer to it (R39). -/
def State.startScan (s : State) (n : Lane) : State :=
  match s.reader.map.get (.lane n) with
  | some a => (s.startVisit (s.cardVisit .scanRead (.lane n) a)).withReader fun r => { r with pointer := n }
  | none => s

/-- Starts the first visit that Table 2-3 yields, where the transceiver is free and the supply state is RUN
(R38, R40). -/
def State.arbiter (s : State) : State :=
  if s.stopped || s.supply.state != .run || s.reader.visit.isSome then s
  else
    match s.serviceChoice with
    | some v => s.startVisit v
    | none =>
      match s.stampChoice with
      | some v => s.startVisit v
      | none =>
        match s.reader.tuneList with
        | e :: rest =>
          (s.startVisit (.tune e.antenna s.reader.settings.target e.ordered)).withReader fun r =>
            { r with tuneList := rest }
        | [] =>
          match s.scanChoice with
          | some n => s.startScan n
          | none => s

/-! ## Requests -/

/-- A stamp request made now (R44): attempts remaining and request time are those of the moment. -/
def State.newStamp (s : State) (p : Position) (q : Requester) (pass : PassNo) (r : PassRecord) (mark : Bool) (seq : Nat) :
    StampReq :=
  { position := p, requester := q, pass := pass, used := r.used, lastUse := r.lastUse, mark := mark,
    seq := addWrap 256 seq, attempts := s.reader.settings.attempts, time := s.time.ms, echoed := none }

/-- A lane stamp joins the list; at a position that cannot carry it out it ends at once as failed, on which the
admission unit does nothing (R36, R37, R75). -/
def State.requestLaneStamp (s : State) (r : StampReq) : State :=
  if s.unworkable r.position then s else s.withReader fun d => { d with stamps := d.stamps ++ [r] }

/-- An automatic tune request joins the request or the tune that is there already (R37, R51). -/
def State.requestTune (s : State) (a : Antenna) : State :=
  if s.tuning == some a || s.reader.tuneList.any (fun e => e.antenna == a) then s
  else s.withReader fun d => { d with tuneList := d.tuneList ++ [{ antenna := a, ordered := false }] }

/-- An ANTENNA TUNE request joins the request in the list, or goes into the list (R37, R51). -/
def State.orderTune (s : State) (a : Antenna) : State :=
  s.withReader fun d =>
    if d.tuneList.any fun e => e.antenna == a then
      { d with tuneList := d.tuneList.map fun e => if e.antenna = a then { e with ordered := true } else e }
    else { d with tuneList := d.tuneList ++ [{ antenna := a, ordered := true }] }

/-! ## What goes over the air (R41, R45, section 11.4) -/

/-- The preamble of every call (section 11.4). -/
def preamble : List Byte := [0xAA, 0xAA, 0x7E]

/-- The wake telegram of a read visit: the preamble and the call byte READ (R41, section 11.4). -/
def readCall : List Byte := preamble ++ [0x3C]

/-- The six bytes of the usage block a stamp writes (R44, R45, Table 11-6). -/
def StampReq.usageBlock (r : StampReq) : List Byte :=
  let head := beBytes 1 r.used ++ beBytes 2 (r.lastUse.getD 0) ++ [boolCode r.mark] ++ beBytes 1 r.seq
  head ++ [crc8 head]

/-- Bytes 1 to 11 of the STAMP call frame, which the echo must repeat (R45, R192). -/
def StampReq.callBytes (r : StampReq) : List Byte := beBytes 5 r.pass.toNat ++ r.usageBlock

/-- The whole STAMP call frame (Table 11-6). -/
def StampReq.callFrame (r : StampReq) : List Byte :=
  let head := 0xB5#8 :: r.callBytes
  head ++ beBytes 2 (crc16 0xFFFF head).toNat

/-- What a stamp attempt sends: the preamble and the STAMP call frame (R45, section 11.4). -/
def StampReq.call (r : StampReq) : List Byte := preamble ++ r.callFrame

/-- The request whose attempt a stamp visit at the position is: the lane stamp there, or the one in the service slot. -/
def Reader.stampAt (d : Reader) : Position → Option StampReq
  | .lane n => d.stamps.find? fun r => r.position == .lane n
  | .ps =>
    match d.slot with
    | some (.stamp r) => some r
    | some (.read _) => none
    | none => none

/-- What the visit in flight sends on its carrier. A tune sends no telegram: it drives its antenna and measures
(R41, R45, R52). -/
def Visit.call (d : Reader) : Visit → List Byte
  | .card v =>
    match v.purpose.kind with
    | .read => readCall
    | .stamp => ((d.stampAt v.position).map StampReq.call).getD []
    | .tune => []
  | .tune _ _ _ => []

def Visit.antenna : Visit → Antenna
  | .card v => v.antenna
  | .tune a _ _ => a

/-- The antenna that is driven: that of the visit in flight, and none while the part is stopped (R183). -/
def State.drivenAntenna (s : State) : Option Antenna := if s.stopped then none else s.reader.visit.map Visit.antenna

/-- The telegram of the visit in flight, none while the part is stopped (R41, R45, R183). -/
def State.airBytes (s : State) : List Byte :=
  if s.stopped then [] else ((s.reader.visit.map (Visit.call s.reader)).getD [])

/-- The lead-in of a card's answer, the pattern 1111 1010 (R41, section 11.4). -/
def leadIn : Byte := 0xFA

/-- The bytes that follow the first lead-in; none where no lead-in is recognised (R41). -/
def afterLeadIn : List Byte → Option (List Byte)
  | [] => none
  | b :: bs => if b = leadIn then some bs else afterLeadIn bs

end Sys2Proof.Machine

namespace Sys2Proof

/-- The frame that the reader receives: the bytes after the lead-in, none where no lead-in is recognised (Table 2-4). -/
def Reception.frame (r : Reception) : Option (List Byte) := Machine.afterLeadIn r.heard

end Sys2Proof

namespace Sys2Proof.Machine

/-! ## Visit outcomes (R42, R47 to R50) -/

/-- The frame check of an air frame: the last two bytes against the bytes before them (R42). -/
def frameCheckOk (frame : List Byte) : Bool :=
  let n := frame.length - 2
  crc16 0xFFFF (frame.take n) == BitVec.ofNat 16 (beNat (frame.drop n))

/-- Whether a received frame passes: its length, its frame check and its type (R42, R45). -/
def framePasses (len : Nat) (type : Byte) (frame : List Byte) : Bool :=
  frame.length == len && frameCheckOk frame && byteAt frame 0 == type

/-- The outcome of a read or stamp attempt (Table 2-6). -/
def outcomeOf (len : Nat) (type : Byte) (r : Reception) : VisitOutcome :=
  if r.overdrive then .clip
  else if r.violation then .collide
  else
    match r.frame with
    | none => .silent
    | some f => if framePasses len type f then .card else .corrupt

/-- The fault count after an outcome (Table 2-6, R47). -/
def faultCountAfter (o : VisitOutcome) (c : Nat) : Nat :=
  match o with
  | .card => 0
  | .silent => c
  | .collide | .corrupt | .clip => addSat 31 1 c

/-- A COLLIDE lengthens the collide run of a lane position; a third raises CROWDED and sets the run to 0. Any other
outcome sets it to 0. PS keeps none (R49). -/
def State.applyCollide (s : State) (p : Position) (o : VisitOutcome) : State :=
  match p with
  | .ps => s
  | .lane n =>
    let m := s.reader.pos.get (.lane n)
    let run := if o = .collide then m.collideRun + 1 else 0
    let m' : PosMemory := { m with collideRun := if run = 3 then 0 else run }
    let s' := s.withReader fun d => { d with pos := d.pos.set (.lane n) m' }
    if run = 3 then s'.raiseLane n .crowded else s'

/-- The fault count follows the outcome; where it rises to the threshold with DEGRADED clear, DEGRADED is set, a tune
is requested and POSITION is raised (R47, R48). -/
def State.applyFaults (s : State) (p : Position) (a : Antenna) (o : VisitOutcome) : State :=
  let m := s.reader.pos.get p
  let c := faultCountAfter o m.faultCount
  let degrades := m.faultCount < c ∧ s.reader.settings.threshold ≤ c ∧ m.degraded = false
  let m' : PosMemory := { m with faultCount := c, degraded := m.degraded || decide degrades, lastOutcome := some o }
  let s' := s.withReader fun d => { d with pos := d.pos.set p m' }
  if degrades then (s'.requestTune a).raiseAt p .position else s'

/-- CLIP lowers the drive level of the antenna by one, down to 1 (R50). -/
def State.applyClip (s : State) (a : Antenna) (o : VisitOutcome) : State :=
  if o = .clip then
    s.withReader fun d => { d with levels := d.levels.set a (max 1 (d.levels.get a - 1)) }
  else s

/-- The effects of an outcome on the position and antenna of its visit (R47). -/
def State.applyOutcome (s : State) (p : Position) (a : Antenna) (o : VisitOutcome) : State :=
  ((s.applyFaults p a o).applyCollide p o).applyClip a o

end Sys2Proof.Machine
end

