-- ==== Sys2Proof/Machine/Release.lean ====
section
/-! DEFINITION. Lane contexts and their release: signals and tones, the verdict record, the end of a context, the grant,
the release queue, its service step and its withdrawals (chapters 3 to 5). -/

namespace Sys2Proof.Machine

/-! ## Signals and tones (R99, R100) -/

def signalTime : SignalKind → Nat
  | .refusal => 2000 | .withdrawn => 2000 | .intrusion => 3000

/-- A timed signal starts, in place of any other (R99). -/
def State.startSignal (s : State) (n : Lane) (k : SignalKind) : State :=
  s.withLane n fun u => { u with signal := some { kind := k, endAt := s.time.ms + signalTime k } }

def patternTime : Pattern → Nat
  | .highTone => 150 | .twoLow => 300 | .lowTone => 300

/-- The pattern that starts at `ms` with the lane's settings: none while mute is on (R100). -/
def newTone (ms : Nat) (x : LaneSettings) (p : Pattern) : Option Tone :=
  if x.mute then none
  else
    some { pattern := p, start := ms, endAt := ms + patternTime p,
           first := match p with
             | .highTone => x.high
             | .twoLow => x.low
             | .lowTone => x.low
           second := match p with
             | .twoLow => some x.low
             | .highTone => none
             | .lowTone => none }

def State.startTone (s : State) (n : Lane) (p : Pattern) : State :=
  s.withLane n fun u => { u with tone := newTone s.time.ms u.settings p }

/-! ## The verdict record (R77, R78) -/

/-- A refusal or withdrawal signal ends at a verdict record update; an intrusion signal runs on (R99). -/
def signalAfterVerdict : Option Signal → Option Signal
  | some ⟨.intrusion, e⟩ => some ⟨.intrusion, e⟩
  | some ⟨.refusal, _⟩ => none
  | some ⟨.withdrawn, _⟩ => none
  | none => none

/-- The sequence that the next update of a verdict record has (R77). -/
def nextSeq : Option Verdict → Nat
  | none => 1
  | some v => addWrap 256 v.seq

/-- A verdict of any kind other than REFUSE empties the lane's repeat-quiet memory (R54). -/
def quietAfterVerdict (k : VerdictKind) (q : Option Quiet) : Option Quiet :=
  match k with
  | .refuse _ => q
  | .admitted | .queued | .withdrawn _ | .manual => none

/-- Replaces the lane's verdict record, with the next sequence and the passage state as it now is, and raises VERDICT
(R78). -/
def State.putVerdict (s : State) (n : Lane) (v : Verdict) : State :=
  let v' : Verdict := { v with seq := nextSeq (s.adm.verdicts.get n), passage := (s.lane n).passage }
  ((s.withAdm fun a =>
    { a with verdicts := a.verdicts.set n (some v')
             quiet := a.quiet.set n (quietAfterVerdict v.kind (a.quiet.get n)) }).withLane n fun u =>
    { u with signal := signalAfterVerdict u.signal }).raiseLane n .verdict

/-- A verdict record without pass data: MANUAL, or the withdrawal of a manual context (R77, R78). -/
def manualVerdict (k : VerdictKind) (fromQueue : Bool) : Verdict :=
  { seq := 0, kind := k, pass := 0, product := none, remaining := 255, lastDay := none,
    flags := { VerdictFlags.none with fromQueue := fromQueue }, cls := 0, passage := .idle }

/-- Days remaining: D less merged days used, less one more where NEW_DAY is set (R77). -/
def daysRemaining (days used : Nat) (newDay : Bool) : Nat := days - used - (if newDay then 1 else 0)

/-- The verdict record at the grant of a queued context: from the admission note, with FROM_QUEUE (Table 3-5). -/
def grantVerdict (pass : Option PassNo) (note : Note) : Verdict :=
  match pass, note.data with
  | some p, some d =>
    { seq := 0, kind := .admitted, pass := p, product := some d.product,
      remaining := daysRemaining d.days d.used d.flags.newDay, lastDay := some d.lastDay,
      flags := { d.flags with fromQueue := true }, cls := note.cls, passage := .idle }
  | _, _ => manualVerdict .manual true

/-- The verdict record at a withdrawal: from the note, NEW_DAY removed and its day given back (Table 3-5). -/
def withdrawVerdict (r : WithdrawReason) (pass : Option PassNo) (note : Note) : Verdict :=
  match pass, note.data with
  | some p, some d =>
    { seq := 0, kind := .withdrawn r, pass := p, product := some d.product,
      remaining := daysRemaining d.days d.used false, lastDay := some d.lastDay,
      flags := { d.flags with newDay := false, fromQueue := false }, cls := note.cls, passage := .idle }
  | _, _ => manualVerdict (.withdrawn r) false

/-- The note of a lane, or the note of a manual context where there is none (every context has one, R71). -/
def State.note (s : State) (n : Lane) : Note := (s.adm.notes.get n).getD { cls := 0, data := none }

/-- The pass that the lane's context holds. -/
def State.ctxPass (s : State) (n : Lane) : Option PassNo := (s.lane n).ctx.bind (·.pass)

/-! ## Reports (R96) -/

def nextReportSeq : Option Report → Nat
  | none => 1
  | some r => addWrap 256 r.seq

/-- Replaces the last passage report and raises PASSAGE (R96). -/
def State.putReport (s : State) (n : Lane) (k : ReportKind) (p : PassNo) : State :=
  (s.withLane n fun u =>
    { u with report := some { kind := k, pass := p, second := s.time.runSec, seq := nextReportSeq u.report } }).raiseLane
      n .passage

/-! ## Beginning and end of a context (R87) -/

/-- Removes the LIVE pin that names the lane from the record of the pass (R12). -/
def State.unpin (s : State) (n : Lane) (p : PassNo) : State :=
  s.updateRecord p fun r => if r.live = some n then { r with live := none } else r

/-- Creates the lane's context, beside its admission note (R68, R97, R71). The passage state is settled by the
loading monitor's answer. -/
def State.beginContext (s : State) (n : Lane) (c : Context) (note : Note) : State :=
  (s.withLane n fun u => { u with ctx := some c }).withAdm fun a => { a with notes := a.notes.set n (some note) }

/-- The passage state returns to IDLE and the context ends: its LIVE pin is removed and its note discarded (R87). -/
def State.endContext (s : State) (n : Lane) : State :=
  let s' := (s.withLane n fun u => { u with passage := .idle, ctx := none }).withAdm fun a =>
    { a with notes := a.notes.set n none }
  match s.ctxPass n with
  | some p => s'.unpin n p
  | none => s'

/-! ## The grant (R88, R72 to R74) -/

/-- The passage state at a grant: ENTERING where the rider already stands in the entry beam (R88 step 4). -/
def passageAtGrant : Tracker → Passage
  | .fromEntry false => .entering
  | .fromEntry true => .granted
  | .fromExit _ => .granted
  | .clear => .granted

/-- The lane unit's part of a grant (R88): window, passage state, grant tone; any timed signal ends (R99). -/
def State.grantLane (s : State) (n : Lane) : State :=
  (s.withLane n fun u =>
    { u with
      ctx := u.ctx.map fun c =>
        { c with grantTime := some s.time.ms, windowEnd := some (s.time.ms + u.settings.window * 100) }
      passage := passageAtGrant u.tracker
      signal := none }).startTone n .highTone

/-- The later of two days where both are present, else the one that is. -/
def laterDay : Option Nat → Option Nat → Option Nat
  | some a, some b => some (max a b)
  | some a, none => some a
  | none, b => b

/-- The usage write of a consumption at grant (R18): one more day used up to D, both days today, BEHIND set. The last use
day never decreases (R2): a later one stands (log 32). -/
def consume (today : Nat) (r : PassRecord) : PassRecord :=
  { r with
    used := match r.ticket with
      | some t => if r.used < t.days then r.used + 1 else r.used
      | none => r.used
    lastUse := laterDay r.lastUse (some today)
    consumedHere := some today
    behind := true }

/-- The admission unit's part of a grant of a context that holds a pass (R72 to R74). -/
def State.grantActions (s : State) (n : Lane) (p : PassNo) (d : NoteData) : State :=
  if d.flags.unlearned then
    s.countLift fun l =>
      { l with unlearned := addSat max32 1 l.unlearned
               unrecorded := if d.flags.newDay then addSat max32 1 l.unrecorded else l.unrecorded }
  else if d.flags.newDay then
    let s := s.updateRecord p (consume s.time.lastDay)
    let s := s.countLane n fun c => { c with newDays := addSat max32 1 c.newDays }
    match s.record p with
    | some r => s.requestLaneStamp (s.newStamp (.lane n) .dayStamp p r false d.seq)
    | none => s
  else if d.flags.behind then
    match s.record p with
    | some r => s.requestLaneStamp (s.newStamp (.lane n) .writeBack p r false d.seq)
    | none => s
  else s

/-- A grant (R88, R105, R111, R112): the live-grant count rises, the lane unit and the admission unit act. -/
def State.grant (s : State) (n : Lane) : State :=
  let s := (s.withLoad fun l => { l with live := l.live + 1 }).grantLane n
  match s.ctxPass n, (s.note n).data with
  | some p, some d => s.grantActions n p d
  | _, _ => s

/-! ## The release queue (R110 to R112) -/

/-- Places an entry after every entry of an equal or lower class number (R110). -/
def enqueue (e : QueueEntry) : List QueueEntry → List QueueEntry
  | [] => [e]
  | x :: q => if e.cls < x.cls then e :: x :: q else x :: enqueue e q

/-- The admit request of R111: a grant where there is room and the queue is empty, else a queue entry. -/
def State.requestRelease (s : State) (n : Lane) (p : PassNo) (cls : Nat) : State :=
  if s.room && s.load.queue.isEmpty then s.grant n
  else
    (s.withLoad fun l =>
      { l with queue := enqueue { lane := n, pass := p, cls := cls, enqueued := s.time.ms,
                                  deadline := s.time.ms + l.hold * 1000 } l.queue }).withLane n fun u =>
      { u with passage := .queued }

/-- The head of the queue is granted, and its verdict record updated with FROM_QUEUE (R112, R78). -/
def State.grantHead (s : State) (n : Lane) : State :=
  let v := grantVerdict (s.ctxPass n) (s.note n)
  ((s.withLoad fun l => { l with queue := l.queue.tail }).grant n).putVerdict n v

/-- A lane's entry leaves the queue as withdrawn (R92, R113): the lane returns to IDLE, the verdict record shows WITHDRAWN,
the withdrawn signal starts and the withdrawal is counted. What was handed over for the entry ends with it (log 12). -/
def State.dropEntry (s : State) (n : Lane) (r : WithdrawReason) : State :=
  let v := withdrawVerdict r (s.ctxPass n) (s.note n)
  let s := s.withLoad fun l =>
    { l with queue := l.queue.filter fun e => e.lane != n, handed := l.handed.filter fun h => h.lane != n }
  let s := s.endContext n
  let s := s.putVerdict n v
  let s := (s.startSignal n .withdrawn).startTone n .lowTone
  s.countLane n fun c => { c with withdrawals := addSat max32 1 c.withdrawals }

/-- The reason of the first withdrawal handed over for the lane's entry and not yet taken (R113). -/
def State.handedReason (s : State) (n : Lane) : Option WithdrawReason :=
  (s.load.handed.find? fun h => h.lane == n).map (·.reason)

/-- The head of the queue is served: an entry whose withdrawal was handed over before is withdrawn and is not granted
(R23, R83; log 12); any other is granted. -/
def State.serveHead (s : State) (n : Lane) : State :=
  match s.handedReason n with
  | some r => s.dropEntry n r
  | none => s.grantHead n

/-- At most `k` rounds of the service step. -/
def serviceRounds : Nat → State → State
  | 0, s => s
  | k + 1, s =>
    match s.load.queue with
    | [] => s
    | e :: _ => if s.room then serviceRounds k (s.serveHead e.lane) else s

/-- The service step: the head is served while the queue is not empty and room exists (R112). -/
def State.serviceStep (s : State) : State := serviceRounds s.load.queue.length s

/-! ## Withdrawals (R92, R113, R115) -/

/-- Whether the lane has an entry in the queue. -/
def State.inQueue (s : State) (n : Lane) : Bool := s.load.queue.any fun e => e.lane == n

/-- A withdrawal taken by the loading monitor (R113): the lane's entry leaves the queue as withdrawn and the service step
runs. Without an entry it has no effect. -/
def State.withdraw (s : State) (n : Lane) (r : WithdrawReason) : State :=
  if s.inQueue n then (s.dropEntry n r).serviceStep else s

/-- Every entry is withdrawn with LOW_SUPPLY, in service order (R115). -/
def State.withdrawAll (s : State) : State :=
  (s.load.queue.map (·.lane)).foldl (fun s n => s.withdraw n .lowSupply) s

/-- A withdrawal is handed to the loading monitor, which takes it in a step of its own, and at the latest before it would
grant the entry (R23, R82, R83; log 12). -/
def State.handWithdrawal (s : State) (n : Lane) (r : WithdrawReason) : State :=
  s.withLoad fun l => { l with handed := l.handed ++ [{ lane := n, reason := r }] }

end Sys2Proof.Machine
end

