-- ==== Sys2Proof/Machine/Refunding.lean ====
section
/-! DEFINITION. The refund engine's own work (chapter 7): the computation of a quote, the hold, the settlement of its
service stamps, and work at a position that ends at once (R36). -/

namespace Sys2Proof.Machine

/-! ## The refund computation (R138 to R140) -/

/-- T(k): the list price of k days; T(0) is 0 (R130). -/
def Tariff.price (t : Tariff) (k : Nat) : Nat :=
  match k with
  | 0 => 0
  | k + 1 => t.prices.getD k 0

/-- Stage 1, the unridden-today credit: a day consumed here today and not ridden (R138). -/
def creditDue (today used : Nat) (r : PassRecord) (rides : Nat) : Bool :=
  decide (1 ≤ used) && r.lastUse == some today && r.consumedHere == some today && rides == 0

/-- Stages 1 to 7 on the ticket group in force, the merged days used, the tariff set and the record (R138 to R140). -/
def computeQuote (today : Nat) (tk : Ticket) (used : Nat) (t : Tariff) (r : PassRecord) (rides : Nat) : Quote :=
  let credited := creditDue today used r rides
  let charge := if credited then used - 1 else used
  let charged := min tk.days (max charge t.minDays)
  let listK := t.price charged
  let listD := t.price tk.days
  let usedValue := (tk.paid * listK + listD - 1) / listD
  let gross := tk.paid - usedValue
  let afterFee := gross - t.fee
  let rounded := afterFee / t.unit * t.unit
  let below := decide (0 < rounded ∧ rounded < t.minRefund)
  { product := tk.product, days := tk.days, paid := tk.paid, used := used, charge := charge, charged := charged,
    listK := listK, listD := listD, usedValue := usedValue, gross := gross, fee := t.fee, afterFee := afterFee,
    unit := t.unit, refund := if below then 0 else rounded, minRefund := t.minRefund,
    flags := { credited := credited, minCharge := decide (charge < charged), feeClamped := decide (gross < t.fee),
               belowMinimum := below, cardBehind := false } }

/-! ## The hold (R15, R137, R143, R144) -/

def State.withCtx (s : State) (c : RefundCtx) : State := s.withRefund fun r => { r with ctx := c }

/-- What a record's state is while it is held: ACTIVE and BLOCKED move to the prior state (R15). -/
def holdState : RecState → RecState
  | .active => .held .active
  | .blocked => .held .blocked
  | .held p => .held p
  | .refunded => .refunded

/-- What a held record's state becomes when the hold ends without a refund (R15). -/
def releaseState : RecState → RecState
  | .held p => p.toState
  | .active => .active
  | .blocked => .blocked
  | .refunded => .refunded

/-- The end of a quote is noted for REFUND STATUS (R153). -/
def State.endQuote (s : State) (e : QuoteEnd) : State :=
  s.withRefund fun r => { r with ctx := .idle, lastQuote := r.lastQuote.map fun l => { l with outcome := e } }

/-- The hold ends without a refund: the record takes its prior state and the context becomes IDLE (R143, R144). -/
def State.endHold (s : State) (q : StandingQuote) (e : QuoteEnd) : State :=
  (s.updateRecord q.pass fun r => { r with state := releaseState r.state }).endQuote e

/-- The hold ends by expiry (R144). -/
def State.expireHold (s : State) (q : StandingQuote) : State := (s.endHold q .expired).raiseStation .holdEnd

/-- A quote ends without a refund: the context returns to IDLE and the order is answered (R136). -/
def State.refuseQuote (s : State) (res : Result) (b : Body) : State := (s.withCtx .idle).completeLong res b

/-- The hold is placed, the context becomes QUOTED and the order is answered OK (R137). -/
def State.openQuote (s : State) (r : Reading) (q : Quote) : State :=
  let number := (s.refund.lastNumber + 1) % 65536
  let standing : StandingQuote :=
    { pass := r.pass, readDay := r.readDay, seq := r.seq, quote := q, number := number,
      deadline := s.time.runSec + s.refund.hold, hold := s.refund.hold }
  let s := s.updateRecord r.pass fun x => { x with state := holdState x.state }
  let s := s.withRefund fun e =>
    { e with ctx := .quoted standing, lastNumber := number,
             lastQuote := some { number := number, pass := r.pass, refund := q.refund, outcome := .opened } }
  s.completeLong .ok (.quote standing)

/-- The hold would be placed: a record found REFUNDED refuses the quote (R137). A pass that no longer has a record has
nothing to hold, and the quote is refused NOT_FOUND (log 31). -/
def State.placeHold (s : State) (r : Reading) (q : Quote) : State :=
  match s.record r.pass with
  | none => s.refuseQuote .notFound (.cardPass r.pass)
  | some x => if x.state = .refunded then s.refuseQuote .refunded (.cardPass r.pass) else s.openQuote r q

/-- The write-back of a quote has ended: confirmed, it advances the card sequence; failed, the quote carries
CARD_BEHIND. Then the hold is placed (R137). -/
def State.settleWriteBack (s : State) (ok : Bool) : State :=
  match s.refund.ctx with
  | .reading (some r) =>
    match r.quote with
    | some q =>
      if ok then s.placeHold { r with seq := addWrap 256 r.seq } q
      else s.placeHold r { q with flags := { q.flags with cardBehind := true } }
    | none => s
  | .reading none => s
  | .idle => s
  | .quoted _ => s
  | .committing _ _ => s

/-! ## The end of a commit (R146) -/

/-- The PENDING entry becomes DONE (R149). -/
def settleEntry (seq : Nat) (e : JournalEntry) : JournalEntry := if e.seq = seq then { e with status := .done } else e

/-- The commit stamp is confirmed (R146); the result is the reply's. -/
def State.commitConfirmed (s : State) (q : StandingQuote) (seq : Nat) : State × Result × Body :=
  let s := s.withRefund fun r => { r with journal := r.journal.map (settleEntry seq) }
  let s := s.updateRecord q.pass fun r => { r with state := .refunded }
  let s := s.endQuote .committed
  let s := s.countLift fun l =>
    { l with refunds := addSat max32 1 l.refunds, refundTotal := addSat max32 q.quote.refund l.refundTotal }
  (s.raiseStation .journal, .ok, .journalSeq seq)

/-- The commit stamp has failed: the PENDING entry is removed and its sequence given back; the quote stands again, or
ends as an expiry where its deadline has passed (R146). -/
def State.commitFailed (s : State) (q : StandingQuote) (echoed : Option PassNo) : State × Result × Body :=
  let res : Result := match echoed with
    | some p => if p = q.pass then .noCard else .cardMismatch
    | none => .noCard
  let s := s.withRefund fun r =>
    { r with journal := r.journal.dropLast, nextSeq := (r.nextSeq + 65535) % 65536, ctx := .quoted q }
  if q.deadline ≤ s.time.runSec then (s.expireHold q, res, .none) else (s, res, .none)

/-- The reader settles the commit stamp, confirmed or failed. -/
def State.settleCommit (s : State) (ok : Bool) (echoed : Option PassNo) : State × Option (Result × Body) :=
  match s.refund.ctx with
  | .committing q seq =>
    let (s', a) := if ok then s.commitConfirmed q seq else s.commitFailed q echoed
    (s', some a)
  | .idle => (s, none)
  | .reading _ => (s, none)
  | .quoted _ => (s, none)

/-! ## Service work that ends (R36, R43, R46) -/

/-- The reply of a commit that has ended goes to the long order in progress. -/
def State.settleCommitLong (s : State) (ok : Bool) (echoed : Option PassNo) : State :=
  match s.settleCommit ok echoed with
  | (s', some (res, b)) => s'.completeLong res b
  | (s', none) => s'

/-- A service stamp has ended; its requester acts on it (R46, R137, R146). -/
def State.settleService (s : State) (r : StampReq) (ok : Bool) : State :=
  match r.requester with
  | .commit => s.settleCommitLong ok r.echoed
  | .writeBack => s.settleWriteBack ok
  | .dayStamp => s

/-- Pending work at a position ends at once: lane stamps fail, on which nothing follows; a service read ends as no
card and a service stamp as failed with no echo (R36, R75, R135). -/
def State.endPendingWork (s : State) (p : Position) : State :=
  match p with
  | .lane n => s.withReader fun d => { d with stamps := d.stamps.filter fun r => r.position != .lane n }
  | .ps =>
    let s' := s.withReader fun d => { d with slot := none }
    match s.reader.slot with
    | some (.read _) => s'.refuseQuote .noCard .none
    | some (.stamp r) => s'.settleService { r with echoed := none } false
    | none => s'

/-- A position that has become unable to carry out work ends its pending work (R36). -/
def State.endIfUnworkable (s : State) (p : Position) : State :=
  if s.unworkable p then s.endPendingWork p else s

/-- A service stamp is placed in the service slot; where PS cannot carry it out it ends at once as failed
(R36, R37). -/
def State.requestWriteBackStamp (s : State) (r : StampReq) : State :=
  if s.unworkable .ps then s.settleWriteBack false else s.withReader fun d => { d with slot := some (.stamp r) }

/-! ## Changes of the antenna map (R33, R34) -/

/-- A changed assignment applies to a position: its fault memories are cleared, its pending work ends where it is now
unmapped, and POSITION is raised (R34). The map itself has been changed before. -/
def State.remapPosition (s : State) (p : Position) : State :=
  let m := s.reader.pos.get p
  let m' : PosMemory := { m with faultCount := 0, degraded := false, fault := false, collideRun := 0 }
  let s := s.withReader fun d => { d with pos := d.pos.set p m' }
  (s.endIfUnworkable p).raiseAt p .position

/-- Applies new antennas to the positions named, all at once, and then R34 to each. -/
def State.applyMap (s : State) (changes : List (Position × Option Antenna)) : State :=
  let s := s.withReader fun d => { d with map := changes.foldl (fun m c => m.set c.1 c.2) d.map }
  changes.foldl (fun s c => s.remapPosition c.1) s

/-- The deferred changes, by position. -/
def Reader.deferredChanges (d : Reader) : List (Position × Option Antenna) :=
  Position.all.filterMap fun p => (d.deferred.get p).map fun a => (p, a)

/-- At a visit's completion the deferred map changes apply (R30, R33). -/
def State.applyDeferred (s : State) : State :=
  let changes := s.reader.deferredChanges
  (s.withReader fun d => { d with deferred := .const none }).applyMap changes

/-- The end of every visit: deferred map changes apply, the transceiver is free, and the arbiter chooses again (R30). -/
def State.endVisit (s : State) : State :=
  (s.applyDeferred.withReader fun d => { d with visit := none }).arbiter

/-! ## BEHIND and confirmed stamps (R13) -/

/-- Whether the block a stamp wrote equals the record's usage (R13). -/
def stampMatches (q : StampReq) (r : PassRecord) : Bool :=
  q.used == r.used && q.lastUse == r.lastUse && q.mark == (r.state == .refunded || q.requester == .commit)

/-- A confirmed stamp clears BEHIND where the usage written equals the record's (R13, R46). -/
def State.clearBehind (s : State) (q : StampReq) : State :=
  s.updateRecord q.pass fun r => if stampMatches q r then { r with behind := false } else r

end Sys2Proof.Machine
end

