-- ==== Sys2Proof/Machine/CardAnswers.lean ====
section
/-! DEFINITION. Card answers: the fields of a read answer, the learn request and the merge write of the pass table, the
admission unit's action on a card at a lane, and the refund engine's action on a card at the window (R7 to R9, R16,
R17, R42, R63 to R70, R136, R137, R192). -/

namespace Sys2Proof.Machine

/-! ## The read answer (R42, R192, Table 11-5) -/

/-- A card answer's fields, with the results of its two inner checks (R43). -/
structure Card where
  pass : PassNo
  resort : Nat
  ticket : Ticket
  used : Nat
  lastUse : Nat
  markBit : Bool
  seq : Nat
  ticketOk : Bool
  usageOk : Bool
  deriving DecidableEq, Repr

/-- The ticket block's values that R192 treats as a failed ticket check, and pass number 0, which stands for no pass
(log 26). -/
def ticketInRange (p : PassNo) (t : Ticket) : Bool :=
  decide (t.product ≤ 4095) && decide (1 ≤ t.days) && decide (t.days ≤ 21) && decide (t.paid ≤ 1048575) && p != 0

/-- Reads the 28 bytes of a read answer (Table 11-5). -/
def cardOf (f : List Byte) : Card :=
  let pass : PassNo := BitVec.ofNat 40 (field f 1 5)
  let resort := field f 6 2
  let ticket : Ticket :=
    { product := field f 8 2, days := field f 10 1, firstDay := field f 11 2, lastDay := field f 13 2,
      paid := field f 15 3 }
  { pass := pass, resort := resort, ticket := ticket, used := field f 20 1, lastUse := field f 21 2,
    markBit := (byteAt f 23).getLsbD 0, seq := field f 24 1,
    ticketOk := crc16 (BitVec.ofNat 16 resort) ((f.drop 1).take 17) == BitVec.ofNat 16 (field f 18 2) &&
      ticketInRange pass ticket,
    usageOk := crc8 ((f.drop 20).take 5) == byteAt f 25 }

/-- A card shows the refund mark only where its usage check passed (R16). -/
def Card.mark (c : Card) : Bool := c.usageOk && c.markBit

/-- The days used a card offers: read as D where it shows more (R17). -/
def Card.offeredUsed (c : Card) : Nat := min c.used c.ticket.days

/-- The last use day a card offers: only with 1 or more days used (R17, R192). -/
def Card.offeredLastUse (c : Card) : Option Nat := if 1 ≤ c.used then some c.lastUse else none

/-! ## Learning (R7, R9) -/

/-- Whether a learn request from a position is carried out: the learn mask decides at a lane, PS is always allowed
(R7, R137). -/
def State.learnAllowed (s : State) : Position → Bool
  | .lane n => s.adm.settings.learnMask.get n
  | .ps => true

/-- A learn request for an absent pass: the record is created, or learning is masked, or it fails and is counted
(R7, R9). -/
def State.learn (s : State) (pos : Position) (p : PassNo) : State :=
  if s.learnAllowed pos then
    match placeFor s.table p with
    | some (k, _) => s.withTable fun t => putSlot t k (newRecord p .learned .active none s.time.runSec)
    | none => s.countLift fun l => { l with learnFailures := addSat max32 1 l.learnFailures }
  else s

/-! ## The merge write (R2, R16, R17) -/

/-- Whether the record's last use day is ahead of the day the card offers (R17). -/
def dayAhead : Option Nat → Option Nat → Bool
  | some a, some b => decide (b < a)
  | some _, none => true
  | none, _ => false

/-- A card showing the refund mark forces an ACTIVE or BLOCKED record to REFUNDED (R16). -/
def forceRefunded (mark : Bool) : RecState → RecState
  | .active => if mark then .refunded else .active
  | .blocked => if mark then .refunded else .blocked
  | .held p => .held p
  | .refunded => .refunded

/-- Whether the record is ahead of the card; a card with a bad usage check is treated as behind (R17). -/
def aheadOf (c : Card) (r : PassRecord) : Bool :=
  if c.usageOk then decide (c.offeredUsed < r.used) || dayAhead r.lastUse c.offeredLastUse else true

/-- The merge write on a record (R17), with R16. The greater days used is reduced to the days bought in force (R2). -/
def mergeWrite (c : Card) (r : PassRecord) : PassRecord :=
  let ticket := r.ticket.getD c.ticket
  { r with
    state := forceRefunded c.mark r.state
    ticket := some ticket
    used := if c.usageOk then min ticket.days (max r.used c.offeredUsed) else r.used
    lastUse := if c.usageOk then laterDay r.lastUse c.offeredLastUse else r.lastUse
    behind := r.behind || aheadOf c r }

/-! ## The admission unit (R63 to R70) -/

/-- The values on which an evaluation rests (R66), with the record as the action leaves it. -/
structure Basis where
  ticket : Ticket
  used : Nat
  lastUse : Option Nat
  behind : Bool
  record : Option PassRecord
  deriving DecidableEq, Repr

/-- The card's own values: UNLEARNED, or held by another lane context with no record (R66). -/
def Card.basis (c : Card) (r : Option PassRecord) : Basis :=
  { ticket := c.ticket, used := c.offeredUsed, lastUse := c.offeredLastUse, behind := false, record := r }

/-- The values of a record found while another lane context holds the pass (R66). -/
def recordBasis (c : Card) (r : PassRecord) : Basis :=
  match r.ticket with
  | some t => { ticket := t, used := r.used, lastUse := r.lastUse, behind := false, record := some r }
  | none => c.basis (some r)

/-- Whether a lane context of another lane holds the pass (R65). -/
def State.heldElsewhere (s : State) (n : Lane) (p : PassNo) : Bool :=
  Lane.all.any fun m => m != n && s.laneHolds m p

/-- The merge write on the pass's record, with the values it hands back (R66). -/
def State.mergeCard (s : State) (c : Card) (r : PassRecord) : State × Basis :=
  let m := mergeWrite c r
  (s.updateRecord c.pass (mergeWrite c),
    { ticket := r.ticket.getD c.ticket, used := m.used, lastUse := m.lastUse, behind := aheadOf c r, record := some m })

/-- The second and third stages for a card whose usage can be trusted or whose record is known (R65, R66). -/
def State.reachTable (s : State) (n : Lane) (c : Card) : State × Basis :=
  if s.heldElsewhere n c.pass then
    let s := s.seeRecord c.pass
    match s.record c.pass with
    | some r => (s, recordBasis c r)
    | none => (s, c.basis none)
  else
    match s.record c.pass with
    | some _ =>
      let s := s.seeRecord c.pass
      match s.record c.pass with
      | some r => s.mergeCard c r
      | none => (s, c.basis none)
    | none =>
      let s := s.learn (.lane n) c.pass
      match s.record c.pass with
      | some r => s.mergeCard c r
      | none => (s, c.basis none)

/-- Whether a rule matches a product code (R60). -/
def LaneRule.matchesProduct (r : LaneRule) (product : Nat) : Bool :=
  r.enabled && product &&& r.mask == r.value &&& r.mask

/-- The governing rule of a product code, with its index (R60). -/
def governingRule (rules : Vector LaneRule 16) (product : Nat) : Option (Nat × LaneRule) :=
  ((List.range 16).zip rules.toList).find? fun e => e.2.matchesProduct product

/-- The window test on the minute of the day (R60). -/
def LaneRule.windowOk (r : LaneRule) (minute : Nat) : Bool :=
  if r.start < r.stop then decide (r.start ≤ minute ∧ minute < r.stop)
  else if r.stop < r.start then decide (r.start ≤ minute ∨ minute < r.stop)
  else true

/-- Whether the refund context names the pass (R67, R136). -/
def RefundCtx.names (c : RefundCtx) (p : PassNo) : Bool :=
  match c with
  | .idle => false
  | .reading none => false
  | .reading (some r) => r.pass == p
  | .quoted q => q.pass == p
  | .committing q _ => q.pass == p

def recHeld : RecState → Bool
  | .held _ => true
  | .active | .blocked | .refunded => false

/-- NO_DAYS: the rule charges, today has not been consumed, and no day is left (Table 3-3). -/
def needsDay (rule : LaneRule) (today : Nat) (b : Basis) : Bool := rule.charge && b.lastUse != some today

/-- PASSBACK (Table 3-3). -/
def passbackHolds (lockout runSec : Nat) (r : Option PassRecord) : Bool :=
  match r.bind (·.lastPassage) with
  | some lp => decide (0 < lockout ∧ runSec - lp.second < lockout)
  | none => false

/-- The first refusal of checks 3 to 7 of Table 3-3, which need no rule. -/
def earlyRefusal (s : State) (n : Lane) (c : Card) (b : Basis) : Option RefuseReason :=
  let st := b.record.map (·.state)
  if s.time.tod.isNone then some .noClock
  else if c.mark || st == some .refunded then some .refunded
  else if st == some .blocked then some .blocked
  else if (st.map recHeld).getD false || s.refund.ctx.names c.pass then some .held
  else if s.heldElsewhere n c.pass then some .inUse
  else none

/-- The first refusal of checks 8 to 12 of Table 3-3, against the governing rule. -/
def ruleRefusal (s : State) (n : Lane) (b : Basis) (rule : Option LaneRule) : Option RefuseReason :=
  let today := s.time.lastDay
  if today < b.ticket.firstDay then some .notYet
  else if b.ticket.lastDay < today then some .expired
  else
    match rule with
    | none => some .rule
    | some r =>
      if !(r.lanes.get n && r.windowOk (s.time.tod.getD 0 / 60)) then some .rule
      else if needsDay r today b && decide (b.ticket.days ≤ b.used) then some .noDays
      else if passbackHolds s.adm.settings.lockout s.time.runSec b.record then some .passback
      else none

/-- The lane's repeat-quiet memory holds the pass until the repeat-quiet time from now has run (R54). -/
def State.fillQuiet (s : State) (n : Lane) (p : PassNo) : State :=
  let q : Quiet := { pass := p, deadline := s.time.ms + s.adm.settings.quiet * 100 }
  s.withAdm fun a => { a with quiet := a.quiet.set n (some q) }

/-- A refusal (R69): the verdict record, the repeat-quiet memory, the count and the refusal
signal. -/
def State.refuse (s : State) (n : Lane) (c : Card) (v : Verdict) (r : RefuseReason) : State :=
  let s := s.putVerdict n { v with kind := .refuse r }
  let s := s.fillQuiet n c.pass
  let s := s.countRefusal n r
  (s.startSignal n .refusal).startTone n .twoLow

/-- The write-back stamp of a read that created no lane context (R70). -/
def State.writeBack (s : State) (n : Lane) (c : Card) (b : Basis) : State :=
  if b.behind then
    match s.record c.pass with
    | some r => s.requestLaneStamp (s.newStamp (.lane n) .writeBack c.pass r (r.state == .refunded) c.seq)
    | none => s
  else s

/-- The verdict's fields that rest on the evaluation (R77; log 25). The kind is filled in by the outcome. -/
def basisVerdict (c : Card) (b : Basis) (flags : VerdictFlags) (cls : Nat) : Verdict :=
  { seq := 0, kind := .admitted, pass := c.pass, product := some b.ticket.product,
    remaining := daysRemaining b.ticket.days b.used flags.newDay, lastDay := some b.ticket.lastDay, flags := flags,
    cls := cls, passage := .idle }

/-- The flags of a refusal (R69). -/
def refusalFlags (b : Basis) : VerdictFlags :=
  { VerdictFlags.none with unlearned := b.record.isNone, behind := b.behind }

/-- A pass that passes every check (R68). -/
def State.admitCard (s : State) (n : Lane) (c : Card) (b : Basis) (rule : LaneRule) : State :=
  let newDay := needsDay rule s.time.lastDay b
  let flags : VerdictFlags :=
    { newDay := newDay, noCharge := !rule.charge, unlearned := b.record.isNone, behind := b.behind, fromQueue := false }
  let v := basisVerdict c b flags rule.cls
  if s.supply.state = .run then
    let data : NoteData :=
      { seq := c.seq, flags := flags, product := b.ticket.product, days := b.ticket.days, used := b.used,
        lastDay := b.ticket.lastDay }
    let ctx : Context :=
      { pass := some c.pass, cls := rule.cls, newDay := newDay, noCharge := !rule.charge, grantTime := none,
        windowEnd := none }
    let s := s.beginContext n ctx { cls := rule.cls, data := some data }
    let s := s.updateRecord c.pass fun r => { r with live := some n }
    let s := s.requestRelease n c.pass rule.cls
    s.putVerdict n { v with kind := if (s.lane n).passage = .queued then .queued else .admitted }
  else
    let s := s.putVerdict n { v with kind := .withdrawn .lowSupply }
    let s := (s.startSignal n .withdrawn).startTone n .lowTone
    let s := s.countLane n fun l => { l with withdrawals := addSat max32 1 l.withdrawals }
    s.writeBack n c b

/-- The fourth and fifth stages (R67 to R70). -/
def State.judge (s : State) (n : Lane) (c : Card) (b : Basis) : State :=
  match earlyRefusal s n c b with
  | some r => (s.refuse n c (basisVerdict c b (refusalFlags b) 0) r).writeBack n c b
  | none =>
    let rule := (governingRule s.adm.rules b.ticket.product).map (·.2)
    match ruleRefusal s n b rule, rule with
    | some r, g => (s.refuse n c (basisVerdict c b (refusalFlags b) ((g.map (·.cls)).getD 0)) r).writeBack n c b
    | none, some g => s.admitCard n c b g
    | none, none => s

/-- A refusal by the card alone, or of an absent pass whose usage cannot be trusted: no record is behind it (R64,
R65). -/
def State.refuseCard (s : State) (n : Lane) (c : Card) (r : RefuseReason) (product : Bool) (remaining : Nat)
    (unlearned : Bool) : State :=
  s.refuse n c
    { seq := 0, kind := .refuse r, pass := c.pass, product := if product then some c.ticket.product else none,
      remaining := remaining, lastDay := if product then some c.ticket.lastDay else none,
      flags := { VerdictFlags.none with unlearned := unlearned }, cls := 0, passage := .idle } r

/-- The admission unit takes a card answer from a lane position (R63). A card with a failed usage check whose pass has no
record, but is held by another lane's context, falls under R65's first case and goes on to IN_USE (log 36). -/
def State.admission (s : State) (n : Lane) (c : Card) : State :=
  if !c.ticketOk then s.refuseCard n c .unreadable false 255 false
  else if c.resort != s.adm.settings.resort then
    s.refuseCard n c .foreign true (daysRemaining c.ticket.days c.offeredUsed false) false
  else if !c.usageOk && (s.record c.pass).isNone && !s.heldElsewhere n c.pass then
    s.refuseCard n c .unreadable true 255 true
  else
    let (s, b) := s.reachTable n c
    s.judge n c b

/-- The repeat-quiet test: the memory holds the same pass and its deadline has not passed (R54; log 15). -/
def State.quietHolds (s : State) (n : Lane) (p : PassNo) : Bool :=
  match s.adm.quiet.get n with
  | some q => q.pass == p && decide (s.time.ms < q.deadline)
  | none => false

/-- A card answer of a scan read (R43, R54): discarded where the lane is not OPEN and IDLE, suppressed by the
repeat-quiet memory, or handed to the admission unit. -/
def State.scanAnswer (s : State) (n : Lane) (c : Card) : State :=
  if (s.lane n).mode != .opened || (s.lane n).passage != .idle then s
  else if s.quietHolds n c.pass then s.fillQuiet n c.pass
  else s.admission n c

/-! ## The refund engine (R136, R137) -/

def findTariff (ts : List Tariff) (product : Nat) : Option Tariff := ts.find? fun t => t.product == product

/-- The checks 1 to 6 of Table 7-4, with the tariff set they find. `mark` is the card's, `r` the record. -/
def quoteChecks (s : State) (readDay : Nat) (c : Card) (tk : Ticket) (r : Option PassRecord) : Result ⊕ Tariff :=
  let st := r.map (·.state)
  if c.mark || st == some .refunded then .inl .refunded
  else if st == some .blocked then .inl .blocked
  else if (s.holderOf c.pass).isSome then .inl .inUse
  else
    match findTariff s.refund.tariffs tk.product with
    | none => .inl .noTariff
    | some t =>
      if !t.refundable then .inl .notRefundable
      else if tk.lastDay + t.claim < readDay then .inl .expired
      else .inr t

/-- The quote is computed; a record found ahead is written back first, else the hold is placed at once (R137). -/
def State.quoteRecord (s : State) (rd : Reading) (c : Card) (b : Basis) (r : PassRecord) (t : Tariff) : State :=
  let q := computeQuote rd.readDay b.ticket b.used t r (ridesToday s.time r)
  if b.behind then
    let s := s.withCtx (.reading (some { rd with quote := some q }))
    s.requestWriteBackStamp (s.newStamp .ps .writeBack c.pass r false rd.seq)
  else s.placeHold rd q

/-- A quote that passes the checks with the pass absent learns it now (R137). -/
def State.quoteAbsent (s : State) (rd : Reading) (c : Card) (t : Tariff) : State :=
  let s := s.learn .ps c.pass
  match s.record c.pass with
  | none => s.refuseQuote .tableFull (.cardPass c.pass)
  | some r =>
    let (s, b) := s.mergeCard c r
    match s.record c.pass with
    | some r => s.quoteRecord rd c b r t
    | none => s

/-- The refund engine takes the card answer of a service read (R136; log 27). A card with a failed usage
check whose pass has no record, but is held by a lane context, falls under R136's first table case and goes on to the
checks (log 36). -/
def State.quoteCard (s : State) (c : Card) : State :=
  let rd : Reading := { pass := c.pass, readDay := s.time.lastDay, seq := c.seq, quote := none }
  let s := s.withCtx (.reading (some rd))
  let no (s : State) (r : Result) : State := s.refuseQuote r (.cardPass c.pass)
  if !c.ticketOk then no s .unreadable
  else if c.resort != s.adm.settings.resort then no s .foreign
  else
    let s := s.seeRecord c.pass
    match s.record c.pass with
    | some r =>
      let (s, b) : State × Basis :=
        if (s.holderOf c.pass).isSome then (s, recordBasis c r) else s.mergeCard c r
      match s.record c.pass with
      | some r =>
        match quoteChecks s rd.readDay c b.ticket (some r) with
        | .inl res => no s res
        | .inr t => s.quoteRecord rd c b r t
      | none => s
    | none =>
      if (s.holderOf c.pass).isSome then
        match quoteChecks s rd.readDay c c.ticket none with
        | .inl res => no s res
        | .inr _ => s
      else if !c.usageOk then no s .unreadable
      else if c.mark then
        let s := s.learn .ps c.pass
        let s := match s.record c.pass with
          | some r => (s.mergeCard c r).1
          | none => s
        no s .refunded
      else
        match quoteChecks s rd.readDay c c.ticket none with
        | .inl res => no s res
        | .inr t => s.quoteAbsent rd c t

end Sys2Proof.Machine
end

