-- ==== Sys2Proof/Machine/Passages.lean ====
section
/-! DEFINITION. Riders at the beams and at the loading line: grant expiry, passages and their attribution, the beam
tracker, debounced inputs and BOARD (sections 4.2 to 4.5, 5.1). -/

namespace Sys2Proof.Machine

/-! ## Ends of a grant (R89 to R91) -/

/-- The grant expires (R89): the arm is locked, the context ends, the loading monitor is told. -/
def State.expireGrant (s : State) (n : Lane) : State :=
  let p := (s.ctxPass n).getD 0
  let s := s.endContext n
  let s := s.withLoad fun l => { l with live := l.live - 1 }
  let s := s.countLane n fun c => { c with expiries := addSat max32 1 c.expiries }
  let s := s.putReport n .expired p
  s.serviceStep

/-- The passage write on the record (R19). -/
def passageWrite (now today : Nat) (n : Lane) (r : PassRecord) : PassRecord :=
  let fresh : Rides := { count := 1, day := today }
  { r with
    lastPassage := some { second := now, lane := n }
    rides := some (match r.rides with
      | some g => if g.day = today then { count := addSat 255 1 g.count, day := g.day } else fresh
      | none => fresh)
    lastSeen := now }

/-- Whether the lane's admission note carries UNLEARNED. -/
def State.noteUnlearned (s : State) (n : Lane) : Bool := ((s.note n).data.map (·.flags.unlearned)).getD false

/-- A forward passage in ENTERING completes the grant (R91). -/
def State.completeGrant (s : State) (n : Lane) : State :=
  let pass := s.ctxPass n
  let s := match pass with
    | some p =>
      if s.noteUnlearned n then s else s.updateRecord p (passageWrite s.time.runSec s.time.lastDay n)
    | none => s
  let s := s.withLoad fun l => { l with live := l.live - 1 }
  let s := s.occupancyUp
  let s := s.countPassage n fun c =>
    if pass.isSome then { c with admitted := c.admitted + 1 } else { c with manual := c.manual + 1 }
  let s := s.putReport n (if pass.isSome then .admitted else .manual) (pass.getD 0)
  s.endContext n

/-! ## Passages that complete no grant (R94, R95) -/

/-- A free passage: the lane is FREE (R94). -/
def State.freePassage (s : State) (n : Lane) : State :=
  let s := s.occupancyUp
  let s := s.countPassage n fun c => { c with free := c.free + 1 }
  s.putReport n .free 0

/-- An intrusion: the lane is OPEN or CLOSED (R94). -/
def State.intrusion (s : State) (n : Lane) : State :=
  let s := s.occupancyUp
  let s := s.countPassage n fun c => { c with intrusions := c.intrusions + 1 }
  let s := s.putReport n .intrusion 0
  let s := s.raiseStation .intrusion
  (s.startSignal n .intrusion).startTone n .lowTone

/-- A reverse passage (R95): the place it frees may go to a waiting lane. -/
def State.reversePassage (s : State) (n : Lane) : State :=
  let s := s.occupancyDown
  let s := s.countLane n fun c => { c with reverse := addSat max32 1 c.reverse }
  let s := s.putReport n .reverse 0
  s.serviceStep

/-! ## The passage machine (Table 4-2) -/

/-- What the beam tracker hands to the passage machine (Table 4-1). -/
inductive HandOver where
  | entryBegun | exitBegun | forward | reverse
  | cleared (seen : Bool)
  | nothing
  deriving DecidableEq, Repr

/-- An entry begun makes a GRANTED lane ENTERING (R89). -/
def State.entryBegun (s : State) (n : Lane) : State :=
  if (s.lane n).passage = .granted then s.withLane n fun u => { u with passage := .entering } else s

/-- A forward passage is attributed to one of four kinds (R91, R93, R94). -/
def State.forwardPassage (s : State) (n : Lane) : State :=
  match (s.lane n).passage with
  | .entering => s.completeGrant n
  | .idle | .queued | .granted =>
    match (s.lane n).mode with
    | .free => s.freePassage n
    | .opened => s.intrusion n
    | .closed => s.intrusion n

/-- Whether the lane's window end has been reached. -/
def State.windowPassed (s : State) (n : Lane) : Bool :=
  match (s.lane n).ctx.bind (·.windowEnd) with
  | some e => decide (e ≤ s.time.ms)
  | none => false

/-- A back-out: the rider has stepped back out of the entry beam (R90). -/
def State.backOut (s : State) (n : Lane) : State :=
  if (s.lane n).passage = .entering then
    if s.windowPassed n then s.expireGrant n else s.withLane n fun u => { u with passage := .granted }
  else s

def State.handOver (s : State) (n : Lane) : HandOver → State
  | .entryBegun => s.entryBegun n
  | .exitBegun => s
  | .forward => s.forwardPassage n
  | .reverse => s.reversePassage n
  | .cleared seen => if seen then s else s.backOut n
  | .nothing => s

/-! ## The beam tracker (R85) -/

/-- Table 4-1: a break of a beam. -/
def trackBreak (b : Beam) : Tracker → Tracker × HandOver
  | .clear => match b with
    | .enb => (.fromEntry false, .entryBegun)
    | .exb => (.fromExit false, .exitBegun)
  | .fromEntry seen => match b, seen with
    | .exb, false => (.fromEntry true, .forward)
    | .exb, true => (.fromEntry true, .nothing)
    | .enb, seen => (.fromEntry seen, .nothing)
  | .fromExit seen => match b, seen with
    | .enb, false => (.fromExit true, .reverse)
    | .enb, true => (.fromExit true, .nothing)
    | .exb, seen => (.fromExit seen, .nothing)

/-- Table 4-1: a clear of a beam; `otherBroken` tells whether the other beam is still broken. -/
def trackClear (otherBroken : Bool) : Tracker → Tracker × HandOver
  | .clear => (.clear, .nothing)
  | .fromEntry seen => if otherBroken then (.fromEntry seen, .nothing) else (.clear, .cleared seen)
  | .fromExit seen => if otherBroken then (.fromExit seen, .nothing) else (.clear, .cleared seen)

/-! ## Debounced inputs (R84, R107) -/

def LaneUnit.beam (u : LaneUnit) : Beam → Debounced
  | .enb => u.enb
  | .exb => u.exb

def LaneUnit.setBeam (u : LaneUnit) (b : Beam) (d : Debounced) : LaneUnit :=
  match b with
  | .enb => { u with enb := d }
  | .exb => { u with exb := d }

def otherBeam : Beam → Beam
  | .enb => .exb
  | .exb => .enb

/-- A raw level: a value other than the debounced level begins a pending change, the debounced value cancels one, and
a level that already stands changes nothing (R84). -/
def Debounced.rawChange (now : Nat) (raw : Bool) (d : Debounced) : Debounced :=
  if raw = d.raw then d
  else { d with raw := raw, since := if raw = d.level then none else some now }

/-- Whether a pending change has stood for the debounce time (R84). -/
def Debounced.due (now debounce : Nat) (d : Debounced) : Bool :=
  match d.since with
  | some t => decide (t + debounce ≤ now)
  | none => false

/-- The debounced level takes the raw level. -/
def Debounced.settle (d : Debounced) : Debounced := { d with level := d.raw, since := none }

/-- A beam's debounced level changes and drives the tracker (R84, R85). -/
def State.beamChanged (s : State) (n : Lane) (b : Beam) : State :=
  let u := s.lane n
  let d := (u.beam b).settle
  let (t, h) := if d.level then trackBreak b u.tracker else trackClear (u.beam (otherBeam b)).level u.tracker
  (s.withLane n fun u => { u.setBeam b d with tracker := t }).handOver n h

/-- The beam's pending change takes effect where it has stood for the debounce time. -/
def State.beamIfDue (s : State) (n : Lane) (b : Beam) : State :=
  if ((s.lane n).beam b).due s.time.ms s.debounce then s.beamChanged n b else s

/-- A BOARD pulse (R107): one rider boarded. -/
def State.boardPulse (s : State) : State :=
  let excess := s.load.occupancy == 0
  let s := s.occupancyDown
  let s := s.countLift fun l =>
    { l with boarded := addSat max32 1 l.boarded
             excess := if excess then addSat max32 1 l.excess else l.excess }
  let s := s.withCounts fun c => { c with openBin := { c.openBin with boarded := addSat max16 1 c.openBin.boarded } }
  s.serviceStep

/-- The BOARD level's pending change takes effect; becoming active is a pulse (R107). -/
def State.boardChanged (s : State) : State :=
  let d := s.load.board.settle
  let s := s.withLoad fun l => { l with board := d }
  if d.level then s.boardPulse else s

def State.boardIfDue (s : State) : State :=
  if s.load.board.due s.time.ms s.debounce then s.boardChanged else s

/-- A new debounce time applies at once: changes that have already stood for it take effect, lane by lane and ENB before
EXB, then BOARD (R84; log 16). -/
def State.settleInputs (s : State) : State :=
  (Lane.all.foldl (fun s n => (s.beamIfDue n .enb).beamIfDue n .exb) s).boardIfDue

end Sys2Proof.Machine
end

