-- ==== Sys2Proof/Machine/AdmissionOrders.lean ====
section
/-! DEFINITION. The admission unit's orders: ADMIT SET, RULE PUT, RULE QUERY and VERDICT FETCH (chapter 3). -/

namespace Sys2Proof.Machine

/-! ## ADMIT SET (R58) -/

/-- The settings of Table 3-1 from the order's fields; `none` where a value lies outside its range. -/
def admSettingsOf (resort lockout : BitVec 16) (quiet learnMask : Byte) : Option AdmSettings :=
  match inRange 0 3600 lockout.toNat, inRange 5 100 quiet.toNat, laneSetOf learnMask with
  | some l, some q, some m => some { resort := resort.toNat, lockout := l, quiet := q, learnMask := m }
  | _, _, _ => none

def admitSetBlock (a : Option AdmSettings) (s : State) : Answer :=
  match a with
  | some x => answerOk (s.withAdm fun d => { d with settings := x }) (.admSettings x)
  | none => refuseWith s .badArg

def orderAdmitSet (port : Port) (resort lockout : BitVec 16) (quiet learnMask : Byte) (s : State) : State :=
  takeOrder port 0x31 .raised (stationOnly port) (admitSetBlock (admSettingsOf resort lockout quiet learnMask)) s

def execAdmitSet (port : Port) (resort lockout : BitVec 16) (quiet learnMask : Byte) (s : State) :
    Host.Outcome State Fault Refusal :=
  .next (orderAdmitSet port resort lockout quiet learnMask s)

/-! ## RULE PUT (R61) -/

/-- The fields of Table 3-2 from the order's fields; `none` where a value lies outside its range. -/
def laneRuleOf (enabled : Byte) (value mask : BitVec 16) (lanes : Byte) (start stop : BitVec 16) (cls charge : Byte) :
    Option LaneRule :=
  match boolOf enabled, laneSetOf lanes, boolOf charge with
  | some e, some l, some c =>
    if value.toNat ≤ 4095 ∧ mask.toNat ≤ 4095 ∧ start.toNat ≤ 1439 ∧ stop.toNat ≤ 1439 ∧ cls.toNat ≤ 3 then
      some { enabled := e, value := value.toNat, mask := mask.toNat, lanes := l, start := start.toNat,
             stop := stop.toNat, cls := cls.toNat, charge := c }
    else none
  | _, _, _ => none

def rulePutBlock (index : Nat) (r : Option LaneRule) (s : State) : Answer :=
  match r with
  | some r =>
    if index ≤ 15 then
      answerOk (s.withAdm fun d => { d with rules := d.rules.setIfInBounds index r }) (.laneRule none r)
    else refuseWith s .badArg
  | none => refuseWith s .badArg

def orderRulePut (port : Port) (index enabled : Byte) (value mask : BitVec 16) (lanes : Byte) (start stop : BitVec 16)
    (cls charge : Byte) (s : State) : State :=
  takeOrder port 0x32 .raised (stationOnly port)
    (rulePutBlock index.toNat (laneRuleOf enabled value mask lanes start stop cls charge)) s

def execRulePut (port : Port) (index enabled : Byte) (value mask : BitVec 16) (lanes : Byte) (start stop : BitVec 16)
    (cls charge : Byte) (s : State) : Host.Outcome State Fault Refusal :=
  .next (orderRulePut port index enabled value mask lanes start stop cls charge s)

/-! ## RULE QUERY (R62) -/

def ruleQueryBlock (selector : Byte) (value : Nat) (s : State) : Answer :=
  match selector.toNat with
  | 0 =>
    match s.adm.rules[value]? with
    | some r => answerOk s (.laneRule none r)
    | none => refuseWith s .badArg
  | 1 =>
    if 4095 < value then refuseWith s .badArg
    else
      match governingRule s.adm.rules value with
      | some (i, r) => answerOk s (.laneRule (some i) r)
      | none => refuseWith s .notFound
  | _ => refuseWith s .badArg

def orderRuleQuery (port : Port) (selector : Byte) (value : BitVec 16) (s : State) : State :=
  takeOrder port 0x33 .raised (stationOnly port) (ruleQueryBlock selector value.toNat) s

def execRuleQuery (port : Port) (selector : Byte) (value : BitVec 16) (s : State) : Host.Outcome State Fault Refusal :=
  .next (orderRuleQuery port selector value s)

/-! ## VERDICT FETCH (R79) -/

def verdictFetchBlock (lane : Byte) (s : State) : Answer :=
  match laneOf lane with
  | none => refuseWith s .badArg
  | some n =>
    match s.adm.verdicts.get n with
    | some v => answerOk s (.verdict v)
    | none => refuseWith s .notFound

def orderVerdictFetch (port : Port) (lane : Byte) (s : State) : State :=
  takeOrder port 0x34 .raised (ownLane port lane) (verdictFetchBlock lane) s

def execVerdictFetch (port : Port) (lane : Byte) (s : State) : Host.Outcome State Fault Refusal :=
  .next (orderVerdictFetch port lane s)

end Sys2Proof.Machine
end

