-- ==== Sys2Proof/Machine/ClockCommands.lean ====
section
/-! DEFINITION. The time unit: the clock orders, the local second, rollover, run minutes, and the station time pulse
(chapter 8; minute bins R126, count sets R127). -/

namespace Sys2Proof.Machine

/-! ## Rollover (R127, R158) -/

/-- The count unit's part of a rollover: the current set becomes the previous-day set, and a new one begins whose peak
is the present occupancy (R127). -/
def Counts.roll (day occupancy : Nat) (c : Counts) : Counts :=
  { c with
    previous := some c.current
    current := { CountSet.zero day with lift := { LiftCounts.zero with peak := occupancy } } }

/-- A rollover to a day (R158). -/
def State.rollover (s : State) (day : Nat) : State :=
  let s := s.withTime fun t => { t with lastDay := day }
  let s := s.withCounts (Counts.roll day s.load.occupancy)
  let s := s.withAdm fun a => { a with quiet := .const none }
  s.raiseStation .rollover

/-! ## The local second (R156 to R158) -/

/-- The day boundary: a rollover, or CLOCK where the day number is at its limit (R157, R158). -/
def State.dayBoundary (s : State) : State :=
  if s.time.lastDay < 65535 then s.rollover (s.time.lastDay + 1) else s.raiseStation .clock

/-- The time of day after one second (R156). -/
def nextTod (tod : Nat) : Nat := if tod = 86399 then 0 else tod + 1

/-- The ordinary advance of a SET clock by one second (R126, R156). -/
def State.advanceTod (s : State) (tod : Nat) : State :=
  let tod' := nextTod tod
  let s := s.withTime fun t => { t with tod := some tod' }
  let s := if tod' = s.time.boundaryHour * 3600 then s.dayBoundary else s
  if tod' % 60 = 0 then s.withCounts (Counts.closeBin (some (tod' / 60))) else s

/-- A local second boundary: the next local second begins at the scheduled end (R156). -/
def State.secondBoundary (s : State) : State :=
  let s := s.withTime fun t => { t with secStart := t.secEnd, secEnd := t.secEnd + 1000 }
  match s.time.tod with
  | some tod => s.advanceTod tod
  | none => s

def execLocalSecondBoundary (s : State) : Host.Outcome State Fault Refusal :=
  .next (s.running fun s => if s.time.secEnd ≤ s.time.ms then s.secondBoundary else s)

/-! ## Run minutes (R126) -/

/-- Run seconds stand at a multiple of 60 that has not been taken, with the clock UNSET. -/
def State.runMinuteDue (s : State) : Bool :=
  s.time.tod.isNone && s.time.runSec % 60 == 0 && s.time.runSec != 0 && s.time.runMinuteTaken != s.time.runSec

def execRunMinute (s : State) : Host.Outcome State Fault Refusal :=
  .next (s.running fun s =>
    if s.runMinuteDue then
      (s.withTime fun t => { t with runMinuteTaken := t.runSec }).withCounts (Counts.closeBin none)
    else s)

/-! ## CLOCK SET (R159) -/

/-- Whether a CLOCK SET closes the open bin (R126): it sets an UNSET clock, or changes the minute of day. -/
def closesBin (old : Option Nat) (tod : Nat) : Bool :=
  match old with
  | none => true
  | some t => t / 60 != tod / 60

def State.setClock (s : State) (day tod hour : Nat) : State :=
  let old := s.time.tod
  let s := if s.time.lastDay < day then s.rollover day else s
  let s := s.withTime fun t => { t with tod := some tod, boundaryHour := hour }
  if closesBin old tod then s.withCounts (Counts.closeBin (some (tod / 60))) else s

def clockSetBlock (day tod hour : Nat) (s : State) : Answer :=
  if tod ≤ 86399 ∧ hour ≤ 23 ∧ s.time.lastDay ≤ day then answerOk (s.setClock day tod hour) (.clockSet tod day hour)
  else refuseWith s .badArg

def orderClockSet (port : Port) (day : BitVec 16) (time : BitVec 24) (hour : Byte) (s : State) : State :=
  takeOrder port 0x81 .raised (stationOnly port) (clockSetBlock day.toNat time.toNat hour.toNat) s

def execClockSet (port : Port) (day : BitVec 16) (time : BitVec 24) (hour : Byte) (s : State) :
    Host.Outcome State Fault Refusal :=
  .next (orderClockSet port day time hour s)

/-! ## CLOCK SYNC (R160, R164) -/

/-- The mode and window an order names; `none` where R160 refuses them. An arm byte other than 0 and 1 is outside its
range in every mode (R190; log 18). -/
def syncOf (mode window arm : Byte) : Option (SyncMode × Nat) :=
  match syncModeOf mode, inRange 1 250 window.toNat, boolOf arm with
  | some m, some w, some a => if m = .oneShot ∧ a = false then none else some (m, w)
  | _, _, _ => none

/-- A change of mode: leaving OFF sets the pulse state to PRESENT and starts the watch, going to OFF stops it. -/
def TimeUnit.setMode (t : TimeUnit) (m : SyncMode) (jitter : Nat) : TimeUnit :=
  let t' := { t with mode := m, jitter := jitter }
  if m = .off then { t' with watch := none }
  else if t.mode = .off then { t' with pulseLost := false, watch := some (t.ms + 3000) }
  else t'

def clockSyncBlock (x : Option (SyncMode × Nat)) (s : State) : Answer :=
  match x with
  | some (m, w) =>
    let s := s.withTime fun t => t.setMode m w
    answerOk s (.clockSync s.time.mode s.time.jitter s.time.pulseLost)
  | none => refuseWith s .badArg

def orderClockSync (port : Port) (mode window arm : Byte) (s : State) : State :=
  takeOrder port 0x82 .raised (stationOnly port) (clockSyncBlock (syncOf mode window arm)) s

def execClockSync (port : Port) (mode window arm : Byte) (s : State) : Host.Outcome State Fault Refusal :=
  .next (orderClockSync port mode window arm s)

/-! ## CLOCK STATUS (R165) -/

def TimeUnit.report (t : TimeUnit) : ClockReport :=
  { tod := t.tod, day := t.lastDay, boundaryHour := t.boundaryHour, runSec := t.runSec,
    intoSecond := t.ms - t.secStart, mode := t.mode, jitter := t.jitter, pulseLost := t.pulseLost,
    snapshot := t.snapshot, pulseCount := t.pulseCount, driftCount := t.driftCount }

def clockStatusBlock (s : State) : Answer := answerOk s (.clockStatus s.time.report)

def orderClockStatus (port : Port) (s : State) : State :=
  takeOrder port 0x83 .raised (stationOnly port) clockStatusBlock s

def execClockStatus (port : Port) (s : State) : Host.Outcome State Fault Refusal :=
  .next (orderClockStatus port s)

/-! ## The station time pulse (R161 to R164) -/

/-- The phase error of a pulse, limited to −500 … +499 ms (R161 step 1). -/
def TimeUnit.phaseError (t : TimeUnit) : Int :=
  let a : Int := (t.ms : Int) - t.secStart
  let b : Int := (t.secEnd : Int) - t.ms
  let e := if a ≤ b then a else -b
  max (-500) (min 499 e)

/-- Alignment: the end of the local second in progress moves (R162; log 30). -/
def TimeUnit.align (e : Int) (t : TimeUnit) : TimeUnit :=
  if 0 < e then { t with secEnd := t.secStart + 1000 + e.toNat }
  else if e < 0 then { t with secEnd := t.secEnd - (-e).toNat }
  else t

/-- Whether a pulse is spurious: less than 500 ms after the last counted one (R161). -/
def TimeUnit.spurious (t : TimeUnit) : Bool :=
  match t.lastPulse with
  | some p => decide (t.ms < p + 500)
  | none => false

/-- Steps 2 to 4 of R161: snapshot, pulse count, pulse state and watch. -/
def TimeUnit.countPulse (e : Int) (t : TimeUnit) : TimeUnit :=
  { t with
    snapshot := some { error := e, clock := t.tod.map fun tod => (t.lastDay, tod) }
    pulseCount := addWrap 65536 t.pulseCount
    pulseLost := false
    watch := some (t.ms + 3000)
    lastPulse := some t.ms }

/-- Drift beyond the jitter window is counted and raises CLOCK (R163). -/
def State.countDrift (s : State) (e : Int) : State :=
  if s.time.jitter < e.natAbs then
    (s.withTime fun t => { t with driftCount := addSat max16 1 t.driftCount }).raiseStation .clock
  else s

/-- What the mode does with a counted pulse (R163). -/
def State.actOnPulse (s : State) (e : Int) : State :=
  match s.time.mode with
  | .oneShot => s.withTime fun t => { t.align e with mode := .monitor }
  | .continuous => (s.withTime (TimeUnit.align e)).countDrift e
  | .monitor => s.countDrift e
  | .off => s

/-- A counted pulse (R161 to R164). -/
def State.countedPulse (s : State) : State :=
  let e := s.time.phaseError
  let s := if s.time.pulseLost then s.raiseStation .clock else s
  (s.withTime (TimeUnit.countPulse e)).actOnPulse e

def execStpPulse (s : State) : Host.Outcome State Fault Refusal :=
  .next (s.running fun s => if s.time.mode = .off ∨ s.time.spurious then s else s.countedPulse)

/-- Whether the pulse watch deadline is reached. -/
def TimeUnit.watchDue (t : TimeUnit) : Bool :=
  match t.watch with
  | some d => decide (d ≤ t.ms)
  | none => false

def execPulseWatchExpiry (s : State) : Host.Outcome State Fault Refusal :=
  .next (s.running fun s =>
    if s.time.watchDue then
      (s.withTime fun t => { t with pulseLost := true, watch := none }).raiseStation .clock
    else s)

end Sys2Proof.Machine
end

