-- ==== Sys2Proof/Machine/CountOrders.lean ====
section
/-! DEFINITION. COUNTS READ (R128) and its rights (R171). -/

namespace Sys2Proof.Machine

/-- The set that a period names: today's or the previous day's (R128). -/
def Counts.setOf (c : Counts) (previous : Bool) : Option CountSet := if previous then c.previous else some c.current

/-- The rights of R171 for COUNTS READ: a lane port may read its own lane's lane and refusal parts. -/
def countsRights (p : Port) (part lane : Byte) : Rights :=
  match p, part.toNat with
  | .sp, _ => true
  | .lp n, 0 => ownLane (.lp n) lane
  | .lp n, 1 => ownLane (.lp n) lane
  | .lp _, 2 => false
  | .lp _, 3 => false
  | .lp _, _ => true

/-- Whether the clock is SET, which the reply tells for the period today only (R128). -/
def State.todaySet (s : State) (previous : Bool) : Option Bool := if previous then none else some s.time.tod.isSome

/-- A part of the set that the period names; an empty previous-day set is answered NOT_FOUND (R128). -/
def readSet (previous : Bool) (body : CountSet → Body) (s : State) : Answer :=
  match s.counts.setOf previous with
  | some c => answerOk s (body c)
  | none => refuseWith s .notFound

def binsBlock (start number : Nat) (s : State) : Answer :=
  if start ≤ 59 ∧ 1 ≤ number ∧ number ≤ 6 then
    answerOk s (.bins s.counts.ring.length ((s.counts.ring.drop start).take number) s.counts.openBin)
  else refuseWith s .badArg

/-- COUNTS READ (R128). -/
def countsReadBlock (period part lane : Byte) (start number : Nat) (s : State) : Answer :=
  match boolOf period, part.toNat, laneOf lane with
  | some prev, 0, some n => readSet prev (fun c => .lanePart c.day (s.todaySet prev) (c.lanes.get n)) s
  | some prev, 1, some n => readSet prev (fun c => .refusalPart c.day (s.todaySet prev) (c.refusals.get n)) s
  | some prev, 2, _ => readSet prev (fun c => .liftPart c.day (s.todaySet prev) c.lift) s
  | some false, 3, _ => binsBlock start number s
  | _, _, _ => refuseWith s .badArg

def orderCountsRead (port : Port) (period part lane start number : Byte) (s : State) : State :=
  takeOrder port 0x61 .raised (countsRights port part lane)
    (countsReadBlock period part lane start.toNat number.toNat) s

def execCountsRead (port : Port) (period part lane start number : Byte) (s : State) :
    Host.Outcome State Fault Refusal :=
  .next (orderCountsRead port period part lane start number s)

end Sys2Proof.Machine
end

