-- ==== Sys2Proof/Machine/LaneCommands.lean ====
section
/-! DEFINITION. The lanes' orders and events: LANE MODE, LANE STATUS, LANE SET, MANUAL GRANT, beam changes, grant expiry,
the repeat-quiet deadline and the ends of signals and tones (chapter 4, R54). -/

namespace Sys2Proof.Machine

/-! ## LANE MODE (R82, R83) -/

/-- A change of mode (R82). `station` tells whether the order came from the station port. -/
def State.changeMode (s : State) (n : Lane) (m : Mode) (station : Bool) : State :=
  let old := (s.lane n).mode
  let s := s.withLane n fun u => { u with mode := m }
  let s := if m ≠ .opened ∧ (s.lane n).passage = .queued then s.handWithdrawal n .laneClosed else s
  let s := if old = .opened then s.withAdm fun a => { a with quiet := a.quiet.set n none } else s
  let s := if station then s.raiseLane n .mode else s
  s.arbiter

def laneModeBlock (station : Bool) (lane mode : Byte) (s : State) : Answer :=
  match laneOf lane, modeOf mode with
  | some n, some m =>
    let s := if m = (s.lane n).mode then s else s.changeMode n m station
    answerOk s (.laneMode (s.lane n).mode (s.lane n).passage)
  | _, _ => refuseWith s .badArg

def orderLaneMode (port : Port) (lane mode : Byte) (s : State) : State :=
  takeOrder port 0x41 .raised (ownLane port lane) (laneModeBlock (stationOnly port) lane mode) s

def execLaneMode (port : Port) (lane mode : Byte) (s : State) : Host.Outcome State Fault Refusal :=
  .next (orderLaneMode port lane mode s)

/-! ## LANE STATUS (R102) -/

def State.laneReport (s : State) (n : Lane) : LaneReport :=
  let u := s.lane n
  let m := s.reader.pos.get (.lane n)
  { mode := u.mode, passage := u.passage, tracker := u.tracker, enb := u.enb.level, exb := u.exb.level,
    rel := s.rel n, lamp := u.lampState, tone := u.tone.isSome,
    ctx := u.ctx.map fun c => (c, c.windowEnd.map fun e => e - s.time.ms),
    position := s.posState (.lane n), degraded := m.degraded, faultCount := m.faultCount, report := u.report,
    settings := u.settings, debounce := s.debounce }

def laneStatusBlock (lane : Byte) (s : State) : Answer :=
  match laneOf lane with
  | some n => answerOk s (.laneStatus (s.laneReport n))
  | none => refuseWith s .badArg

def orderLaneStatus (port : Port) (lane : Byte) (s : State) : State :=
  takeOrder port 0x42 .raised (ownLane port lane) (laneStatusBlock lane) s

def execLaneStatus (port : Port) (lane : Byte) (s : State) : Host.Outcome State Fault Refusal :=
  .next (orderLaneStatus port lane s)

/-! ## LANE SET (R101, R84, R100) -/

/-- The settings of Table 4-4 from the order's fields, with the debounce time. -/
def laneSettingsOf (window debounce high low mute : Byte) : Option (LaneSettings × Nat) :=
  match inRange 10 255 window.toNat, inRange 5 250 debounce.toNat, pitchOf high, pitchOf low, boolOf mute with
  | some w, some d, some h, some l, some m => some ({ window := w, high := h, low := l, mute := m }, d)
  | _, _, _, _, _ => none

/-- New pitches and mute apply from the next tone that starts: a second tone that has not started yet takes them
(R100; log 17). -/
def Tone.retune (now : Nat) (x : LaneSettings) (t : Tone) : Tone :=
  match t.pattern with
  | .twoLow => if now < t.start + 200 then { t with second := if x.mute then none else some x.low } else t
  | .highTone => t
  | .lowTone => t

def State.setLane (s : State) (n : Lane) (x : LaneSettings) : State :=
  s.withLane n fun u => { u with settings := x, tone := u.tone.map (Tone.retune s.time.ms x) }

/-- The settings of the lanes named, and the common debounce time, which applies at once to pending raw levels. -/
def State.setLanes (s : State) (ns : List Lane) (x : LaneSettings) (debounce : Nat) : State :=
  let s := ns.foldl (fun s n => s.setLane n x) s
  ({ s with debounce := debounce } : State).settleInputs.arbiter

def laneSetBlock (ns : Option (List Lane)) (x : Option (LaneSettings × Nat)) (s : State) : Answer :=
  match ns, x with
  | some ns, some (x, d) => answerOk (s.setLanes ns x d) (.laneSettings d (ns.map fun _ => x))
  | _, _ => refuseWith s .badArg

def orderLaneSet (port : Port) (lane window debounce high low mute : Byte) (s : State) : State :=
  takeOrder port 0x43 .raised (stationOnly port)
    (laneSetBlock (lanesOf lane) (laneSettingsOf window debounce high low mute)) s

def execLaneSet (port : Port) (lane window debounce high low mute : Byte) (s : State) :
    Host.Outcome State Fault Refusal :=
  .next (orderLaneSet port lane window debounce high low mute s)

/-! ## MANUAL GRANT (R97) -/

/-- The rights of R171 for MANUAL GRANT: a lane port may name its own lane, the station port may not send it. -/
def manualRights (p : Port) (lane : Byte) : Rights :=
  match p with
  | .sp => false
  | .lp n => ownLane (.lp n) lane

/-- A manual lane context of class 0, its admit request and its verdict (R97). -/
def State.manualGrant (s : State) (n : Lane) : State :=
  let ctx : Context :=
    { pass := none, cls := 0, newDay := false, noCharge := false, grantTime := none, windowEnd := none }
  let s := s.beginContext n ctx { cls := 0, data := none }
  let s := s.requestRelease n 0 0
  (s.putVerdict n (manualVerdict .manual false)).arbiter

def manualGrantBlock (lane : Byte) (s : State) : Answer :=
  match laneOf lane with
  | none => refuseWith s .badArg
  | some n =>
    if (s.lane n).mode ≠ .opened ∨ (s.lane n).passage ≠ .idle then refuseWith s .state
    else if s.supply.state ≠ .run then refuseWith s .lowSupply
    else
      let s := s.manualGrant n
      answerOk s (.passage (s.lane n).passage)

def orderManualGrant (port : Port) (lane : Byte) (s : State) : State :=
  takeOrder port 0x44 .raised (manualRights port lane) (manualGrantBlock lane) s

def execManualGrant (port : Port) (lane : Byte) (s : State) : Host.Outcome State Fault Refusal :=
  .next (orderManualGrant port lane s)

/-! ## Beam events (R84, R85) -/

/-- A raw level changes. While the part is stopped the level changes and no event is taken (R183; log 19). -/
def Debounced.rawEvent (stopped : Bool) (now : Nat) (raw : Bool) (d : Debounced) : Debounced :=
  if stopped then { d with raw := raw } else d.rawChange now raw

def execBeamRawChange (n : Lane) (b : Beam) (broken : Bool) (s : State) : Host.Outcome State Fault Refusal :=
  .next (s.withLane n fun u => u.setBeam b ((u.beam b).rawEvent s.stopped s.time.ms broken))

def execBeamDebouncedChange (n : Lane) (b : Beam) (s : State) : Host.Outcome State Fault Refusal :=
  .next (s.running fun s =>
    if ((s.lane n).beam b).due s.time.ms s.debounce then (s.beamChanged n b).arbiter else s)

/-! ## Deadlines of the lanes -/

/-- GRANT EXPIRY: the window end is reached in GRANTED (R89). -/
def execGrantExpiry (n : Lane) (s : State) : Host.Outcome State Fault Refusal :=
  .next (s.running fun s =>
    if (s.lane n).passage = .granted ∧ s.windowPassed n then (s.expireGrant n).arbiter else s)

/-- Whether the deadline of the lane's repeat-quiet memory is reached. -/
def State.quietDue (s : State) (n : Lane) : Bool :=
  match s.adm.quiet.get n with
  | some q => decide (q.deadline ≤ s.time.ms)
  | none => false

/-- REPEAT QUIET DEADLINE: the memory becomes empty (R54). -/
def execRepeatQuietDeadline (n : Lane) (s : State) : Host.Outcome State Fault Refusal :=
  .next (s.running fun s =>
    if s.quietDue n then s.withAdm fun a => { a with quiet := a.quiet.set n none } else s)

def State.signalDue (s : State) (n : Lane) : Bool :=
  match (s.lane n).signal with
  | some g => decide (g.endAt ≤ s.time.ms)
  | none => false

/-- TIMED SIGNAL END (R99). -/
def execTimedSignalEnd (n : Lane) (s : State) : Host.Outcome State Fault Refusal :=
  .next (s.running fun s => if s.signalDue n then s.withLane n fun u => { u with signal := none } else s)

def State.toneDue (s : State) (n : Lane) : Bool :=
  match (s.lane n).tone with
  | some t => decide (t.endAt ≤ s.time.ms)
  | none => false

/-- TONE PATTERN END (R100). -/
def execTonePatternEnd (n : Lane) (s : State) : Host.Outcome State Fault Refusal :=
  .next (s.running fun s => if s.toneDue n then s.withLane n fun u => { u with tone := none } else s)

end Sys2Proof.Machine
end

