-- ==== Sys2Proof/Machine/LoadingCommands.lean ====
section
/-! DEFINITION. The loading monitor's orders and events: LOADING SET, LOADING STATUS, BOARD, LIFT_STOP, the hold timeout
and the taking of a withdrawal (chapter 5). -/

namespace Sys2Proof.Machine

/-! ## LOADING SET, LOADING STATUS (R116, R117) -/

def loadingSetBlock (limit hold : Nat) (s : State) : Answer :=
  if 1 ≤ limit ∧ limit ≤ 60 ∧ 1 ≤ hold ∧ hold ≤ 60 then
    answerOk ((s.withLoad fun l => { l with limit := limit, hold := hold }).serviceStep.arbiter)
      (.loadingSettings limit hold)
  else refuseWith s .badArg

def orderLoadingSet (port : Port) (limit hold : Byte) (s : State) : State :=
  takeOrder port 0x51 .raised (stationOnly port) (loadingSetBlock limit.toNat hold.toNat) s

def execLoadingSet (port : Port) (limit hold : Byte) (s : State) : Host.Outcome State Fault Refusal :=
  .next (orderLoadingSet port limit hold s)

def State.loadingReport (s : State) : LoadingReport :=
  { occupancy := s.load.occupancy, live := s.load.live, sum := s.load.occupancy + s.load.live, limit := s.load.limit,
    hold := s.load.hold, liftStop := s.load.liftStop, supply := s.supply.state, room := s.room,
    queue := s.load.queue.map fun e => (e, e.deadline - s.time.ms), peak := s.counts.current.lift.peak }

def loadingStatusBlock (s : State) : Answer := answerOk s (.loadingStatus s.loadingReport)

def orderLoadingStatus (port : Port) (s : State) : State :=
  takeOrder port 0x52 .raised (stationOnly port) loadingStatusBlock s

def execLoadingStatus (port : Port) (s : State) : Host.Outcome State Fault Refusal :=
  .next (orderLoadingStatus port s)

/-! ## BOARD (R107) -/

def execBoardRawChange (active : Bool) (s : State) : Host.Outcome State Fault Refusal :=
  .next (s.withLoad fun l =>
    { l with board := if s.stopped then { l.board with raw := active } else l.board.rawChange s.time.ms active })

/-- BOARD PULSE: the pending change to active has stood for the debounce time (R107). -/
def execBoardPulse (s : State) : Host.Outcome State Fault Refusal :=
  .next (s.running fun s =>
    if s.load.board.raw && s.load.board.due s.time.ms s.debounce then s.boardChanged.arbiter else s)

/-- BOARD DEBOUNCED INACTIVE: the pending change to inactive has stood for the debounce time (R107). -/
def execBoardDebouncedInactive (s : State) : Host.Outcome State Fault Refusal :=
  .next (s.running fun s => if s.load.board.raw then s else s.boardIfDue)

/-! ## LIFT_STOP (R108) -/

/-- LIFT_STOP changes; becoming inactive runs the service step. While the part is stopped the level changes and no
event is taken (R108, R183; log 19). -/
def execLiftStop (active : Bool) (s : State) : Host.Outcome State Fault Refusal :=
  let s' := s.withLoad fun l => { l with liftStop := active }
  .next (if s.stopped || s.load.liftStop == active || active then s' else s'.serviceStep.arbiter)

/-! ## HOLD TIMEOUT, WITHDRAWAL TAKEN (R113, R114) -/

/-- Whether the lane's queue entry has reached its hold deadline. -/
def State.holdDue (s : State) (n : Lane) : Bool :=
  s.load.queue.any fun e => e.lane == n && decide (e.deadline ≤ s.time.ms)

def execHoldTimeout (n : Lane) (s : State) : Host.Outcome State Fault Refusal :=
  .next (s.running fun s => if s.holdDue n then (s.withdraw n .holdTimeout).arbiter else s)

/-- WITHDRAWAL TAKEN: a withdrawal handed over before is taken (R113; log 12). -/
def execWithdrawalTaken (n : Lane) (r : WithdrawReason) (s : State) : Host.Outcome State Fault Refusal :=
  .next (s.running fun s =>
    let h : Handed := { lane := n, reason := r }
    if s.load.handed.contains h then
      ((s.withLoad fun l => { l with handed := l.handed.erase h }).withdraw n r).arbiter
    else s)

end Sys2Proof.Machine
end

