-- ==== Sys2Proof/Machine/PassOrders.lean ====
section
/-! DEFINITION. The station's pass table orders (section 1.7): PASS PUT, PASS BLOCK, PASS UNBLOCK, PASS ERASE, PASS CLEAR
LEARNED, PASS QUERY and TABLE STATUS. -/

namespace Sys2Proof.Machine

/-! ## Shared edits -/

/-- The state of a record after a station edit; a REFUNDED record takes none (R21, R22). -/
def editedState (st : Standing) : RecState → Option RecState
  | .active => some st.toState
  | .blocked => some st.toState
  | .held _ => some (.held st)
  | .refunded => none

/-- A block hands the loading monitor a withdrawal for the QUEUED lane context that holds the pass (R23). -/
def State.handBlocked (s : State) (p : PassNo) (st : Standing) : State :=
  match st, s.holderOf p with
  | .blocked, some n => if (s.lane n).passage = .queued then s.handWithdrawal n .blocked else s
  | .blocked, none => s
  | .active, _ => s

/-- A station edit that sets a state; `create` tells whether an absent pass is created (R21) or answered NOT_FOUND
(R22, PASS UNBLOCK). -/
def editPass (p : PassNo) (st : Standing) (create : Bool) (s : State) : Answer :=
  if p = 0 then refuseWith s .badArg
  else
    match findPass s.table p with
    | some (k, r) =>
      match editedState st r.state with
      | none => refuseWith s .state
      | some x =>
        answerOk ((s.updateRecord p fun r => { r with state := x, origin := .resident }).handBlocked p st)
          (.passEdit false (k / 4) (k % 4) 0)
    | none =>
      if !create then refuseWith s .notFound
      else
        match placeFor s.table p with
        | none => refuseWith s .tableFull
        | some (k, evicted) =>
          answerOk
            ((s.withTable fun t => putSlot t k (newRecord p .resident st (s.holderOf p) s.time.runSec)).handBlocked p st)
            (.passEdit true (k / 4) (k % 4) evicted)

/-! ## PASS PUT, PASS BLOCK, PASS UNBLOCK (R21 to R23) -/

def passPutBlock (p : PassNo) (state : Byte) (s : State) : Answer :=
  match standingOf state with
  | some st => editPass p st true s
  | none => refuseWith s .badArg

def orderPassPut (port : Port) (pass : PassNo) (state : Byte) (s : State) : State :=
  takeOrder port 0x11 .raised (stationOnly port) (passPutBlock pass state) s

def execPassPut (port : Port) (pass : PassNo) (state : Byte) (s : State) : Host.Outcome State Fault Refusal :=
  .next (orderPassPut port pass state s)

def orderPassBlock (port : Port) (pass : PassNo) (s : State) : State :=
  takeOrder port 0x12 .raised (stationOnly port) (editPass pass .blocked true) s

def execPassBlock (port : Port) (pass : PassNo) (s : State) : Host.Outcome State Fault Refusal :=
  .next (orderPassBlock port pass s)

def orderPassUnblock (port : Port) (pass : PassNo) (s : State) : State :=
  takeOrder port 0x13 .raised (stationOnly port) (editPass pass .active false) s

def execPassUnblock (port : Port) (pass : PassNo) (s : State) : Host.Outcome State Fault Refusal :=
  .next (orderPassUnblock port pass s)

/-! ## PASS ERASE, PASS CLEAR LEARNED (R24, R25) -/

def passEraseBlock (p : PassNo) (s : State) : Answer :=
  if p = 0 then refuseWith s .badArg
  else
    match findPass s.table p with
    | none => refuseWith s .notFound
    | some (_, r) =>
      if r.pinned then refuseWith s .pinned
      else answerOk (s.withTable fun t => t.filter fun e => !isRecordOf p e) .none

def orderPassErase (port : Port) (pass : PassNo) (s : State) : State :=
  takeOrder port 0x14 .raised (stationOnly port) (passEraseBlock pass) s

def execPassErase (port : Port) (pass : PassNo) (s : State) : Host.Outcome State Fault Refusal :=
  .next (orderPassErase port pass s)

def clearLearnedBlock (s : State) : Answer :=
  answerOk (s.withTable fun t => t.filter fun e => !e.2.evictable)
    (.cleared (s.table.filter fun e => e.2.evictable).length)

def orderPassClearLearned (port : Port) (s : State) : State :=
  takeOrder port 0x15 .raised (stationOnly port) clearLearnedBlock s

def execPassClearLearned (port : Port) (s : State) : Host.Outcome State Fault Refusal :=
  .next (orderPassClearLearned port s)

/-! ## PASS QUERY, TABLE STATUS (R26, R27) -/

def passQueryBlock (p : PassNo) (s : State) : Answer :=
  if p = 0 then refuseWith s .badArg
  else
    match findPass s.table p with
    | none => refuseWith s .notFound
    | some (k, r) => answerOk s (.passRecord (k / 4) (k % 4) r (ridesToday s.time r))

def orderPassQuery (port : Port) (pass : PassNo) (s : State) : State :=
  takeOrder port 0x16 .raised true (passQueryBlock pass) s

def execPassQuery (port : Port) (pass : PassNo) (s : State) : Host.Outcome State Fault Refusal :=
  .next (orderPassQuery port pass s)

/-- The number of buckets with no free way (R27): those whose fourth entry stands in the table. -/
def fullBuckets (t : PassTable) : Nat :=
  (t.filter fun e => e.1 % 4 == 3 &&
    [e.1 - 3, e.1 - 2, e.1 - 1].all fun k => t.any fun x => x.1 == k).length

def tableStatusBlock (s : State) : Answer :=
  answerOk s (.tableStatus (s.table.filter fun e => e.2.origin == .resident).length
    (s.table.filter fun e => e.2.origin == .learned).length (s.table.filter fun e => e.2.pinned).length
    (fullBuckets s.table) s.counts.current.lift.learnFailures)

def orderTableStatus (port : Port) (s : State) : State :=
  takeOrder port 0x17 .raised (stationOnly port) tableStatusBlock s

def execTableStatus (port : Port) (s : State) : Host.Outcome State Fault Refusal :=
  .next (orderTableStatus port s)

end Sys2Proof.Machine
end

