-- ==== Sys2Proof/Machine/Layout.lean ====
section
/-! DEFINITION. The bytes of replies (R172, R190, R191, section 11.5). Where the spec gives a field's place and width,
they are the spec's; where it gives only the order of the fields, a field takes the fewest whole bytes that hold its
range (log 9), optional fields have the presence bits of log 10, and enumerations without values in Table 11-3 have the
open codes of Config (log 8). A yes or no field, and a level, is 1 or 0 (log 33). -/

namespace Sys2Proof.Machine

open Sys2Proof.Config (openCode)

/-- A presence byte: bit k stands for the k-th optional field (R190). -/
def presence (bits : List Bool) : Nat :=
  bits.foldr (fun b acc => acc * 2 + bit b 0) 0

/-- An optional number in `k` bytes, zeros where absent (R190). -/
def optBytes (k : Nat) (x : Option Nat) : List Byte := beBytes k (x.getD 0)

def passBytes (p : PassNo) : List Byte := beBytes 5 p.toNat

def laneSetByte (l : PerLane Bool) : Byte := BitVec.ofNat 8 (bit l.l0 0 + bit l.l1 1 + bit l.l2 2 + bit l.l3 3)

def antennaByte (a : Option Antenna) : Byte := (a.map antennaCode).getD 0xFF

/-! ## Open codes (log 8) -/

def PosState.index : PosState → Nat
  | .tuning => 0 | .fault => 1 | .off => 2 | .busy => 3 | .scan => 4

/-- None, then the outcomes in the order of Table 2-6. -/
def outcomeIndex : Option VisitOutcome → Nat
  | none => 0
  | some .card => 1 | some .silent => 2 | some .collide => 3 | some .corrupt => 4 | some .clip => 5

def VisitKind.index : VisitKind → Nat
  | .read => 0 | .stamp => 1 | .tune => 2

def Purpose.index : Purpose → Nat
  | .scanRead => 0 | .serviceRead => 1 | .laneStamp => 2 | .serviceStamp => 3 | .tune => 4

def positionIndex : Position → Nat
  | .lane n => n.toNat
  | .ps => 4

def TuneResult.index : TuneResult → Nat
  | .ok => 0 | .limit => 1 | .opened => 2 | .shorted => 3

def Lamp.index : Lamp → Nat
  | .dark => 0 | .greenSteady => 1 | .greenBlink => 2 | .redSteady => 3 | .redBlink => 4

def RefundCtx.index : RefundCtx → Nat
  | .idle => 0 | .reading _ => 1 | .quoted _ => 2 | .committing _ _ => 3

def QuoteEnd.index : QuoteEnd → Nat
  | .opened => 0 | .released => 1 | .expired => 2 | .committed => 3

def SupplyState.index : SupplyState → Nat
  | .run => 0 | .low => 1 | .down => 2

def causeIndex : StartCause → Nat
  | .power => 0 | .reset => 1

def ReportKind.index : ReportKind → Nat
  | .admitted => 0 | .manual => 1 | .free => 2 | .intrusion => 3 | .reverse => 4 | .expired => 5

def boolIndex (b : Bool) : Nat := if b then 1 else 0

/-! ## Parts of bodies -/

/-- The ticket group in the field order of Table 1-1. -/
def ticketBytes (t : Option Ticket) : List Byte :=
  match t with
  | none => beBytes 10 0
  | some t => beBytes 2 t.product ++ beBytes 1 t.days ++ beBytes 2 t.firstDay ++ beBytes 2 t.lastDay ++ beBytes 3 t.paid

/-- PASS QUERY's body (R26), with two presence bytes (R190), bits 0 to 7 in the second (log 10). -/
def recordBytes (bucket way : Nat) (r : PassRecord) (today : Nat) : List Byte :=
  let prior : Option Standing := match r.state with
    | .held p => some p
    | .active | .blocked | .refunded => none
  beBytes 2 (presence [prior.isSome, r.ticket.isSome, r.lastUse.isSome, r.consumedHere.isSome, r.rides.isSome,
      r.lastPassage.isSome, r.live.isSome]) ++
    beBytes 2 bucket ++ beBytes 1 way ++ passBytes r.pass ++ [r.origin.code, r.state.code, (prior.map Standing.code).getD 0] ++
    ticketBytes r.ticket ++ beBytes 1 r.used ++ optBytes 2 r.lastUse ++ optBytes 2 r.consumedHere ++ beBytes 1 today ++
    optBytes 2 (r.rides.map (·.day)) ++ optBytes 4 (r.lastPassage.map (·.second)) ++
    [(r.lastPassage.map fun l => laneCode l.lane).getD 0, boolCode r.behind, (r.live.map laneCode).getD 0] ++
    beBytes 4 r.lastSeen

/-- The settings of Table 2-9 as READER SET carries them. -/
def readerSettingsBytes (r : ReaderSettings) : List Byte :=
  [BitVec.ofNat 8 r.attempts, BitVec.ofNat 8 r.threshold, BitVec.ofNat 8 r.coarse, BitVec.ofInt 8 r.fine,
    BitVec.ofNat 8 r.window] ++ beBytes 2 r.target

def mapBytes (m : PerPos (Option Antenna)) : List Byte := Position.all.map fun p => antennaByte (m.get p)

def tuneBytes (a : Antenna) (t : TuneRecord) : List Byte :=
  [antennaCode a] ++ beBytes 1 t.level ++ beBytes 2 t.current ++ beBytes 1 t.newLevel ++
    [openCode .tuneResult t.result.index]

/-- One position of POSITION STATUS; PS has no collide run (R56). The attempts remaining have no presence bit: the yes
or no byte before them stands for it (log 37). -/
def posStatusBytes (p : Position) (x : PosStatus) : List Byte :=
  [antennaByte x.antenna, openCode .positionState x.state.index, boolCode x.memory.degraded] ++
    beBytes 1 x.memory.faultCount ++
    (match p with
      | .lane _ => beBytes 1 x.memory.collideRun
      | .ps => []) ++
    [openCode .visitOutcome (outcomeIndex x.memory.lastOutcome), boolCode x.pendingAttempts.isSome] ++
    optBytes 1 x.pendingAttempts

def antStatusBytes (a : Antenna) (x : AntStatus) : List Byte :=
  beBytes 1 x.level ++ ((x.tune.map (tuneBytes a)).getD (beBytes 6 0)) ++ [boolCode x.tunePending]

def visitBytes : Option Visit → List Byte
  | none => beBytes 4 0
  | some (.card v) =>
    [openCode .visitKind v.purpose.kind.index, openCode .visitPurpose v.purpose.index,
      openCode .positionCode (positionIndex v.position), antennaCode v.antenna]
  | some (.tune a _ _) =>
    [openCode .visitKind VisitKind.tune.index, openCode .visitPurpose Purpose.tune.index, 0, antennaCode a]

/-- POSITION STATUS's body (R56, R190). Its presence byte has bits for the six tune records, the visit in flight and its
position (log 37), and the rotation pointer is sent as the number 0 to 3 of its lane position (log 38). -/
def positionReportBytes (r : PositionReport) : List Byte :=
  let placed := match r.visit with
    | some (.card _) => true
    | some (.tune _ _ _) => false
    | none => false
  beBytes 1 (presence ((Antenna.all.map fun a => (r.antennas.get a).tune.isSome) ++ [r.visit.isSome, placed])) ++
    (Position.all.map fun p => posStatusBytes p (r.positions.get p)).flatten ++
    (Antenna.all.map fun a => antStatusBytes a (r.antennas.get a)).flatten ++
    visitBytes r.visit ++ [laneCode r.pointer] ++ readerSettingsBytes r.settings

def ruleBytes (r : LaneRule) : List Byte :=
  [boolCode r.enabled] ++ beBytes 2 r.value ++ beBytes 2 r.mask ++ [laneSetByte r.lanes] ++ beBytes 2 r.start ++
    beBytes 2 r.stop ++ beBytes 1 r.cls ++ [boolCode r.charge]

/-- Table 11-7. -/
def verdictBytes (v : Verdict) : List Byte :=
  beBytes 1 v.seq ++ [v.kind.code, v.kind.reasonCode] ++ beBytes 1 (presence [v.product.isSome, v.lastDay.isSome]) ++
    passBytes v.pass ++ optBytes 2 v.product ++ beBytes 1 v.remaining ++ optBytes 2 v.lastDay ++
    [v.flags.toByte] ++ beBytes 1 v.cls ++ [v.passage.code]

/-- The settings of Table 4-4 of one lane. -/
def laneSettingsBytes (debounce : Nat) (x : LaneSettings) : List Byte :=
  beBytes 1 x.window ++ beBytes 1 debounce ++ [x.high.code, x.low.code, boolCode x.mute]

def trackerSeen : Tracker → Bool
  | .clear => false
  | .fromEntry b => b
  | .fromExit b => b

/-- LANE STATUS's body (R102): each of its optional fields and groups has its own presence bit (log 10), and the
context's NEW_DAY and NO_CHARGE are two yes or no bytes (log 39). -/
def laneReportBytes (r : LaneReport) : List Byte :=
  let c := r.ctx.map (·.1)
  beBytes 1 (presence [c.isSome, (c.bind (·.pass)).isSome, (c.bind (·.grantTime)).isSome,
      (r.ctx.bind (·.2)).isSome, r.report.isSome]) ++
    [r.mode.code, r.passage.code, r.tracker.code, boolCode (trackerSeen r.tracker), boolCode r.enb, boolCode r.exb,
      boolCode r.rel, openCode .lampState r.lamp.index, boolCode r.tone] ++
    passBytes ((c.bind (·.pass)).getD 0) ++ optBytes 1 (c.map (·.cls)) ++
    [boolCode ((c.map (·.newDay)).getD false), boolCode ((c.map (·.noCharge)).getD false)] ++
    optBytes 6 (c.bind (·.grantTime)) ++ optBytes 2 (r.ctx.bind (·.2)) ++
    [openCode .positionState r.position.index, boolCode r.degraded] ++ beBytes 1 r.faultCount ++
    (match r.report with
      | none => beBytes 11 0
      | some p =>
        [openCode .reportKind p.kind.index] ++ passBytes p.pass ++ beBytes 4 p.second ++ beBytes 1 p.seq) ++
    laneSettingsBytes r.debounce r.settings

def queueEntryBytes (e : QueueEntry × Nat) : List Byte :=
  [laneCode e.1.lane] ++ passBytes e.1.pass ++ beBytes 1 e.1.cls ++ beBytes 2 e.2

/-- LOADING STATUS's body (R117): LIFT_STOP active and room existing are sent as 1 (log 33). -/
def loadingReportBytes (r : LoadingReport) : List Byte :=
  beBytes 1 r.occupancy ++ beBytes 1 r.live ++ beBytes 2 r.sum ++ beBytes 1 r.limit ++ beBytes 1 r.hold ++
    [boolCode r.liftStop, openCode .supplyState r.supply.index, boolCode r.room] ++
    beBytes 1 r.queue.length ++ (r.queue.map queueEntryBytes).flatten ++ beBytes 1 r.peak

/-- The counted day, and whether the clock is SET for the period today (R128). -/
def setHeadBytes (day : Nat) (clockSet : Option Bool) : List Byte :=
  beBytes 1 (presence [clockSet.isSome]) ++ beBytes 2 day ++ [boolCode (clockSet.getD false)]

def laneCountsBytes (c : LaneCounts) : List Byte :=
  ([c.admitted, c.manual, c.free, c.intrusions, c.reverse, c.expiries, c.withdrawals, c.newDays].map (beBytes 4)).flatten

/-- The lift day counters (Table 6-2); the refund total takes 4 bytes, as its range does (log 34). -/
def liftCountsBytes (c : LiftCounts) : List Byte :=
  ([c.total, c.boarded, c.excess, c.unlearned, c.learnFailures, c.unrecorded, c.refunds, c.refundTotal].map
    (beBytes 4)).flatten ++ beBytes 1 c.peak

/-- A bin; the minute unknown is 65,535 (R125). -/
def binBytes (b : Bin) : List Byte := beBytes 2 (b.minute.getD 65535) ++ beBytes 2 b.passages ++ beBytes 2 b.boarded

/-- A tariff set in the field order of part 1 followed by T(12) to T(21) (R191). -/
def tariffBytes (t : Tariff) : List Byte :=
  beBytes 2 t.product ++ ((t.prices.take 11).map (beBytes 3)).flatten ++ beBytes 2 t.fee ++ beBytes 1 t.minDays ++
    beBytes 2 t.unit ++ beBytes 2 t.minRefund ++ beBytes 1 t.claim ++ [boolCode t.refundable] ++
    ((t.prices.drop 11).map (beBytes 3)).flatten

/-- Table 11-8. -/
def quoteBytes (number : Nat) (pass : PassNo) (q : Quote) (hold : Nat) : List Byte :=
  beBytes 2 number ++ passBytes pass ++ beBytes 2 q.product ++ beBytes 1 q.days ++ beBytes 3 q.paid ++
    beBytes 1 q.used ++ beBytes 1 q.charge ++ beBytes 1 q.charged ++ beBytes 3 q.listK ++ beBytes 3 q.listD ++
    beBytes 3 q.usedValue ++ beBytes 3 q.gross ++ beBytes 2 q.fee ++ beBytes 3 q.afterFee ++ beBytes 2 q.unit ++
    beBytes 3 q.refund ++ beBytes 2 q.minRefund ++ [q.flags.toByte] ++ beBytes 2 hold

/-- Table 11-9. -/
def journalEntryBytes (e : JournalEntry) : List Byte :=
  beBytes 2 e.seq ++ [e.status.code] ++ beBytes 2 e.quote ++ passBytes e.pass ++ beBytes 2 e.product ++
    beBytes 1 e.days ++ beBytes 1 e.charged ++ beBytes 3 e.paid ++ beBytes 3 e.refund ++ beBytes 2 e.day ++
    beBytes 3 e.time

/-- The fields of the refund context that REFUND STATUS reports, absent where the context has none (Table 7-2). -/
structure CtxFields where
  pass : Option PassNo
  readDay : Option Nat
  quoteBody : Option (List Byte)
  number : Option Nat
  pendingSeq : Option Nat

/-- A computed quote that is not placed yet has no quote number; its body carries 0 there and the refund hold setting
(log 9). -/
def RefundCtx.fields (hold : Nat) : RefundCtx → CtxFields
  | .idle => ⟨none, none, none, none, none⟩
  | .reading none => ⟨none, none, none, none, none⟩
  | .reading (some r) => ⟨some r.pass, some r.readDay, r.quote.map fun q => quoteBytes 0 r.pass q hold, none, none⟩
  | .quoted q => ⟨some q.pass, some q.readDay, some (quoteBytes q.number q.pass q.quote q.hold), some q.number, none⟩
  | .committing q n =>
    ⟨some q.pass, some q.readDay, some (quoteBytes q.number q.pass q.quote q.hold), some q.number, some n⟩

def lastQuoteBytes : Option LastQuote → List Byte
  | none => beBytes 11 0
  | some l => beBytes 2 l.number ++ passBytes l.pass ++ beBytes 3 l.refund ++ [openCode .quoteEnd l.outcome.index]

/-- REFUND STATUS's body (R153), with two presence bytes (R190), bits 0 to 7 in the second (log 10). -/
def refundReportBytes (r : RefundReport) : List Byte :=
  let f := r.ctx.fields r.hold
  beBytes 2 (presence [f.pass.isSome, f.readDay.isSome, f.quoteBody.isSome, f.number.isSome, r.remaining.isSome,
      f.pendingSeq.isSome, r.lastQuote.isSome]) ++
    [openCode .refundState r.ctx.index] ++ passBytes (f.pass.getD 0) ++ optBytes 2 f.readDay ++
    f.quoteBody.getD (beBytes 43 0) ++ optBytes 2 f.number ++ optBytes 2 r.remaining ++ optBytes 2 f.pendingSeq ++
    lastQuoteBytes r.lastQuote ++ beBytes 1 r.entries ++ beBytes 2 r.nextSeq ++ beBytes 1 r.tariffs ++ beBytes 2 r.hold

/-- The last snapshot (R161); the phase error is a two's complement number of two bytes (log 35). -/
def snapshotBytes : Option Snapshot → List Byte
  | none => beBytes 8 0
  | some x =>
    beBytes 2 (BitVec.ofInt 16 x.error).toNat ++ [openCode .clockState (boolIndex x.clock.isSome)] ++
      optBytes 2 (x.clock.map (·.1)) ++ optBytes 3 (x.clock.map (·.2))

/-- CLOCK STATUS's body (R165): each of its optional fields has its own presence bit (log 10). -/
def clockReportBytes (r : ClockReport) : List Byte :=
  let set := r.tod.isSome
  beBytes 1 (presence [set, set, !set, r.snapshot.isSome, (r.snapshot.bind (·.clock)).isSome,
      (r.snapshot.bind (·.clock)).isSome]) ++
    [openCode .clockState (boolIndex set)] ++ beBytes 2 (if set then r.day else 0) ++ optBytes 3 r.tod ++
    beBytes 2 (if set then 0 else r.day) ++ beBytes 1 r.boundaryHour ++ beBytes 4 r.runSec ++ beBytes 2 r.intoSecond ++
    [r.mode.code] ++ beBytes 1 r.jitter ++ [openCode .pulseState (boolIndex r.pulseLost)] ++ snapshotBytes r.snapshot ++
    beBytes 2 r.pulseCount ++ beBytes 2 r.driftCount

/-- SUPPLY STATUS's body (R189): both of its fields for LOW are optional fields with a presence bit (log 10). -/
def supplyReportBytes (r : SupplyReport) : List Byte :=
  beBytes 1 (presence [r.state == .low, r.recovery.isSome, r.lastChange.isSome]) ++
    [openCode .supplyState r.state.index, boolCode r.recovery.isSome] ++ optBytes 1 r.recovery ++
    [r.startKind.code, openCode .startCause (causeIndex r.startCause)] ++ beBytes 2 r.lowCount ++
    optBytes 4 r.lastChange

/-! ## Bodies and reply frames -/

/-- The bytes of a reply body (R190). A record created by PASS PUT, PASS BLOCK or PASS UNBLOCK is told by 1, one changed
by 0 (R21, log 33). -/
def Body.bytes : Body → List Byte
  | .none => []
  | .passEdit created bucket way evicted =>
    [boolCode created] ++ beBytes 2 bucket ++ beBytes 1 way ++ passBytes evicted
  | .cleared n => beBytes 2 n
  | .passRecord bucket way r today => recordBytes bucket way r today
  | .tableStatus a b c d e => beBytes 2 a ++ beBytes 2 b ++ beBytes 2 c ++ beBytes 2 d ++ beBytes 4 e
  | .readerSettings r => readerSettingsBytes r
  | .antennaMap m => mapBytes m
  | .tuneRecord a t => tuneBytes a t
  | .positionStatus r => positionReportBytes r
  | .admSettings r => beBytes 2 r.resort ++ beBytes 2 r.lockout ++ beBytes 1 r.quiet ++ [laneSetByte r.learnMask]
  | .laneRule index r => (index.map (beBytes 1)).getD [] ++ ruleBytes r
  | .verdict v => verdictBytes v
  | .laneMode m p => [m.code, p.code]
  | .laneStatus r => laneReportBytes r
  | .laneSettings d rs => beBytes 1 rs.length ++ (rs.map (laneSettingsBytes d)).flatten
  | .passage p => [p.code]
  | .loadingSettings l h => beBytes 1 l ++ beBytes 1 h
  | .loadingStatus r => loadingReportBytes r
  | .lanePart d c x => setHeadBytes d c ++ laneCountsBytes x
  | .refusalPart d c x => setHeadBytes d c ++ (x.toList.map (beBytes 2)).flatten
  | .liftPart d c x => setHeadBytes d c ++ liftCountsBytes x
  | .bins held bs o => beBytes 1 held ++ beBytes 1 bs.length ++ (bs.map binBytes).flatten ++ binBytes o
  | .tariff held t => beBytes 1 held ++ tariffBytes t
  | .refundHold h => beBytes 2 h
  | .quote q => quoteBytes q.number q.pass q.quote q.hold
  | .cardPass p => passBytes p
  | .journalSeq n => beBytes 2 n
  | .refundStatus r => refundReportBytes r
  | .journal held next es => beBytes 1 held ++ beBytes 2 next ++ beBytes 1 es.length ++ (es.map journalEntryBytes).flatten
  | .remaining n => beBytes 1 n
  | .clockSet tod day h => [openCode .clockState (boolIndex true)] ++ beBytes 2 day ++ beBytes 3 tod ++ beBytes 1 h
  | .clockSync m j lost => [m.code] ++ beBytes 1 j ++ [openCode .pulseState (boolIndex lost)]
  | .clockStatus r => clockReportBytes r
  | .supplyStatus r => supplyReportBytes r
  | .notices set station =>
    beBytes 2 set.toNat ++
      match station with
      | Option.none => []
      | some k => [(k.map StartKind.code).getD 0xFF]
  | .noticeMask mask set => beBytes 2 mask.toNat ++ beBytes 2 set.toNat
  | .ident p => [0x0C, 0x4A, 0x04, 0x40, 0x01, portCode p]

/-- The reply flags: bit 0 LOST, bit 1 REPEAT (Table 11-2). -/
def replyFlags (lost again : Bool) : Byte := BitVec.ofNat 8 (bit lost 0 + bit again 1)

/-- The bytes of a ready reply, from the marker to the check byte (R172, Table 11-2). -/
def Reply.bytes (r : Reply) (again : Bool) : List Byte :=
  let body := r.body.bytes
  let head := [0x5A#8, r.code, r.result.code, replyFlags r.lost again, BitVec.ofNat 8 body.length] ++ body
  head ++ [crc8 head]

end Sys2Proof.Machine
end

