-- ==== Sys2Proof/Machine/PortCommands.lean ====
section
/-! DEFINITION. The ports' own orders and the fetch: NOTICE FETCH, NOTICE MASK, IDENT, a discarded order frame and the two
steps of a fetch transaction (chapter 9). -/

namespace Sys2Proof.Machine

/-! ## NOTICE FETCH (R152, R176) -/

/-- The start kind as the reply of a port carries it: none on a lane port, and on the station port present while START
is pending (section 11.3). -/
def State.fetchedKind (s : State) : Port → Option (Option StartKind)
  | .lp _ => none
  | .sp => some s.ports.startKind

/-- No notice of the port is pending, and on the station port the start kind is removed. -/
def State.clearNotices (s : State) (p : Port) : State :=
  let s := s.withPort p fun c => { c with notices := 0 }
  match p with
  | .lp _ => s
  | .sp => { s with ports := { s.ports with startKind := none } }

/-- JOURNAL becomes pending again on the station port while the journal holds entries (R152). -/
def State.raiseJournalAgain (s : State) (p : Port) : State :=
  match p with
  | .lp _ => s
  | .sp => if s.refund.journal.isEmpty then s else s.raiseStation .journal

def noticeFetchBlock (p : Port) (s : State) : Answer :=
  answerOk ((s.clearNotices p).raiseJournalAgain p) (.notices (s.port p).notices (s.fetchedKind p))

def orderNoticeFetch (port : Port) (s : State) : State :=
  takeOrder port 0xA1 .silent true (noticeFetchBlock port) s

def execNoticeFetch (port : Port) (s : State) : Host.Outcome State Fault Refusal := .next (orderNoticeFetch port s)

/-! ## NOTICE MASK (R177) -/

def noticeMaskBlock (p : Port) (mask : BitVec 16) (s : State) : Answer :=
  if mask &&& ~~~(portNotices p) ≠ 0 then refuseWith s .badArg
  else answerOk (s.withPort p fun c => { c with mask := mask }) (.noticeMask mask (s.port p).notices)

def orderNoticeMask (port : Port) (mask : BitVec 16) (s : State) : State :=
  takeOrder port 0xA2 .silent true (noticeMaskBlock port mask) s

def execNoticeMask (port : Port) (mask : BitVec 16) (s : State) : Host.Outcome State Fault Refusal :=
  .next (orderNoticeMask port mask s)

/-! ## IDENT (R179) -/

def identBlock (p : Port) (s : State) : Answer := answerOk s (.ident p)

def orderIdent (port : Port) (s : State) : State := takeOrder port 0xA3 .raised true (identBlock port) s

def execIdent (port : Port) (s : State) : Host.Outcome State Fault Refusal := .next (orderIdent port s)

/-! ## A discarded order frame (R170, R173) -/

/-- ORDER FRAME DISCARDED: the reply slot is in progress and the lost mark is set. With any other slot no frame is
discarded (log 3). -/
def execOrderFrameDiscarded (p : Port) (s : State) : Host.Outcome State Fault Refusal :=
  .next (s.running fun s =>
    match (s.port p).slot with
    | .inProgress _ => s.withPort p fun c => { c with lost := true, sent := [] }
    | .empty => s
    | .ready _ => s)

/-! ## The fetch transaction (R172) -/

/-- The bytes that a fetch sends after its 0xF0 byte: the ready reply with REPEAT where the delivered mark is set, or
none where the status is 0x00. -/
def PortCtx.fetchBytes (c : PortCtx) : List Byte :=
  match c.slot with
  | .ready r => r.bytes c.delivered
  | .empty => []
  | .inProgress _ => []

/-- FETCH STATUS FIXED: the 0xF0 byte completes. A port that waits for its select to be released takes no transaction
(R167). -/
def execFetchStatusFixed (p : Port) (s : State) : Host.Outcome State Fault Refusal :=
  .next (s.running fun s =>
    if (s.port p).awaitRelease then s else s.withPort p fun c => { c with fetch := some c.fetchBytes })

/-- The data output of a fetch transaction in which `n` bytes follow the 0xF0 byte. -/
def sentBytes (n : Nat) (bytes : List Byte) : List Byte :=
  bytes.take n ++ List.replicate (n - bytes.length) 0

/-- A fetch transaction ends after `n` bytes: what was sent stands on the data output, and the delivered mark is set
where a ready reply was sent with its check byte (R172). A transaction without a status fixed before fixes it now
(log 21). -/
def PortCtx.endFetch (n : Nat) (c : PortCtx) : PortCtx :=
  let bytes := c.fetch.getD c.fetchBytes
  { c with
    sent := sentBytes n bytes
    delivered := c.delivered || (!bytes.isEmpty && decide (bytes.length ≤ n))
    fetch := none }

/-- FETCH TRANSACTION. Where the port waits for its select to be released, the transaction has no effect, and its end
releases the port (R167). -/
def execFetchTransaction (p : Port) (clocked : Nat) (s : State) : Host.Outcome State Fault Refusal :=
  .next (s.running fun s =>
    if (s.port p).awaitRelease then s.withPort p fun c => { c with awaitRelease := false }
    else s.withPort p (PortCtx.endFetch clocked))

end Sys2Proof.Machine
end

