-- ==== Sys2Proof/Machine/ReaderCommands.lean ====
section
/-! DEFINITION. The reader's orders and the completions of its visits: READER SET, ANTENNA MAP, ANTENNA TUNE, POSITION
STATUS, read visits, stamp attempts and tunes (chapter 2). -/

namespace Sys2Proof.Machine

/-! ## READER SET (R55) -/

/-- The settings of Table 2-9 from the order's fields; `none` where a value lies outside its range. -/
def readerSettingsOf (attempts threshold coarse fine window : Byte) (target : BitVec 16) : Option ReaderSettings :=
  if 1 ≤ attempts.toNat ∧ attempts.toNat ≤ 4 ∧ 2 ≤ threshold.toNat ∧ threshold.toNat ≤ 31 ∧
      1 ≤ coarse.toNat ∧ coarse.toNat ≤ 32 ∧ -8 ≤ signedByte fine ∧ signedByte fine ≤ 7 ∧
      1 ≤ window.toNat ∧ window.toNat ≤ 8 ∧ 50 ≤ target.toNat ∧ target.toNat ≤ 600 ∧ target.toNat % 10 = 0 then
    some { attempts := attempts.toNat, threshold := threshold.toNat, coarse := coarse.toNat, fine := signedByte fine,
           window := window.toNat, target := target.toNat }
  else none

def readerSetBlock (r : Option ReaderSettings) (s : State) : Answer :=
  match r with
  | some r => answerOk (s.withReader fun d => { d with settings := r }) (.readerSettings r)
  | none => refuseWith s .badArg

def orderReaderSet (port : Port) (attempts threshold coarse fine window : Byte) (target : BitVec 16) (s : State) : State :=
  takeOrder port 0x21 .raised (stationOnly port)
    (readerSetBlock (readerSettingsOf attempts threshold coarse fine window target)) s

def execReaderSet (port : Port) (attempts threshold coarse fine window : Byte) (target : BitVec 16) (s : State) :
    Host.Outcome State Fault Refusal :=
  .next (orderReaderSet port attempts threshold coarse fine window target s)

/-! ## ANTENNA MAP (R33) -/

/-- The map an order carries; `none` where an antenna is outside A0 to A5 or two positions name the same one. -/
def mapOf (p0 p1 p2 p3 ps : Byte) : Option (PerPos (Option Antenna)) :=
  match mapEntryOf p0, mapEntryOf p1, mapEntryOf p2, mapEntryOf p3, mapEntryOf ps with
  | some a, some b, some c, some d, some e =>
    if ([a, b, c, d, e].filterMap id).Nodup then some { lane := { l0 := a, l1 := b, l2 := c, l3 := d }, ps := e }
    else none
  | _, _, _, _, _ => none

/-- The position of the visit in flight; a tune has none (log 13). -/
def Reader.visitPosition (d : Reader) : Option Position :=
  match d.visit with
  | some (.card v) => some v.position
  | some (.tune _ _ _) => none
  | none => none

/-- The positions that a new map changes. -/
def changedPositions (old new : PerPos (Option Antenna)) : List Position :=
  Position.all.filter fun p => old.get p != new.get p

/-- Whether a position's new antenna is still held by a deferred position (R33). -/
def blockedBy (old new : PerPos (Option Antenna)) (waiting : List Position) (p : Position) : Bool :=
  (new.get p).isSome && waiting.any fun q => q != p && old.get q == new.get p

/-- `k` rounds of joining to the deferred positions those that wait for their antennas. -/
def deferRounds (old new : PerPos (Option Antenna)) (changed : List Position) : Nat → List Position → List Position
  | 0, waiting => waiting
  | k + 1, waiting =>
    deferRounds old new changed k
      (changed.filter fun p => waiting.contains p || blockedBy old new waiting p)

/-- The positions whose change is deferred to the completion of the visit in flight (R33). -/
def Reader.deferredBy (d : Reader) (new : PerPos (Option Antenna)) : List Position :=
  let changed := changedPositions d.map new
  deferRounds d.map new changed 5 (changed.filter fun p => d.visitPosition == some p)

/-- An accepted map: deferred changes are replaced, the other changes apply at once (R33, R34). Which positions wait is
decided anew by each map, so one that waited for its antenna alone applies at once where the newest map gives it one
that no waiting position holds (log 40). -/
def State.installMap (s : State) (new : PerPos (Option Antenna)) : State :=
  let waiting := s.reader.deferredBy new
  let now := (changedPositions s.reader.map new).filter fun p => !waiting.contains p
  let s := s.withReader fun d =>
    { d with deferred := waiting.foldl (fun m p => m.set p (some (new.get p))) (.const none) }
  s.applyMap (now.map fun p => (p, new.get p))

def antennaMapBlock (m : Option (PerPos (Option Antenna))) (s : State) : Answer :=
  match m with
  | some m =>
    let s := (s.installMap m).arbiter
    answerOk s (.antennaMap s.reader.map)
  | none => refuseWith s .badArg

def orderAntennaMap (port : Port) (p0 p1 p2 p3 ps : Byte) (s : State) : State :=
  takeOrder port 0x22 .raised (stationOnly port) (antennaMapBlock (mapOf p0 p1 p2 p3 ps)) s

def execAntennaMap (port : Port) (p0 p1 p2 p3 ps : Byte) (s : State) : Host.Outcome State Fault Refusal :=
  .next (orderAntennaMap port p0 p1 p2 p3 ps s)

/-! ## ANTENNA TUNE (R51) -/

def antennaTuneBlock (a : Option Antenna) (s : State) : Answer :=
  match a with
  | none => refuseWith s .badArg
  | some a => if s.supply.state ≠ .run then refuseWith s .lowSupply else ⟨(s.orderTune a).arbiter, none⟩

def orderAntennaTune (port : Port) (antenna : Byte) (s : State) : State :=
  takeOrder port 0x23 .raised (stationOnly port) (antennaTuneBlock (antennaOf antenna)) s

def execAntennaTune (port : Port) (antenna : Byte) (s : State) : Host.Outcome State Fault Refusal :=
  .next (orderAntennaTune port antenna s)

/-! ## POSITION STATUS (R56) -/

/-- The attempts remaining of the stamp or service visit pending for a position; a service read has three in all
(R43, R55). -/
def State.pendingAttempts (s : State) : Position → Option Nat
  | .lane n => (s.reader.stamps.find? fun r => r.position == .lane n).map (·.attempts)
  | .ps => s.reader.slot.map fun v => match v with
    | .read made => 3 - made
    | .stamp r => r.attempts

def State.posStatus (s : State) (p : Position) : PosStatus :=
  { antenna := s.reader.map.get p, state := s.posState p, memory := s.reader.pos.get p,
    pendingAttempts := s.pendingAttempts p }

def State.antStatus (s : State) (a : Antenna) : AntStatus :=
  { level := s.reader.levels.get a, tune := s.reader.tunes.get a,
    tunePending := s.tuning == some a || s.reader.tuneList.any fun e => e.antenna == a }

def State.positionReport (s : State) : PositionReport :=
  { positions := { lane := { l0 := s.posStatus (.lane .l0), l1 := s.posStatus (.lane .l1),
                             l2 := s.posStatus (.lane .l2), l3 := s.posStatus (.lane .l3) },
                   ps := s.posStatus .ps }
    antennas := { a0 := s.antStatus .a0, a1 := s.antStatus .a1, a2 := s.antStatus .a2, a3 := s.antStatus .a3,
                  a4 := s.antStatus .a4, a5 := s.antStatus .a5 }
    visit := s.reader.visit
    pointer := s.reader.pointer
    settings := s.reader.settings }

def positionStatusBlock (s : State) : Answer := answerOk s (.positionStatus s.positionReport)

def orderPositionStatus (port : Port) (s : State) : State :=
  takeOrder port 0x24 .raised (stationOnly port) positionStatusBlock s

def execPositionStatus (port : Port) (s : State) : Host.Outcome State Fault Refusal :=
  .next (orderPositionStatus port s)

/-! ## READ VISIT COMPLETION (R43) -/

/-- A service read whose outcome is not CARD: one attempt more, and after the third no card has answered (R43). -/
def State.serviceReadMissed (s : State) : State :=
  match s.reader.slot with
  | some (.read made) =>
    if 3 ≤ made + 1 then (s.withReader fun d => { d with slot := none }).refuseQuote .noCard .none
    else s.withReader fun d => { d with slot := some (.read (made + 1)) }
  | some (.stamp _) => s
  | none => s

/-- A service read whose outcome is CARD: the service slot becomes empty, and the card answer goes to the refund
engine (R43). -/
def State.serviceReadAnswered (s : State) (c : Card) : State :=
  match s.reader.slot with
  | some (.read _) => (s.withReader fun d => { d with slot := none }).quoteCard c
  | some (.stamp _) => s
  | none => s

/-- What the reader delivers of a read visit (R43). -/
def State.deliverRead (s : State) (v : CardVisit) (o : VisitOutcome) (frame : List Byte) : State :=
  match v.position with
  | .lane n => if o = .card then s.scanAnswer n (cardOf frame) else s
  | .ps => if o = .card then s.serviceReadAnswered (cardOf frame) else s.serviceReadMissed

/-- A read visit ends: outcome, delivery, deferred map changes, and the arbiter (R30, R43, R47). -/
def State.readCompleted (s : State) (v : CardVisit) (r : Reception) : State :=
  let o := outcomeOf 28 0xA1 r
  ((s.applyOutcome v.position v.antenna o).deliverRead v o (r.frame.getD [])).endVisit

def State.readVisit (s : State) (r : Reception) : State :=
  match s.reader.visit with
  | some (.card v) => if v.purpose.kind = .read then s.readCompleted v r else s
  | some (.tune _ _ _) => s
  | none => s

def execReadVisitCompletion (r : Reception) (s : State) : Host.Outcome State Fault Refusal :=
  .next (s.running fun s => s.readVisit r)

/-! ## STAMP ATTEMPT COMPLETION (R45, R46) -/

/-- Whether an echo confirms the request (R45). -/
def StampReq.confirmedBy (r : StampReq) (o : VisitOutcome) (frame : List Byte) : Bool :=
  o == .card && (frame.drop 1).take 11 == r.callBytes

/-- The request after an unconfirmed attempt: an echo with outcome CARD leaves its pass number (R45, R46). -/
def StampReq.noted (r : StampReq) (o : VisitOutcome) (frame : List Byte) : StampReq :=
  if o = .card then { r with echoed := some (BitVec.ofNat 40 (field frame 1 5)) } else r

/-- Settles the lane stamp at a lane position (R46, R75). -/
def State.settleLaneStamp (s : State) (n : Lane) (o : VisitOutcome) (frame : List Byte) : State :=
  match s.reader.stamps.find? fun r => r.position == .lane n with
  | none => s
  | some r =>
    let without (s : State) : State :=
      s.withReader fun d => { d with stamps := d.stamps.filter fun x => x.position != .lane n }
    if r.confirmedBy o frame then (without s).clearBehind r
    else if 1 < r.attempts then
      let r' := { r.noted o frame with attempts := r.attempts - 1 }
      s.withReader fun d => { d with stamps := d.stamps.map fun x => if x.position = .lane n then r' else x }
    else without s

/-- Settles the service stamp (R46). -/
def State.settleServiceStamp (s : State) (o : VisitOutcome) (frame : List Byte) : State :=
  match s.reader.slot with
  | some (.stamp r) =>
    let without (s : State) : State := s.withReader fun d => { d with slot := none }
    if r.confirmedBy o frame then ((without s).clearBehind r).settleService r true
    else if 1 < r.attempts then
      let r' := { r.noted o frame with attempts := r.attempts - 1 }
      s.withReader fun d => { d with slot := some (.stamp r') }
    else (without s).settleService (r.noted o frame) false
  | some (.read _) => s
  | none => s

/-- A stamp attempt ends: outcome, settlement, deferred map changes, and the arbiter (R30, R46, R47). -/
def State.stampCompleted (s : State) (v : CardVisit) (r : Reception) : State :=
  let o := outcomeOf 14 0xB6 r
  let frame := r.frame.getD []
  let s := s.applyOutcome v.position v.antenna o
  (match v.position with
    | .lane n => s.settleLaneStamp n o frame
    | .ps => s.settleServiceStamp o frame).endVisit

def State.stampAttempt (s : State) (r : Reception) : State :=
  match s.reader.visit with
  | some (.card v) => if v.purpose.kind = .stamp then s.stampCompleted v r else s
  | some (.tune _ _ _) => s
  | none => s

def execStampAttemptCompletion (r : Reception) (s : State) : Host.Outcome State Fault Refusal :=
  .next (s.running fun s => s.stampAttempt r)

/-! ## TUNE COMPLETION (R52, R53) -/

/-- The ceiling of a quotient. -/
def ceilDiv (a b : Nat) : Nat := (a + b - 1) / b

/-- The tune record of an OPEN result: level and current of the largest current measured (R52, R53). -/
def openRecord (i4 i12 level : Nat) : TuneRecord :=
  if i12 < i4 then { level := 4, current := i4, newLevel := level, result := .opened }
  else if i4 < i12 then { level := 12, current := i12, newLevel := level, result := .opened }
  else { level := if Config.openTieAtLevel12 i4 then 12 else 4, current := i4, newLevel := level, result := .opened }

/-- The record of a computed level (R52 step 5). -/
def computedRecord (target level current : Nat) : TuneRecord :=
  let raw := ceilDiv (target * level) current
  if 15 < raw then { level := level, current := current, newLevel := 15, result := .limit }
  else { level := level, current := current, newLevel := raw, result := .ok }

/-- The result of a tune: `level` is the drive level in force (R52, R53). I12 is measured only where I4 is below
40 mA. -/
def tuneOutcome (target i4 i12 level : Nat) : TuneRecord :=
  if i4 < 40 then
    if i4 < 20 ∧ i12 < 20 then openRecord i4 i12 level
    else if 20 ≤ i12 then computedRecord target 12 i12
    else computedRecord target 4 i4
  else if 900 < i4 then { level := 4, current := i4, newLevel := level, result := .shorted }
  else computedRecord target 4 i4

def TuneResult.good : TuneResult → Bool
  | .ok | .limit => true
  | .opened | .shorted => false

/-- Table 2-8: the effect of a result on the position of the antenna. -/
def State.applyTune (s : State) (p : Position) (res : TuneResult) : State :=
  let m := s.reader.pos.get p
  let m' : PosMemory :=
    if res.good then { m with fault := false, degraded := false, faultCount := 0 } else { m with fault := true }
  let s := (s.withReader fun d => { d with pos := d.pos.set p m' }).endIfUnworkable p
  match res with
  | .ok => if m.fault || m.degraded then s.raiseAt p .position else s
  | .limit => s.raiseAt p .position
  | .opened => s.raiseAt p .position
  | .shorted => s.raiseAt p .position

/-- The position that holds an antenna in the map (R53 step 3). -/
def Reader.positionOf (d : Reader) (a : Antenna) : Option Position :=
  Position.all.find? fun p => d.map.get p == some a

/-- A tune of an antenna ends (R53). -/
def State.tuneCompleted (s : State) (a : Antenna) (target : Nat) (ordered : Bool) (i4 i12 : Nat) : State :=
  let rec0 := tuneOutcome target i4 i12 (s.reader.levels.get a)
  let s := s.withReader fun d =>
    { d with tunes := d.tunes.set a (some rec0), levels := d.levels.set a rec0.newLevel }
  let s := match s.reader.positionOf a with
    | some p => s.applyTune p rec0.result
    | none => s
  let s := s.raiseStation .antenna
  let s := if ordered then s.completeLong .ok (.tuneRecord a rec0) else s
  s.endVisit

def State.tuneVisit (s : State) (i4 i12 : Nat) : State :=
  match s.reader.visit with
  | some (.tune a target ordered) => s.tuneCompleted a target ordered i4 i12
  | some (.card _) => s
  | none => s

def execTuneCompletion (i4 i12 : Nat) (s : State) : Host.Outcome State Fault Refusal :=
  .next (s.running fun s => s.tuneVisit i4 i12)

end Sys2Proof.Machine
end

