-- ==== Sys2Proof/Machine/RefundOrders.lean ====
section
/-! DEFINITION. The refund engine's orders and its hold expiry: tariff sets, REFUND SET, QUOTE, COMMIT, RELEASE and STATUS,
and the journal orders (chapter 7, R191). -/

namespace Sys2Proof.Machine

/-! ## Tariff sets (R131, R132, R191) -/

/-- Whether list prices never fall from one day to the next (R131). -/
def notFalling : List Nat → Bool
  | [] => true
  | [_] => true
  | a :: b :: l => decide (a ≤ b) && notFalling (b :: l)

/-- The checks of R131 on the fields present: prices in range and not falling with T(1) above 0, and the terms in their
ranges. Fee, minimum refund and prices of three bytes are checked here against their ranges. -/
def Tariff.valid (t : Tariff) : Bool :=
  decide (t.product ≤ 4095) && t.prices.all (fun x => decide (x ≤ 1048575)) && decide (0 < t.prices.headD 0) &&
    notFalling t.prices && decide (t.fee ≤ 65535) && decide (t.minDays ≤ 21) && roundingUnits.contains t.unit &&
    decide (t.minRefund ≤ 65535) && decide (t.claim ≤ 30)

/-- Part 1's fields as a tariff set of eleven prices (R191); `none` where the refundable byte is not 0 or 1. -/
def stagingOf (product : BitVec 16) (prices : Vector (BitVec 24) 11) (fee : BitVec 16) (minDays : Byte)
    (unit minRefund : BitVec 16) (claim refundable : Byte) : Option Staging :=
  (boolOf refundable).map fun b =>
    { product := product.toNat, prices := prices.toList.map (·.toNat), fee := fee.toNat, minDays := minDays.toNat,
      unit := unit.toNat, minRefund := minRefund.toNat, claim := claim.toNat, refundable := b }

/-- TARIFF PUT, part 1: an accepted part replaces the staging record, a refused one empties it (R191). -/
def tariffPart1Block (t : Option Staging) (s : State) : Answer :=
  match t with
  | some t =>
    if t.valid then answerOk (s.withRefund fun r => { r with staging := some t }) .none
    else refuseWith (s.withRefund fun r => { r with staging := none }) .badArg
  | none => refuseWith (s.withRefund fun r => { r with staging := none }) .badArg

def orderTariffPutPart1 (port : Port) (product : BitVec 16) (prices : Vector (BitVec 24) 11) (fee : BitVec 16)
    (minDays : Byte) (unit minRefund : BitVec 16) (claim refundable : Byte) (s : State) : State :=
  takeOrder port 0x71 .raised (stationOnly port)
    (tariffPart1Block (stagingOf product prices fee minDays unit minRefund claim refundable)) s

def execTariffPutPart1 (port : Port) (product : BitVec 16) (prices : Vector (BitVec 24) 11) (fee : BitVec 16)
    (minDays : Byte) (unit minRefund : BitVec 16) (claim refundable : Byte) (s : State) :
    Host.Outcome State Fault Refusal :=
  .next (orderTariffPutPart1 port product prices fee minDays unit minRefund claim refundable s)

/-- Puts a complete set: in its place, or at the end where fewer than 32 are held (R131). -/
def putTariff (ts : List Tariff) (t : Tariff) : Option (List Tariff) :=
  if ts.any fun x => x.product == t.product then some (ts.map fun x => if x.product = t.product then t else x)
  else if ts.length < 32 then some (ts ++ [t])
  else none

/-- TARIFF PUT, part 2: completes the staged set and applies R131 to it whole (R191). -/
def tariffPart2Block (product : Nat) (prices : List Nat) (s : State) : Answer :=
  match s.refund.staging with
  | none => refuseWith s .state
  | some st =>
    if st.product ≠ product then refuseWith s .state
    else
      let t : Tariff := { st with prices := st.prices ++ prices }
      let s := s.withRefund fun r => { r with staging := none }
      if !t.valid then refuseWith s .badArg
      else
        match putTariff s.refund.tariffs t with
        | some ts => answerOk (s.withRefund fun r => { r with tariffs := ts }) .none
        | none => refuseWith s .tableFull

def orderTariffPutPart2 (port : Port) (product : BitVec 16) (prices : Vector (BitVec 24) 10) (s : State) : State :=
  takeOrder port 0x71 .raised (stationOnly port)
    (tariffPart2Block product.toNat (prices.toList.map (·.toNat))) s

def execTariffPutPart2 (port : Port) (product : BitVec 16) (prices : Vector (BitVec 24) 10) (s : State) :
    Host.Outcome State Fault Refusal :=
  .next (orderTariffPutPart2 port product prices s)

/-- A TARIFF PUT frame whose part byte is neither 1 nor 2 (R191). -/
def orderTariffPutOther (port : Port) (s : State) : State :=
  takeOrder port 0x71 .raised (stationOnly port) (fun s => refuseWith s .badArg) s

def tariffQueryBlock (selector : Byte) (value : Nat) (s : State) : Answer :=
  let found (t : Option Tariff) : Answer :=
    match t with
    | some t => answerOk s (.tariff s.refund.tariffs.length t)
    | none => refuseWith s .notFound
  match selector.toNat with
  | 0 => if 4095 < value then refuseWith s .badArg else found (findTariff s.refund.tariffs value)
  | 1 => if 31 < value then refuseWith s .badArg else found s.refund.tariffs[value]?
  | _ => refuseWith s .badArg

def orderTariffQuery (port : Port) (selector : Byte) (value : BitVec 16) (s : State) : State :=
  takeOrder port 0x72 .raised (stationOnly port) (tariffQueryBlock selector value.toNat) s

def execTariffQuery (port : Port) (selector : Byte) (value : BitVec 16) (s : State) :
    Host.Outcome State Fault Refusal :=
  .next (orderTariffQuery port selector value s)

def tariffEraseBlock (product : Nat) (s : State) : Answer :=
  if 4095 < product then refuseWith s .badArg
  else if (findTariff s.refund.tariffs product).isNone then refuseWith s .notFound
  else answerOk (s.withRefund fun r => { r with tariffs := r.tariffs.filter fun t => t.product != product }) .none

def orderTariffErase (port : Port) (product : BitVec 16) (s : State) : State :=
  takeOrder port 0x73 .raised (stationOnly port) (tariffEraseBlock product.toNat) s

def execTariffErase (port : Port) (product : BitVec 16) (s : State) : Host.Outcome State Fault Refusal :=
  .next (orderTariffErase port product s)

/-! ## REFUND SET (R134) -/

def refundSetBlock (hold : Nat) (s : State) : Answer :=
  if 30 ≤ hold ∧ hold ≤ 900 then answerOk (s.withRefund fun r => { r with hold := hold }) (.refundHold hold)
  else refuseWith s .badArg

def orderRefundSet (port : Port) (hold : BitVec 16) (s : State) : State :=
  takeOrder port 0x74 .raised (stationOnly port) (refundSetBlock hold.toNat) s

def execRefundSet (port : Port) (hold : BitVec 16) (s : State) : Host.Outcome State Fault Refusal :=
  .next (orderRefundSet port hold s)

/-! ## REFUND QUOTE (R135) -/

def refundQuoteBlock (s : State) : Answer :=
  if s.refund.ctx ≠ .idle then refuseWith s .busy
  else if s.supply.state ≠ .run then refuseWith s .lowSupply
  else if s.time.tod.isNone then refuseWith s .state
  else if s.unworkable .ps then refuseWith s .noCard
  else ⟨((s.withCtx (.reading none)).withReader fun d => { d with slot := some (.read 0) }).arbiter, none⟩

def orderRefundQuote (port : Port) (s : State) : State :=
  takeOrder port 0x75 .raised (stationOnly port) refundQuoteBlock s

def execRefundQuote (port : Port) (s : State) : Host.Outcome State Fault Refusal :=
  .next (orderRefundQuote port s)

/-! ## REFUND COMMIT (R145) -/

/-- The PENDING entry of a commit (R145). -/
def pendingEntry (s : State) (q : StandingQuote) : JournalEntry :=
  { seq := s.refund.nextSeq, status := .pending, quote := q.number, pass := q.pass, product := q.quote.product,
    days := q.quote.days, charged := q.quote.charged, paid := q.quote.paid, refund := q.quote.refund,
    day := s.time.lastDay, time := s.time.tod.getD 0 }

/-- The journal entry is appended and the context becomes COMMITTING (R145, R152). -/
def State.beginCommit (s : State) (q : StandingQuote) : State :=
  (s.withRefund fun r =>
    { r with journal := r.journal ++ [pendingEntry s q], nextSeq := (r.nextSeq + 1) % 65536,
             ctx := .committing q r.nextSeq }).raiseStation .journal

/-- The commit stamp goes into the service slot; where PS cannot carry it out it ends at once as failed (R36, R145). -/
def State.commitStamp (s : State) (q : StandingQuote) : Answer :=
  if s.unworkable .ps then
    let (s', a) := s.settleCommit false none
    ⟨s', a⟩
  else
    match s.record q.pass with
    | some r =>
      ⟨(s.withReader fun d =>
        { d with slot := some (.stamp (s.newStamp .ps .commit q.pass r true q.seq)) }).arbiter, none⟩
    | none => ⟨s, none⟩

def refundCommitBlock (quote : Nat) (s : State) : Answer :=
  match s.refund.ctx with
  | .quoted q =>
    if q.number ≠ quote then refuseWith s .badArg
    else if s.supply.state ≠ .run then refuseWith s .lowSupply
    else if 48 ≤ s.refund.journal.length then refuseWith s .journalFull
    else (s.beginCommit q).commitStamp q
  | .idle => refuseWith s .state
  | .reading _ => refuseWith s .state
  | .committing _ _ => refuseWith s .state

def orderRefundCommit (port : Port) (quote : BitVec 16) (s : State) : State :=
  takeOrder port 0x76 .raised (stationOnly port) (refundCommitBlock quote.toNat) s

def execRefundCommit (port : Port) (quote : BitVec 16) (s : State) : Host.Outcome State Fault Refusal :=
  .next (orderRefundCommit port quote s)

/-! ## REFUND RELEASE, REFUND HOLD EXPIRY (R143, R144) -/

def refundReleaseBlock (quote : Nat) (s : State) : Answer :=
  match s.refund.ctx with
  | .quoted q => if q.number ≠ quote then refuseWith s .badArg else answerOk (s.endHold q .released) .none
  | .idle => refuseWith s .state
  | .reading _ => refuseWith s .state
  | .committing _ _ => refuseWith s .state

def orderRefundRelease (port : Port) (quote : BitVec 16) (s : State) : State :=
  takeOrder port 0x77 .raised (stationOnly port) (refundReleaseBlock quote.toNat) s

def execRefundRelease (port : Port) (quote : BitVec 16) (s : State) : Host.Outcome State Fault Refusal :=
  .next (orderRefundRelease port quote s)

/-- The quote whose hold deadline is reached in QUOTED (R144). -/
def State.expiredQuote (s : State) : Option StandingQuote :=
  match s.refund.ctx with
  | .quoted q => if q.deadline ≤ s.time.runSec then some q else none
  | .idle => none
  | .reading _ => none
  | .committing _ _ => none

def execRefundHoldExpiry (s : State) : Host.Outcome State Fault Refusal :=
  .next (s.running fun s =>
    match s.expiredQuote with
    | some q => s.expireHold q
    | none => s)

/-! ## REFUND STATUS (R153) -/

/-- Seconds remaining to the hold deadline, 0 where it has passed (R153). -/
def State.holdRemaining (s : State) : Option Nat :=
  match s.refund.ctx with
  | .quoted q => some (q.deadline - s.time.runSec)
  | .committing q _ => some (q.deadline - s.time.runSec)
  | .idle => none
  | .reading _ => none

def State.refundReport (s : State) : RefundReport :=
  { ctx := s.refund.ctx, remaining := s.holdRemaining, lastQuote := s.refund.lastQuote,
    entries := s.refund.journal.length, nextSeq := s.refund.nextSeq, tariffs := s.refund.tariffs.length,
    hold := s.refund.hold }

def refundStatusBlock (s : State) : Answer := answerOk s (.refundStatus s.refundReport)

def orderRefundStatus (port : Port) (s : State) : State :=
  takeOrder port 0x78 .raised (stationOnly port) refundStatusBlock s

def execRefundStatus (port : Port) (s : State) : Host.Outcome State Fault Refusal :=
  .next (orderRefundStatus port s)

/-! ## JOURNAL READ, JOURNAL REMOVE (R150, R151) -/

def journalReadBlock (count : Nat) (s : State) : Answer :=
  if 1 ≤ count ∧ count ≤ 8 then
    answerOk s (.journal s.refund.journal.length s.refund.nextSeq (s.refund.journal.take count))
  else refuseWith s .badArg

def orderJournalRead (port : Port) (count : Byte) (s : State) : State :=
  takeOrder port 0x79 .raised (stationOnly port) (journalReadBlock count.toNat) s

def execJournalRead (port : Port) (count : Byte) (s : State) : Host.Outcome State Fault Refusal :=
  .next (orderJournalRead port count s)

def journalRemoveBlock (seq : Nat) (s : State) : Answer :=
  match s.refund.journal with
  | [] => refuseWith s .notFound
  | e :: rest =>
    if e.seq ≠ seq then refuseWith s .badArg
    else if e.status = .pending then refuseWith s .state
    else answerOk (s.withRefund fun r => { r with journal := rest }) (.remaining rest.length)

def orderJournalRemove (port : Port) (seq : BitVec 16) (s : State) : State :=
  takeOrder port 0x7A .raised (stationOnly port) (journalRemoveBlock seq.toNat) s

def execJournalRemove (port : Port) (seq : BitVec 16) (s : State) : Host.Outcome State Fault Refusal :=
  .next (orderJournalRemove port seq s)

end Sys2Proof.Machine
end

