-- ==== Sys2Proof/Machine/SupplyCommands.lean ====
section
/-! DEFINITION. Supply and retention: SUPPLY STATUS, the supply monitor, RESET, VBAK and the start-up (chapter 10). -/

namespace Sys2Proof.Machine

/-! ## SUPPLY STATUS (R189) -/

/-- Milliseconds remaining to the recovery deadline, in LOW while the timer runs (R189). -/
def State.recoveryRemaining (s : State) : Option Nat :=
  if s.supply.state = .low then s.supply.recovery.map fun d => d - s.time.ms else none

def State.supplyReport (s : State) : SupplyReport :=
  { state := s.supply.state, recovery := s.recoveryRemaining, startKind := s.supply.startKind,
    startCause := s.supply.startCause, lowCount := s.supply.lowCount, lastChange := s.supply.lastChange }

def supplyStatusBlock (s : State) : Answer := answerOk s (.supplyStatus s.supplyReport)

def orderSupplyStatus (port : Port) (s : State) : State :=
  takeOrder port 0x91 .raised (stationOnly port) supplyStatusBlock s

def execSupplyStatus (port : Port) (s : State) : Host.Outcome State Fault Refusal := .next (orderSupplyStatus port s)

/-! ## VMAIN CHANGE (R181, R182) -/

/-- VMAIN is below the warning threshold (log 6). -/
def sagging : VmainBand → Bool
  | .belowRetention | .belowWarning => true
  | .belowRecovery | .aboveRecovery => false

/-- The pin moves. The time for which VMAIN has stood above the recovery level begins anew unless it stays there. -/
def Supply.moveVmain (band : VmainBand) (u : Supply) : Supply :=
  { u with vmain := band, stood := if band = .aboveRecovery ∧ u.vmain = .aboveRecovery then u.stood else 0 }

/-- RUN to LOW: counted, SUPPLY raised, and the queue withdrawn with LOW_SUPPLY (R115, R181, R182, R189). -/
def State.enterLow (s : State) : State :=
  let s := s.withSupply fun u =>
    { u with state := .low, recovery := none, lowCount := addSat max16 1 u.lowCount, lastChange := some s.time.runSec }
  (s.raiseStation .supply).withdrawAll

/-- RUN or LOW to DOWN: no notice; what still waits in the queue is withdrawn with LOW_SUPPLY (R115, R181). -/
def State.enterDown (s : State) : State :=
  (s.withSupply fun u => { u with state := .down, recovery := none, lastChange := some s.time.runSec }).withdrawAll

/-- In LOW the recovery timer runs from a rise above the recovery level to a fall below it (R181). -/
def Supply.watchRecovery (ms : Nat) (u : Supply) : Supply :=
  { u with
    recovery :=
      if u.vmain = .aboveRecovery then
        match u.recovery with
        | some d => some d
        | none => some (ms + 200)
      else none }

/-- The supply monitor of a running part, after VMAIN has moved (R181). -/
def State.monitorRunning (s : State) : State :=
  match s.supply.state with
  | .run =>
    if s.supply.vmain = .belowRetention then s.enterDown
    else if sagging s.supply.vmain then s.enterLow
    else s
  | .low =>
    if s.supply.vmain = .belowRetention then s.enterDown
    else s.withSupply (Supply.watchRecovery s.time.ms)
  | .down => s

/-- The supply monitor while RESET is held: no block acts (R183; log 19). -/
def Supply.monitorHeld (u : Supply) : Supply :=
  match u.state with
  | .run =>
    if u.vmain = .belowRetention then { u with state := .down, recovery := none }
    else if sagging u.vmain then { u with state := .low, recovery := none }
    else u
  | .low => if u.vmain = .belowRetention then { u with state := .down, recovery := none } else u
  | .down => u

/-- VMAIN CHANGE (R181). In DOWN it moves VMAIN alone: the start-up is the command START UP (R185; log 41). -/
def execVmainChange (band : VmainBand) (s : State) : Host.Outcome State Fault Refusal :=
  let s' := s.withSupply (Supply.moveVmain band)
  .next (if s.stopped then s'.withSupply Supply.monitorHeld else s'.monitorRunning)

/-! ## RECOVERY TIMER (R181, R182) -/

/-- Whether the recovery deadline is reached in LOW. -/
def State.recoveryDue (s : State) : Bool :=
  s.supply.state == .low &&
    match s.supply.recovery with
    | some d => decide (d ≤ s.time.ms)
    | none => false

/-- LOW to RUN: SUPPLY raised, the loading monitor's service step, and the arbiter (R181, R182). -/
def State.enterRun (s : State) : State :=
  let s := s.withSupply fun u => { u with state := .run, recovery := none, lastChange := some s.time.runSec }
  (s.raiseStation .supply).serviceStep.arbiter

def execRecoveryTimer (s : State) : Host.Outcome State Fault Refusal :=
  .next (s.running fun s => if s.recoveryDue then s.enterRun else s)

/-! ## RESET, VBAK FAILURE (R183, R184) -/

/-- RESET becomes active: the part is stopped (R183). -/
def execReset (s : State) : Host.Outcome State Fault Refusal :=
  .next (s.withSupply fun u => { u with resetHeld := true, recovery := none })

/-- The retained content as it stands (Table 10-2). -/
def State.retained (s : State) : Retained :=
  { table := s.table, map := s.reader.map, levels := s.reader.levels, tunes := s.reader.tunes, reader := s.reader.settings,
    admission := s.adm.settings, rules := s.adm.rules, modes := s.lanes.map (·.mode), lanes := s.lanes.map (·.settings),
    debounce := s.debounce, limit := s.load.limit, hold := s.load.hold, current := s.counts.current,
    previous := s.counts.previous, tariffs := s.refund.tariffs, refundHold := s.refund.hold, journal := s.refund.journal,
    nextSeq := s.refund.nextSeq, lastDay := s.time.lastDay, boundaryHour := s.time.boundaryHour, jitter := s.time.jitter }

/-- The check value computed over the retained content as it stands: polynomial 0x1021, initial value 0xFFFF (R184). The
bytes of the content are open (log 7). -/
def State.checkValue (s : State) : BitVec 16 := crc16 0xFFFF (Config.retainedBytes s.retained)

/-- The check value stored with the retained region. A retained write moves it with the content, in the same action, so
that it keeps its distance from the computed value (R184). -/
def State.storedCheck (s : State) : BitVec 16 := s.checkValue + s.supply.checkSkew

/-- Whether the check is valid: the stored value equals the computed one (R184). -/
def Supply.checkValid (u : Supply) : Bool := u.checkSkew == 0

/-- The distance of the stored check value after the content is lost: a free value other than 0 (R184; log 7). -/
def lostSkew (free : Nat) : BitVec 16 := BitVec.ofNat 16 (Config.skewAfterLoss free % 65535 + 1)

/-- VBAK fails: while VMAIN is absent the retained content is lost, so its check is invalid (R184; log 19). -/
def execVbakFailure (s : State) : Host.Outcome State Fault Refusal :=
  .next (if s.supply.vmain = .belowRetention then
    { s.withSupply fun u => { u with checkSkew := lostSkew s.free } with free := s.free + 1 } else s)

/-! ## The retained content at a start-up (R28, R57, R149, R186, R187) -/

/-- A record's fix-ups at a warm start (R28). -/
def warmRecord (r : PassRecord) : PassRecord :=
  { r with live := none, state := releaseState r.state, lastPassage := none, lastSeen := 0 }

/-- A PENDING entry becomes UNCERTAIN (R149). -/
def warmEntry (e : JournalEntry) : JournalEntry := if e.status = .pending then { e with status := .uncertain } else e

/-- The warm fix-ups of the retained content (R186). -/
def State.warmContent (s : State) : State :=
  { s with
    table := s.table.map fun e => (e.1, warmRecord e.2)
    refund := { s.refund with journal := s.refund.journal.map warmEntry } }

/-- Every item of the retained content takes its cold value (Table 10-2, R187). -/
def State.coldContent (s : State) : State :=
  { s with
    table := []
    reader := { s.reader with map := coldMap, levels := .const 8, tunes := .const none, settings := .cold }
    adm := { s.adm with settings := .cold, rules := coldRules }
    lanes := s.lanes.map fun u => { u with mode := .closed, settings := .cold }
    debounce := 30
    load := { s.load with limit := 24, hold := 20 }
    counts := { s.counts with current := .zero 0, previous := none }
    refund := { s.refund with tariffs := [], hold := 180, journal := [], nextSeq := 0 }
    time := { s.time with lastDay := 0, boundaryHour := 3, jitter := 20 } }

/-! ## The values of both kinds of start (R185 step 3) -/

/-- A position at a start-up: its fault flag is set where its antenna's tune record shows OPEN or SHORT (R57). -/
def Reader.startPos (d : Reader) (p : Position) : PosMemory :=
  { PosMemory.start with
    fault := match (d.map.get p).bind d.tunes.get with
      | some t => t.result == .opened || t.result == .shorted
      | none => false }

/-- R57. -/
def Reader.start (d : Reader) : Reader :=
  { d with
    deferred := .const none
    pos := { lane := { l0 := d.startPos (.lane .l0), l1 := d.startPos (.lane .l1), l2 := d.startPos (.lane .l2),
                       l3 := d.startPos (.lane .l3) }
             ps := d.startPos .ps }
    visit := none
    slot := none
    stamps := []
    tuneList := []
    pointer := .l3 }

/-- R80. -/
def Admission.start (a : Admission) : Admission :=
  { a with verdicts := .const none, quiet := .const none, notes := .const none }

/-- A debounced input at a start-up: its debounced level is clear or inactive, and a raw level that differs begins a
pending change (R84, R103, R118; log 28). -/
def Debounced.start (d : Debounced) : Debounced :=
  { raw := d.raw, level := false, since := if d.raw then some 0 else none }

/-- R103. -/
def LaneUnit.start (u : LaneUnit) : LaneUnit :=
  let u' : LaneUnit :=
    { u with passage := .idle, tracker := .clear, enb := u.enb.start, exb := u.exb.start, ctx := none, signal := none,
             tone := none, report := none, lampSince := 0 }
  { u' with lamp := u'.lampState }

/-- R118. -/
def Loading.start (l : Loading) : Loading :=
  { l with occupancy := 0, live := 0, queue := [], board := l.board.start, handed := [] }

/-- R129. -/
def Counts.start (c : Counts) : Counts := { c with openBin := .fresh none, ring := [] }

/-- R154, R191. -/
def RefundEngine.start (r : RefundEngine) : RefundEngine :=
  { r with staging := none, ctx := .idle, lastNumber := 0, lastQuote := none }

/-- R166. -/
def TimeUnit.start (t : TimeUnit) : TimeUnit :=
  { TimeUnit.cold with lastDay := t.lastDay, boundaryHour := t.boundaryHour, jitter := t.jitter }

/-- The supply state by VMAIN as it stands (R185 step 4), and the facts of the start-up (R189). -/
def Supply.start (kind : StartKind) (cause : StartCause) (u : Supply) : Supply :=
  let above := u.vmain == .aboveRecovery
  let full := above && decide (200 ≤ u.stood)
  { state := if full then .run else .low, vmain := u.vmain, stood := u.stood, resetHeld := false,
    recovery := if above && !full then some 200 else none, checkSkew := 0, startKind := kind, startCause := cause,
    lowCount := 0, lastChange := none }

def PortCtx.startWith (selected : Bool) : PortCtx := { PortCtx.start with awaitRelease := selected }

/-- The ports at the end of a start-up: START on the station port, and JOURNAL where the journal holds entries
(R152, R167, R168, R188). -/
def Ports.start (kind : StartKind) (journal : Bool) (selected : PerPort Bool) : Ports :=
  { ctx := { lp := selected.lp.map PortCtx.startWith
             sp := { PortCtx.startWith selected.sp with
                     notices := StationNotice.start.mask ||| (if journal then StationNotice.journal.mask else 0) } }
    startKind := some kind }

/-- A start-up, in one action (R185); the first visit that can start is started (R38). -/
def State.startUp (s : State) (cause : StartCause) (selected : PerPort Bool) : State :=
  let kind : StartKind := if s.supply.checkValid then .warm else .cold
  let s := if s.supply.checkValid then s.warmContent else s.coldContent
  ({ table := s.table
     reader := s.reader.start
     adm := s.adm.start
     lanes := s.lanes.map LaneUnit.start
     debounce := s.debounce
     load := s.load.start
     counts := s.counts.start
     refund := s.refund.start
     time := s.time.start
     ports := .start kind (!s.refund.journal.isEmpty) selected
     supply := s.supply.start kind cause
     free := s.free
     pending := s.pending } : State).arbiter

/-- START UP. By power return: the supply state is DOWN, RESET is inactive and VMAIN is above the retention
threshold. By the release of RESET: RESET was held; nothing begins while VMAIN is below the retention threshold
(R185). The part stays stopped until this command comes (log 41). -/
def execStartUp (cause : StartCause) (selected : PerPort Bool) (s : State) : Host.Outcome State Fault Refusal :=
  .next <|
    match cause with
    | .power =>
      if s.supply.state = .down ∧ s.supply.resetHeld = false ∧ s.supply.vmain ≠ .belowRetention then
        s.startUp .power selected
      else s
    | .reset =>
      if s.supply.resetHeld then
        let s := s.withSupply fun u => { u with resetHeld := false }
        if s.supply.vmain ≠ .belowRetention then s.startUp .reset selected else s
      else s

end Sys2Proof.Machine
end

