-- ==== Sys2Proof/Machine/Frames.lean ====
section
/-! DEFINITION. Order frames: the frame of every order, the check of a frame, the order that a frame carries and its
taking (R167, R169, R170, R190, R191, Table 11-1). -/

namespace Sys2Proof.Machine

/-! ## Frames as bytes (section 11.2) -/

/-- An order frame: the code, the body length, the body and the check (section 11.2). -/
def frameOf (code : Byte) (body : List Byte) : List Byte :=
  let head := code :: BitVec.ofNat 8 body.length :: body
  head ++ [crc8 head]

/-- The code and body of an order's frame (Table 11-1); none for a row that is no order. -/
def orderBody : Instr → Option (Byte × List Byte)
  | .passPut _ pass state => some (0x11, beBytes 5 pass.toNat ++ [state])
  | .passBlock _ pass => some (0x12, beBytes 5 pass.toNat)
  | .passUnblock _ pass => some (0x13, beBytes 5 pass.toNat)
  | .passErase _ pass => some (0x14, beBytes 5 pass.toNat)
  | .passClearLearned _ => some (0x15, [])
  | .passQuery _ pass => some (0x16, beBytes 5 pass.toNat)
  | .tableStatus _ => some (0x17, [])
  | .readerSet _ attempts threshold coarse fine window target =>
    some (0x21, [attempts, threshold, coarse, fine, window] ++ beBytes 2 target.toNat)
  | .antennaMap _ p0 p1 p2 p3 ps => some (0x22, [p0, p1, p2, p3, ps])
  | .antennaTune _ antenna => some (0x23, [antenna])
  | .positionStatus _ => some (0x24, [])
  | .admitSet _ resort lockout quiet learnMask =>
    some (0x31, beBytes 2 resort.toNat ++ beBytes 2 lockout.toNat ++ [quiet, learnMask])
  | .rulePut _ index enabled value mask lanes start stop cls charge =>
    some (0x32, [index, enabled] ++ beBytes 2 value.toNat ++ beBytes 2 mask.toNat ++ [lanes] ++ beBytes 2 start.toNat ++
      beBytes 2 stop.toNat ++ [cls, charge])
  | .ruleQuery _ selector value => some (0x33, [selector] ++ beBytes 2 value.toNat)
  | .verdictFetch _ lane => some (0x34, [lane])
  | .laneMode _ lane mode => some (0x41, [lane, mode])
  | .laneStatus _ lane => some (0x42, [lane])
  | .laneSet _ lane window debounce high low mute => some (0x43, [lane, window, debounce, high, low, mute])
  | .manualGrant _ lane => some (0x44, [lane])
  | .loadingSet _ limit hold => some (0x51, [limit, hold])
  | .loadingStatus _ => some (0x52, [])
  | .countsRead _ period part lane start number => some (0x61, [period, part, lane, start, number])
  | .tariffPutPart1 _ product prices fee minDays unit minRefund claim refundable =>
    some (0x71, [1] ++ beBytes 2 product.toNat ++ (prices.toList.map fun x => beBytes 3 x.toNat).flatten ++
      beBytes 2 fee.toNat ++ [minDays] ++ beBytes 2 unit.toNat ++ beBytes 2 minRefund.toNat ++ [claim, refundable])
  | .tariffPutPart2 _ product prices =>
    some (0x71, [2] ++ beBytes 2 product.toNat ++ (prices.toList.map fun x => beBytes 3 x.toNat).flatten ++
      List.replicate 12 0)
  | .tariffQuery _ selector value => some (0x72, [selector] ++ beBytes 2 value.toNat)
  | .tariffErase _ product => some (0x73, beBytes 2 product.toNat)
  | .refundSet _ hold => some (0x74, beBytes 2 hold.toNat)
  | .refundQuote _ => some (0x75, [])
  | .refundCommit _ quote => some (0x76, beBytes 2 quote.toNat)
  | .refundRelease _ quote => some (0x77, beBytes 2 quote.toNat)
  | .refundStatus _ => some (0x78, [])
  | .journalRead _ count => some (0x79, [count])
  | .journalRemove _ seq => some (0x7A, beBytes 2 seq.toNat)
  | .clockSet _ day time hour => some (0x81, beBytes 2 day.toNat ++ beBytes 3 time.toNat ++ [hour])
  | .clockSync _ mode window arm => some (0x82, [mode, window, arm])
  | .clockStatus _ => some (0x83, [])
  | .supplyStatus _ => some (0x91, [])
  | .noticeFetch _ => some (0xA1, [])
  | .noticeMask _ mask => some (0xA2, beBytes 2 mask.toNat)
  | .ident _ => some (0xA3, [])
  | _ => none

/-- The port of an order. -/
def orderPort : Instr → Option Port
  | .passPut p _ _ | .passBlock p _ | .passUnblock p _ | .passErase p _ | .passClearLearned p | .passQuery p _
  | .tableStatus p | .readerSet p _ _ _ _ _ _ | .antennaMap p _ _ _ _ _ | .antennaTune p _ | .positionStatus p
  | .admitSet p _ _ _ _ | .rulePut p _ _ _ _ _ _ _ _ _ | .ruleQuery p _ _ | .verdictFetch p _ | .laneMode p _ _
  | .laneStatus p _ | .laneSet p _ _ _ _ _ _ | .manualGrant p _ | .loadingSet p _ _ | .loadingStatus p
  | .countsRead p _ _ _ _ _ | .tariffPutPart1 p _ _ _ _ _ _ _ _ | .tariffPutPart2 p _ _ | .tariffQuery p _ _
  | .tariffErase p _ | .refundSet p _ | .refundQuote p | .refundCommit p _ | .refundRelease p _ | .refundStatus p
  | .journalRead p _ | .journalRemove p _ | .clockSet p _ _ _ | .clockSync p _ _ _ | .clockStatus p | .supplyStatus p
  | .noticeFetch p | .noticeMask p _ | .ident p => some p
  | _ => none

/-! ## Reading a frame (R169, R190, Table 11-1) -/

/-- The body length of an order by its code; none for a code of no order (Table 11-1). -/
def orderLength (code : Byte) : Option Nat :=
  match code.toNat with
  | 0x11 => some 6 | 0x12 => some 5 | 0x13 => some 5 | 0x14 => some 5 | 0x15 => some 0 | 0x16 => some 5 | 0x17 => some 0
  | 0x21 => some 7 | 0x22 => some 5 | 0x23 => some 1 | 0x24 => some 0
  | 0x31 => some 6 | 0x32 => some 13 | 0x33 => some 3 | 0x34 => some 1
  | 0x41 => some 2 | 0x42 => some 1 | 0x43 => some 6 | 0x44 => some 1
  | 0x51 => some 2 | 0x52 => some 0
  | 0x61 => some 5
  | 0x71 => some 45 | 0x72 => some 3 | 0x73 => some 2 | 0x74 => some 2 | 0x75 => some 0 | 0x76 => some 2
  | 0x77 => some 2 | 0x78 => some 0 | 0x79 => some 1 | 0x7A => some 2
  | 0x81 => some 6 | 0x82 => some 3 | 0x83 => some 0
  | 0x91 => some 0
  | 0xA1 => some 0 | 0xA2 => some 2 | 0xA3 => some 0
  | _ => none

def passAt (b : List Byte) (i : Nat) : PassNo := BitVec.ofNat 40 (field b i 5)

def wordAt (b : List Byte) (i : Nat) : BitVec 16 := BitVec.ofNat 16 (field b i 2)

def tripleAt (b : List Byte) (i : Nat) : BitVec 24 := BitVec.ofNat 24 (field b i 3)

/-- A list of prices of three bytes each, from byte 3 of a TARIFF PUT body (R191). -/
def pricesAt (k : Nat) (b : List Byte) : Vector (BitVec 24) k := Vector.ofFn fun i => tripleAt b (3 + 3 * i.val)

/-- The TARIFF PUT that a body carries by its part byte; none where that is neither 1 nor 2 (R191). -/
def tariffPutOf (p : Port) (b : List Byte) : Option Instr :=
  match (byteAt b 0).toNat with
  | 1 => some (.tariffPutPart1 p (wordAt b 1) (pricesAt 11 b) (wordAt b 36) (byteAt b 38) (wordAt b 39) (wordAt b 41)
      (byteAt b 43) (byteAt b 44))
  | 2 => some (.tariffPutPart2 p (wordAt b 1) (pricesAt 10 b))
  | _ => none

/-- The order that a code and a body of its length carry; none where the code is of no order, or a TARIFF PUT has
neither part. -/
def orderOf (p : Port) (code : Byte) (b : List Byte) : Option Instr :=
  match code.toNat with
  | 0x11 => some (.passPut p (passAt b 0) (byteAt b 5))
  | 0x12 => some (.passBlock p (passAt b 0))
  | 0x13 => some (.passUnblock p (passAt b 0))
  | 0x14 => some (.passErase p (passAt b 0))
  | 0x15 => some (.passClearLearned p)
  | 0x16 => some (.passQuery p (passAt b 0))
  | 0x17 => some (.tableStatus p)
  | 0x21 => some (.readerSet p (byteAt b 0) (byteAt b 1) (byteAt b 2) (byteAt b 3) (byteAt b 4) (wordAt b 5))
  | 0x22 => some (.antennaMap p (byteAt b 0) (byteAt b 1) (byteAt b 2) (byteAt b 3) (byteAt b 4))
  | 0x23 => some (.antennaTune p (byteAt b 0))
  | 0x24 => some (.positionStatus p)
  | 0x31 => some (.admitSet p (wordAt b 0) (wordAt b 2) (byteAt b 4) (byteAt b 5))
  | 0x32 => some (.rulePut p (byteAt b 0) (byteAt b 1) (wordAt b 2) (wordAt b 4) (byteAt b 6) (wordAt b 7) (wordAt b 9)
      (byteAt b 11) (byteAt b 12))
  | 0x33 => some (.ruleQuery p (byteAt b 0) (wordAt b 1))
  | 0x34 => some (.verdictFetch p (byteAt b 0))
  | 0x41 => some (.laneMode p (byteAt b 0) (byteAt b 1))
  | 0x42 => some (.laneStatus p (byteAt b 0))
  | 0x43 => some (.laneSet p (byteAt b 0) (byteAt b 1) (byteAt b 2) (byteAt b 3) (byteAt b 4) (byteAt b 5))
  | 0x44 => some (.manualGrant p (byteAt b 0))
  | 0x51 => some (.loadingSet p (byteAt b 0) (byteAt b 1))
  | 0x52 => some (.loadingStatus p)
  | 0x61 => some (.countsRead p (byteAt b 0) (byteAt b 1) (byteAt b 2) (byteAt b 3) (byteAt b 4))
  | 0x71 => tariffPutOf p b
  | 0x72 => some (.tariffQuery p (byteAt b 0) (wordAt b 1))
  | 0x73 => some (.tariffErase p (wordAt b 0))
  | 0x74 => some (.refundSet p (wordAt b 0))
  | 0x75 => some (.refundQuote p)
  | 0x76 => some (.refundCommit p (wordAt b 0))
  | 0x77 => some (.refundRelease p (wordAt b 0))
  | 0x78 => some (.refundStatus p)
  | 0x79 => some (.journalRead p (byteAt b 0))
  | 0x7A => some (.journalRemove p (wordAt b 0))
  | 0x81 => some (.clockSet p (wordAt b 0) (tripleAt b 2) (byteAt b 5))
  | 0x82 => some (.clockSync p (byteAt b 0) (byteAt b 1) (byteAt b 2))
  | 0x83 => some (.clockStatus p)
  | 0x91 => some (.supplyStatus p)
  | 0xA1 => some (.noticeFetch p)
  | 0xA2 => some (.noticeMask p (wordAt b 0))
  | 0xA3 => some (.ident p)
  | _ => none

/-- The effect of an order on the state. A row that is no order has none. -/
def orderEffect (i : Instr) (s : State) : State :=
  match i with
  | .passPut p a b => orderPassPut p a b s
  | .passBlock p a => orderPassBlock p a s
  | .passUnblock p a => orderPassUnblock p a s
  | .passErase p a => orderPassErase p a s
  | .passClearLearned p => orderPassClearLearned p s
  | .passQuery p a => orderPassQuery p a s
  | .tableStatus p => orderTableStatus p s
  | .readerSet p a b c d e f => orderReaderSet p a b c d e f s
  | .antennaMap p a b c d e => orderAntennaMap p a b c d e s
  | .antennaTune p a => orderAntennaTune p a s
  | .positionStatus p => orderPositionStatus p s
  | .admitSet p a b c d => orderAdmitSet p a b c d s
  | .rulePut p a b c d e f g h i => orderRulePut p a b c d e f g h i s
  | .ruleQuery p a b => orderRuleQuery p a b s
  | .verdictFetch p a => orderVerdictFetch p a s
  | .laneMode p a b => orderLaneMode p a b s
  | .laneStatus p a => orderLaneStatus p a s
  | .laneSet p a b c d e f => orderLaneSet p a b c d e f s
  | .manualGrant p a => orderManualGrant p a s
  | .loadingSet p a b => orderLoadingSet p a b s
  | .loadingStatus p => orderLoadingStatus p s
  | .countsRead p a b c d e => orderCountsRead p a b c d e s
  | .tariffPutPart1 p a b c d e f g h => orderTariffPutPart1 p a b c d e f g h s
  | .tariffPutPart2 p a b => orderTariffPutPart2 p a b s
  | .tariffQuery p a b => orderTariffQuery p a b s
  | .tariffErase p a => orderTariffErase p a s
  | .refundSet p a => orderRefundSet p a s
  | .refundQuote p => orderRefundQuote p s
  | .refundCommit p a => orderRefundCommit p a s
  | .refundRelease p a => orderRefundRelease p a s
  | .refundStatus p => orderRefundStatus p s
  | .journalRead p a => orderJournalRead p a s
  | .journalRemove p a => orderJournalRemove p a s
  | .clockSet p a b c => orderClockSet p a b c s
  | .clockSync p a b c => orderClockSync p a b c s
  | .clockStatus p => orderClockStatus p s
  | .supplyStatus p => orderSupplyStatus p s
  | .noticeFetch p => orderNoticeFetch p s
  | .noticeMask p a => orderNoticeMask p a s
  | .ident p => orderIdent p s
  | _ => s

/-! ## Taking a frame (R167, R169, R170) -/

/-- The body length that a frame states in its second byte. -/
def statedLength (bytes : List Byte) : Nat := (byteAt bytes 1).toNat

/-- A malformed frame (R169). -/
def malformed (bytes : List Byte) (insideByte : Bool) : Bool :=
  insideByte || decide (bytes.length ≤ 1) || decide (56 < statedLength bytes) ||
    bytes.length != statedLength bytes + 3 || bytes.getLast? != some (crc8 bytes.dropLast)

/-- A frame that the port itself refuses: the old reply is replaced, and the refusal is ready with an empty body
(R169, R170, R178; log 14). -/
def State.refuseFrame (s : State) (p : Port) (code : Byte) (res : Result) : State :=
  (s.withPort p fun c => { c with slot := .empty, delivered := false, sent := [] }).replyNow p code .raised res .none

/-- The effect of the order that a checked frame carries. -/
def orderEffectOf (p : Port) (code : Byte) (body : List Byte) (s : State) : State :=
  match orderOf p code body with
  | some i => orderEffect i s
  | none => orderTariffPutOther p s

/-- The check of a frame whose first byte is `code` (R169). -/
def checkFrame (p : Port) (code : Byte) (bytes : List Byte) (insideByte : Bool) (s : State) : State :=
  if malformed bytes insideByte then s.refuseFrame p code .badFrame
  else
    match orderLength code with
    | none => s.refuseFrame p code .unknown
    | some n =>
      if statedLength bytes ≠ n then s.refuseFrame p code .badArg
      else orderEffectOf p code ((bytes.drop 2).take n) s

/-- A transaction that ends, by its bytes (R167, R169, R170). One without a bit has no effect, and one that begins with
0xF0 is a fetch of the whole bytes that followed, cut short or not. A frame that ended before one whole byte has no
first byte to echo: a free value (log 5). -/
def State.takeFrame (s : State) (p : Port) (bytes : List Byte) (insideByte : Bool) : State :=
  if (s.port p).awaitRelease then s.withPort p fun c => { c with awaitRelease := false }
  else
    match bytes, (s.port p).slot with
    | [], .inProgress _ => if insideByte then s.withPort p fun c => { c with lost := true, sent := [] } else s
    | [], _ =>
      if insideByte then
        let s := s.refuseFrame p (Config.echoOfNoByte s.free) .badFrame
        { s with free := s.free + 1 }
      else s
    | code :: rest, slot =>
      if code = 0xF0#8 then s.withPort p (PortCtx.endFetch rest.length)
      else
        match slot with
        | .inProgress _ => s.withPort p fun c => { c with lost := true, sent := [] }
        | .empty => checkFrame p code bytes insideByte s
        | .ready _ => checkFrame p code bytes insideByte s

def execOrderFrame (p : Port) (bytes : List Byte) (insideByte : Bool) (s : State) :
    Host.Outcome State Fault Refusal :=
  .next (s.running fun s => s.takeFrame p bytes insideByte)

end Sys2Proof.Machine
end

