-- ==== Sys2Proof/Machine/Idle.lean ====
section
/-! DEFINITION. What the part does when no command waits: its own deadlines that are reached, and the passing of one
millisecond (R155; log 1, log 16). -/

namespace Sys2Proof.Machine

def dueIf (c : Bool) (i : Instr) : List Instr := if c then [i] else []

/-- The deadlines of a lane that are reached. -/
def State.laneDue (s : State) (n : Lane) : List Instr :=
  dueIf ((s.lane n).enb.due s.time.ms s.debounce) (.beamDebouncedChange n .enb) ++
    dueIf ((s.lane n).exb.due s.time.ms s.debounce) (.beamDebouncedChange n .exb) ++
    dueIf ((s.lane n).passage == .granted && s.windowPassed n) (.grantExpiry n) ++
    dueIf (s.holdDue n) (.holdTimeout n) ++
    dueIf (s.quietDue n) (.repeatQuietDeadline n) ++
    dueIf (s.signalDue n) (.timedSignalEnd n) ++
    dueIf (s.toneDue n) (.tonePatternEnd n)

/-- The events of the part itself that are due, in the order in which an empty queue takes them: withdrawals handed
over, the lanes' deadlines, BOARD, and the deadlines of the part as a whole (log 16). -/
def State.due (s : State) : List Instr :=
  if s.stopped then []
  else
    (s.load.handed.map fun h => .withdrawalTaken h.lane h.reason) ++
      (Lane.all.map s.laneDue).flatten ++
      dueIf (s.load.board.due s.time.ms s.debounce)
        (if s.load.board.raw then .boardPulse else .boardDebouncedInactive) ++
      dueIf s.recoveryDue .recoveryTimer ++
      dueIf (decide (s.time.secEnd ≤ s.time.ms)) .localSecondBoundary ++
      dueIf s.runMinuteDue .runMinute ++
      dueIf s.time.watchDue .pulseWatchExpiry ++
      dueIf s.expiredQuote.isSome .refundHoldExpiry

/-- The greatest value of the millisecond base (R155). -/
def maxMs : Nat := 281474976710655

/-- The millisecond base after one millisecond. At its greatest value the spec gives no next value: a free value other
than 0, since the base does not return to 0 within a start (R155; log 5). -/
def nextMs (free ms : Nat) : Nat := if ms < maxMs then ms + 1 else Config.msAfterLimit free % maxMs + 1

/-- Run seconds when the millisecond base reaches a whole multiple of 1,000; after their greatest value a free value
(R155; log 5). -/
def nextRunSec (free sec : Nat) : Nat := if sec < max32 then sec + 1 else Config.runSecAfterLimit free % (max32 + 1)

/-- One millisecond of the time unit of a running part (R155). -/
def TimeUnit.tick (free : Nat) (t : TimeUnit) : TimeUnit :=
  let ms := nextMs free t.ms
  { t with ms := ms, runSec := if ms % 1000 = 0 then nextRunSec free t.runSec else t.runSec }

/-- Whether a tick takes a free value. -/
def TimeUnit.tickOpen (t : TimeUnit) : Bool := t.ms == maxMs || t.runSec == max32

/-- One more millisecond above the recovery level, up to 200 (R185 step 4). -/
def Supply.tick (u : Supply) : Supply :=
  if u.vmain = .aboveRecovery then { u with stood := min 200 (u.stood + 1) } else u

/-- One millisecond passes. In a stopped part the millisecond base and run seconds do not advance, while the supply
monitor goes on (R155, R183). -/
def State.tick (s : State) : State :=
  let s' := s.withSupply Supply.tick
  if s.stopped then s'
  else
    { s'.withTime (TimeUnit.tick s.free) with free := if s.time.tickOpen then s.free + 1 else s.free }

end Sys2Proof.Machine
end

