-- ==== Sys2Proof/Machine/Dispatch.lean ====
section
/-! DEFINITION. The effect of every command on everything but the queue: one arm per constructor of Instr. -/

namespace Sys2Proof.Machine

def exec (i : Instr) (s : State) : Host.Outcome State Fault Refusal :=
  match i with
  | .orderFrame p bytes insideByte => Sys2Proof.Machine.execOrderFrame p bytes insideByte s
  | .orderFrameDiscarded p => Sys2Proof.Machine.execOrderFrameDiscarded p s
  | .fetchTransaction p clocked => Sys2Proof.Machine.execFetchTransaction p clocked s
  | .passPut p pass state => Sys2Proof.Machine.execPassPut p pass state s
  | .passBlock p pass => Sys2Proof.Machine.execPassBlock p pass s
  | .passUnblock p pass => Sys2Proof.Machine.execPassUnblock p pass s
  | .passErase p pass => Sys2Proof.Machine.execPassErase p pass s
  | .passClearLearned p => Sys2Proof.Machine.execPassClearLearned p s
  | .passQuery p pass => Sys2Proof.Machine.execPassQuery p pass s
  | .tableStatus p => Sys2Proof.Machine.execTableStatus p s
  | .readerSet p attempts threshold coarse fine window target => Sys2Proof.Machine.execReaderSet p attempts threshold coarse fine window target s
  | .antennaMap p p0 p1 p2 p3 ps => Sys2Proof.Machine.execAntennaMap p p0 p1 p2 p3 ps s
  | .antennaTune p antenna => Sys2Proof.Machine.execAntennaTune p antenna s
  | .positionStatus p => Sys2Proof.Machine.execPositionStatus p s
  | .admitSet p resort lockout quiet learnMask => Sys2Proof.Machine.execAdmitSet p resort lockout quiet learnMask s
  | .rulePut p index enabled value mask lanes start stop cls charge => Sys2Proof.Machine.execRulePut p index enabled value mask lanes start stop cls charge s
  | .ruleQuery p selector value => Sys2Proof.Machine.execRuleQuery p selector value s
  | .verdictFetch p lane => Sys2Proof.Machine.execVerdictFetch p lane s
  | .laneMode p lane mode => Sys2Proof.Machine.execLaneMode p lane mode s
  | .laneStatus p lane => Sys2Proof.Machine.execLaneStatus p lane s
  | .laneSet p lane window debounce high low mute => Sys2Proof.Machine.execLaneSet p lane window debounce high low mute s
  | .manualGrant p lane => Sys2Proof.Machine.execManualGrant p lane s
  | .loadingSet p limit hold => Sys2Proof.Machine.execLoadingSet p limit hold s
  | .loadingStatus p => Sys2Proof.Machine.execLoadingStatus p s
  | .countsRead p period part lane start number => Sys2Proof.Machine.execCountsRead p period part lane start number s
  | .tariffPutPart1 p product prices fee minDays unit minRefund claim refundable => Sys2Proof.Machine.execTariffPutPart1 p product prices fee minDays unit minRefund claim refundable s
  | .tariffPutPart2 p product prices => Sys2Proof.Machine.execTariffPutPart2 p product prices s
  | .tariffQuery p selector value => Sys2Proof.Machine.execTariffQuery p selector value s
  | .tariffErase p product => Sys2Proof.Machine.execTariffErase p product s
  | .refundSet p hold => Sys2Proof.Machine.execRefundSet p hold s
  | .refundQuote p => Sys2Proof.Machine.execRefundQuote p s
  | .refundCommit p quote => Sys2Proof.Machine.execRefundCommit p quote s
  | .refundRelease p quote => Sys2Proof.Machine.execRefundRelease p quote s
  | .refundStatus p => Sys2Proof.Machine.execRefundStatus p s
  | .journalRead p count => Sys2Proof.Machine.execJournalRead p count s
  | .journalRemove p seq => Sys2Proof.Machine.execJournalRemove p seq s
  | .clockSet p day time hour => Sys2Proof.Machine.execClockSet p day time hour s
  | .clockSync p mode window arm => Sys2Proof.Machine.execClockSync p mode window arm s
  | .clockStatus p => Sys2Proof.Machine.execClockStatus p s
  | .supplyStatus p => Sys2Proof.Machine.execSupplyStatus p s
  | .noticeFetch p => Sys2Proof.Machine.execNoticeFetch p s
  | .noticeMask p mask => Sys2Proof.Machine.execNoticeMask p mask s
  | .ident p => Sys2Proof.Machine.execIdent p s
  | .readVisitCompletion r => Sys2Proof.Machine.execReadVisitCompletion r s
  | .stampAttemptCompletion r => Sys2Proof.Machine.execStampAttemptCompletion r s
  | .tuneCompletion i4 i12 => Sys2Proof.Machine.execTuneCompletion i4 i12 s
  | .beamRawChange n b broken => Sys2Proof.Machine.execBeamRawChange n b broken s
  | .beamDebouncedChange n b => Sys2Proof.Machine.execBeamDebouncedChange n b s
  | .boardRawChange active => Sys2Proof.Machine.execBoardRawChange active s
  | .boardPulse => Sys2Proof.Machine.execBoardPulse s
  | .liftStop active => Sys2Proof.Machine.execLiftStop active s
  | .grantExpiry n => Sys2Proof.Machine.execGrantExpiry n s
  | .holdTimeout n => Sys2Proof.Machine.execHoldTimeout n s
  | .repeatQuietDeadline n => Sys2Proof.Machine.execRepeatQuietDeadline n s
  | .timedSignalEnd n => Sys2Proof.Machine.execTimedSignalEnd n s
  | .tonePatternEnd n => Sys2Proof.Machine.execTonePatternEnd n s
  | .refundHoldExpiry => Sys2Proof.Machine.execRefundHoldExpiry s
  | .localSecondBoundary => Sys2Proof.Machine.execLocalSecondBoundary s
  | .runMinute => Sys2Proof.Machine.execRunMinute s
  | .stpPulse => Sys2Proof.Machine.execStpPulse s
  | .pulseWatchExpiry => Sys2Proof.Machine.execPulseWatchExpiry s
  | .vmainChange band => Sys2Proof.Machine.execVmainChange band s
  | .recoveryTimer => Sys2Proof.Machine.execRecoveryTimer s
  | .reset => Sys2Proof.Machine.execReset s
  | .startUp cause selected => Sys2Proof.Machine.execStartUp cause selected s
  | .withdrawalTaken n r => Sys2Proof.Machine.execWithdrawalTaken n r s
  | .boardDebouncedInactive => Sys2Proof.Machine.execBoardDebouncedInactive s
  | .vbakFailure => Sys2Proof.Machine.execVbakFailure s
  | .fetchStatusFixed p => Sys2Proof.Machine.execFetchStatusFixed p s

end Sys2Proof.Machine
end

