-- ==== Sys2Proof/Safety.lean ====
section
/-! DEFINITION. What statements about the part speak of: a port that can take an order, the state after an order is
answered, and the laws that hold across blocks (00_scope.md 7). -/

namespace Sys2Proof.Machine

/-! ## Orders -/

/-- The port can take an order: the part is not stopped, its select has been released since the start-up, and no long
order is in progress on it (R167, R170, R183). -/
def State.portOpen (s : State) (p : Port) : Bool :=
  !s.stopped && !(s.port p).awaitRelease &&
    match (s.port p).slot with
    | .inProgress _ => false
    | .empty => true
    | .ready _ => true

/-- The port has begun to take an order: the old reply is gone, the delivered mark is clear (R170 step 1), and the data
output has carried 0x00 alone (R167). -/
def State.taken (s : State) (p : Port) : State :=
  s.withPort p fun c => { c with slot := .empty, delivered := false, sent := [] }

/-- The order has been answered: its reply is ready with LOST clear, and ORDER_DONE is raised (R170, R173, R178). -/
def State.answered (s : State) (p : Port) (code : Byte) (res : Result) (body : Body) : State :=
  s.withPort p fun c =>
    { c with slot := .ready { code := code, result := res, lost := false, body := body }
             notices := c.notices ||| orderDoneBit p }

/-- The order has been answered without ORDER_DONE, as NOTICE FETCH and NOTICE MASK are (R178). -/
def State.answeredSilently (s : State) (p : Port) (code : Byte) (res : Result) (body : Body) : State :=
  s.withPort p fun c => { c with slot := .ready { code := code, result := res, lost := false, body := body } }

/-- The order is in progress: a long order that its block has not yet completed (R170 step 5). -/
def State.inProgress (s : State) (p : Port) (code : Byte) : State := s.withPort p fun c => { c with slot := .inProgress code }

/-! ## Kinds of commands -/

/-- Commands that are pins of the part and not events or transactions: they move their pin while the part is stopped. -/
def isPin : Instr → Bool
  | .beamRawChange _ _ _ => true
  | .boardRawChange _ => true
  | .liftStop _ => true
  | .vmainChange _ => true
  | .reset => true
  | .startUp _ _ => true
  | .vbakFailure => true
  | _ => false

/-- The orders that no lane port may send (R171). -/
def stationRow : Instr → Bool
  | .passPut _ _ _ | .passBlock _ _ | .passUnblock _ _ | .passErase _ _ | .passClearLearned _ | .tableStatus _
  | .readerSet _ _ _ _ _ _ _ | .antennaMap _ _ _ _ _ _ | .antennaTune _ _ | .positionStatus _ | .admitSet _ _ _ _ _
  | .rulePut _ _ _ _ _ _ _ _ _ _ | .ruleQuery _ _ _ | .laneSet _ _ _ _ _ _ _ | .loadingSet _ _ _ | .loadingStatus _
  | .tariffPutPart1 _ _ _ _ _ _ _ _ _ | .tariffPutPart2 _ _ _ | .tariffQuery _ _ _ | .tariffErase _ _ | .refundSet _ _
  | .refundQuote _ | .refundCommit _ _ | .refundRelease _ _ | .refundStatus _ | .journalRead _ _ | .journalRemove _ _
  | .clockSet _ _ _ _ | .clockSync _ _ _ _ | .clockStatus _ | .supplyStatus _ => true
  | _ => false

/-- The lane byte of the orders that a lane port may send for its own lane alone (R171). -/
def namedLane : Instr → Option Byte
  | .verdictFetch _ lane => some lane
  | .laneMode _ lane _ => some lane
  | .laneStatus _ lane => some lane
  | .manualGrant _ lane => some lane
  | _ => none

/-! ## The pass table (R2, R4, R5) -/

/-- The table's one canonical form: slots rising and below 4,096, every record in the bucket of its own pass number, no
pass number 0, and at most one record for a pass number. -/
def TableForm (t : PassTable) : Prop :=
  (t.map (·.1)).Pairwise (· < ·) ∧
    (∀ e ∈ t, e.1 < 4096 ∧ e.1 / 4 = bucketOf e.2.pass ∧ e.2.pass ≠ 0) ∧
    (t.map (·.2.pass)).Nodup

/-- Days used of a record: never above the days bought, and 0 without a ticket group (R2). -/
def UsageBound (r : PassRecord) : Prop :=
  match r.ticket with
  | some t => r.used ≤ t.days
  | none => r.used = 0

/-! ## Lanes and release queue (R87, R105, R110) -/

/-- A lane in GRANTED or ENTERING. -/
def Passage.isLive : Passage → Bool
  | .granted => true
  | .entering => true
  | .idle => false
  | .queued => false

/-- The number of lanes in GRANTED or ENTERING. -/
def State.liveLanes (s : State) : Nat := (Lane.all.filter fun n => (s.lane n).passage.isLive).length

/-- The live-grant count is the number of lanes in GRANTED or ENTERING (R105); the queue holds at most one entry for a
lane, and a lane has one exactly when it is QUEUED (R110); a lane holds a context exactly when it is not IDLE (R87). -/
def State.releaseAgrees (s : State) : Prop :=
  s.load.live = s.liveLanes ∧
    (s.load.queue.map (·.lane)).Nodup ∧
    (∀ n, n ∈ s.load.queue.map (·.lane) ↔ (s.lane n).passage = .queued) ∧
    ∀ n, (s.lane n).ctx.isSome = true ↔ (s.lane n).passage ≠ .idle

/-- The pass of the refund context, from the taking of the card answer on (R67, R136). -/
def RefundCtx.pass (c : RefundCtx) : Option PassNo :=
  match c with
  | .idle => none
  | .reading none => none
  | .reading (some r) => some r.pass
  | .quoted q => some q.pass
  | .committing q _ => some q.pass

/-- No pass is held by two lane contexts, and none held by a lane context is the refund context's (R87). -/
def State.passesApart (s : State) : Prop :=
  (∀ n m p, n ≠ m → s.ctxPass n = some p → s.ctxPass m ≠ some p) ∧
    ∀ n p, s.ctxPass n = some p → s.refund.ctx.pass ≠ some p

/-! ## Counts (R123) -/

/-- The four kinds of forward passages of a lane. -/
def LaneCounts.forward (c : LaneCounts) : Nat := c.admitted + c.manual + c.free + c.intrusions

/-- The lift's total passages are the sum of the lanes' forward passages. -/
def CountSet.agrees (c : CountSet) : Prop :=
  c.lift.total = (c.lanes.get .l0).forward + (c.lanes.get .l1).forward + (c.lanes.get .l2).forward +
    (c.lanes.get .l3).forward

/-- R123 in both count sets. -/
def Counts.agree (c : Counts) : Prop := c.current.agrees ∧ ∀ p ∈ c.previous, p.agrees

/-! ## Refunds (R133, R148) -/

/-- The pass that the refund context holds, in QUOTED and COMMITTING (R133). -/
def RefundCtx.heldPass (c : RefundCtx) : Option PassNo :=
  match c with
  | .idle => none
  | .reading _ => none
  | .quoted q => some q.pass
  | .committing q _ => some q.pass

/-- A record is HELD exactly while the refund context holds its pass, and a pass that the context holds has a record
(R15, R133). -/
def State.holdsAgree (s : State) : Prop :=
  (∀ e ∈ s.table, recHeld e.2.state = true ↔ s.refund.ctx.heldPass = some e.2.pass) ∧
    ∀ p, s.refund.ctx.heldPass = some p → (s.record p).isSome = true

/-- What stands in the service slot is what the refund context waits for (R37, R133). -/
def State.slotAgrees (s : State) : Prop :=
  match s.reader.slot, s.refund.ctx with
  | none, .idle => True
  | none, .quoted _ => True
  | some (.read _), .reading none => True
  | some (.stamp r), .reading (some d) => r.requester = .writeBack ∧ r.pass = d.pass ∧ d.quote.isSome = true
  | some (.stamp r), .committing q _ => r.requester = .commit ∧ r.pass = q.pass
  | _, _ => False

/-- Journal sequences run consecutively, modulo 65,536, up to the next sequence (R148). -/
def consecutive : List JournalEntry → Nat → Prop
  | [], _ => True
  | [e], next => next = (e.seq + 1) % 65536
  | e :: f :: es, next => f.seq = (e.seq + 1) % 65536 ∧ consecutive (f :: es) next

/-- The journal's law: at most 48 entries with consecutive sequences, and a PENDING entry only while the context is
COMMITTING: the newest one, with the context's pending sequence (R148). -/
def RefundEngine.journalAgrees (r : RefundEngine) : Prop :=
  r.journal.length ≤ 48 ∧ r.nextSeq < 65536 ∧ (∀ e ∈ r.journal, e.seq < 65536) ∧ consecutive r.journal r.nextSeq ∧
    match r.ctx with
    | .committing _ n =>
      ∃ older e, r.journal = older ++ [e] ∧ e.seq = n ∧ e.status = .pending ∧ ∀ x ∈ older, x.status ≠ .pending
    | .idle => ∀ x ∈ r.journal, x.status ≠ .pending
    | .reading _ => ∀ x ∈ r.journal, x.status ≠ .pending
    | .quoted _ => ∀ x ∈ r.journal, x.status ≠ .pending

/-- The refund laws together, over a table in its form. -/
def State.refundAgrees (s : State) : Prop :=
  TableForm s.table ∧ s.slotAgrees ∧ s.holdsAgree ∧ s.refund.journalAgrees

/-! ## LIVE pins (R12) -/

/-- A record carries a LIVE pin naming a lane exactly while that lane's context holds its pass. -/
def State.pinsAgree (s : State) : Prop :=
  ∀ e ∈ s.table, ∀ n, e.2.live = some n ↔ s.ctxPass n = some e.2.pass

/-- No record of a pass that a lane context holds is HELD or REFUNDED (R87). -/
def State.ridersClear (s : State) : Prop :=
  ∀ n p r, s.ctxPass n = some p → s.record p = some r → r.state = .active ∨ r.state = .blocked

/-- The laws that tie records to lane contexts: the table's form, the release laws, passes apart, the pins, and riders
clear of refunds. -/
def State.admissionAgrees (s : State) : Prop :=
  TableForm s.table ∧ s.releaseAgrees ∧ s.passesApart ∧ s.pinsAgree ∧ s.ridersClear

/-! ## Lamps, queue order, ranges -/

/-- Every lane shows the lamp state of Table 4-3. -/
def State.lampsAgree (s : State) : Prop := ∀ n, (s.lane n).lamp = (s.lane n).lampState

/-- The release queue stands in service order: no entry before one of a lower class number (R110). -/
def State.queueInOrder (s : State) : Prop := s.load.queue.Pairwise fun a b => a.cls ≤ b.cls

/-- In a running part the queue waits only while room is absent (R111). The occupancy limit lies in its range, so a full
occupancy leaves no room. -/
def State.queueWaits (s : State) : Prop :=
  s.load.limit ≤ 60 ∧ (s.stopped = false → s.load.queue = [] ∨ s.room = false)

/-- A part whose VMAIN is below the retention threshold is DOWN (R181). -/
def State.supplyAgrees (s : State) : Prop := s.supply.vmain = .belowRetention → s.supply.state = .down

/-- The bounds of what the part counts up and down: occupancy, the ring of bins, drive levels, and the fault counts and
collide runs of the positions (R31, R35, R49, R52, R104, R126). The tune target is never 0. -/
def State.inBounds (s : State) : Prop :=
  s.load.occupancy ≤ 255 ∧ s.counts.ring.length ≤ 60 ∧ 0 < s.reader.settings.target ∧
    (∀ a t o, s.reader.visit = some (.tune a t o) → 0 < t) ∧
    (∀ a, 1 ≤ s.reader.levels.get a ∧ s.reader.levels.get a ≤ 15) ∧
    ∀ p, (s.reader.pos.get p).faultCount ≤ 31 ∧ (s.reader.pos.get p).collideRun ≤ 2

end Sys2Proof.Machine
end

