-- ==== Sys2Proof/Certificates/Slice0/Obligations.lean ====
section
/-! DEFINITION. The statements about the part, chapter by chapter: what each command does, and the laws that every step
keeps. `State.taken`, `State.answered` and `State.inProgress` are the port's part of an order (Sys2Proof/Safety.lean). -/

section

open Sys2Proof Sys2Proof.Machine

/-! ## The machine as a whole -/

/-- A step takes the command at the front of the queue and runs it with the queue's rest. On an empty queue a step
runs the first deadline that is reached, and lets one millisecond pass where none is; below the counts' greatest
values that millisecond advances the base by one, and run seconds by one at each whole multiple of 1,000, and a
stopped part's counts stand (R155, R183). The queue, and what a step does on an empty one, are the model's choice (log
1). -/
def Obligations.StepRunsTheFrontCommand : Prop :=
  (∀ (c : Instr) (rest : List Instr) (s : State), step { s with pending := c :: rest } = exec c { s with pending := rest }) ∧
  ∀ s : State, s.pending = [] →
    (∀ c cs, s.due = c :: cs → step s = exec c s) ∧
      (s.due = [] → step s = .next s.tick) ∧
      (s.stopped = true → s.tick.time = s.time) ∧
      (s.stopped = false → s.time.ms < maxMs → s.time.runSec < max32 →
        s.tick.time =
          { s.time with ms := s.time.ms + 1,
                        runSec := if (s.time.ms + 1) % 1000 = 0 then s.time.runSec + 1 else s.time.runSec })

/-- What the spec says of the part after a cold start: an empty table, the default map, levels and settings of the
reader, the default settings and lane rules of the admission unit, lanes CLOSED and IDLE with their default settings,
an empty queue, zero counts, no tariff, an empty journal, the clock UNSET, and START pending on the station port with
kind COLD. That reset is this cold start, with the supply in RUN, is the model's choice (log 2). -/
def Obligations.ResetIsTheColdStart : Prop :=
  State.reset.table = [] ∧ State.reset.reader.map = coldMap ∧
    (∀ a, State.reset.reader.levels.get a = 8 ∧ State.reset.reader.tunes.get a = none) ∧
    State.reset.reader.settings =
      { attempts := 3, threshold := 8, coarse := 6, fine := 0, window := 3, target := 250 } ∧
    State.reset.reader.pointer = .l3 ∧ State.reset.reader.visit = none ∧
    (∀ i : Fin 16, State.reset.adm.rules[i.val] =
      if i.val = 0 then
        { enabled := true, value := 0, mask := 0, lanes := .const true, start := 0, stop := 0, cls := 3, charge := true }
      else
        { enabled := false, value := 0, mask := 0, lanes := .const false, start := 0, stop := 0, cls := 0,
          charge := false }) ∧
    State.reset.adm.settings = { resort := 0, lockout := 180, quiet := 20, learnMask := .const true } ∧
    (∀ n, (State.reset.lane n).mode = .closed ∧ (State.reset.lane n).passage = .idle ∧
      (State.reset.lane n).tracker = .clear ∧ (State.reset.lane n).ctx = none ∧
      (State.reset.lane n).settings = { window := 80, high := .khz24, low := .khz10, mute := false } ∧
      State.reset.adm.verdicts.get n = none ∧ State.reset.adm.quiet.get n = none) ∧
    State.reset.debounce = 30 ∧ State.reset.load.limit = 24 ∧ State.reset.load.hold = 20 ∧
    State.reset.load.occupancy = 0 ∧ State.reset.load.queue = [] ∧ State.reset.counts = .cold ∧
    State.reset.refund.tariffs = [] ∧ State.reset.refund.journal = [] ∧ State.reset.refund.nextSeq = 0 ∧
    State.reset.refund.hold = 180 ∧ State.reset.refund.ctx = .idle ∧
    State.reset.time.tod = none ∧ State.reset.time.lastDay = 0 ∧ State.reset.time.boundaryHour = 3 ∧
    State.reset.time.mode = .off ∧ State.reset.time.jitter = 20 ∧ State.reset.time.ms = 0 ∧
    State.reset.time.runSec = 0 ∧
    (∀ n, State.reset.port (.lp n) = .start) ∧
    State.reset.port .sp = { PortCtx.start with notices := StationNotice.start.mask } ∧
    State.reset.ports.startKind = some .cold ∧ State.reset.supply.startKind = .cold ∧
    State.reset.supply.state = .run

/-- Every command has a next state in every state, and leaves the queue alone. That an event command outside its
moment still has a next state, in which nothing has changed, and that the queue of commands is no part of any effect,
are the model's choices (logs 1 and 3). -/
def Obligations.EveryCommandCompletes : Prop :=
  ∀ (c : Instr) (s : State), ∃ t : State, exec c s = .next t ∧ t.pending = s.pending

/-- While the part is stopped, its lines are inactive, no antenna is driven, every data output carries 0x00, and every
command that is not a change of a pin or a start-up has no effect (R183). That a pin still moves in a stopped part is
the model's reading (log 19). -/
def Obligations.StoppedPartTakesNothing : Prop :=
  ∀ s : State, s.stopped = true →
    (∀ c : Instr, isPin c = false → exec c s = .next s) ∧
      (∀ n, s.rel n = false ∧ s.greenLamp n = false ∧ s.redLamp n = false ∧ s.toneLine n = none) ∧
      s.drivenAntenna = none ∧ s.airBytes = [] ∧ ∀ p, s.atn p = false ∧ ∀ i, s.dataByte p i = 0

/-! ## Order ports (chapter 9) -/

/-- An order frame that ends on a port is the order it carries: for every order and every value of its operands, the
frame that the order's code, body and check make has the effect of the order's own row on that port, in every state of
the port and of the part (R169, R170, R190, R191). That an order's row means its frame, taken whole on its port, is
the model's reading (log 4). -/
def Obligations.FrameIsTheOrderItCarries : Prop :=
  ∀ (i : Instr) (p : Port) (code : Byte) (body : List Byte) (s : State),
    orderBody i = some (code, body) → orderPort i = some p → exec (.orderFrame p (frameOf code body) false) s = exec i s

/-- On an open port a frame whose first byte is whole and that ends inside a byte, is one byte long, states a length
above 56 or another length than it has, or has another check, is answered BAD_FRAME; a code of no order is answered
UNKNOWN, another body length than the order's BAD_ARG; each with the first byte as echo and an empty body (R169). A
frame that ends while the reply slot is in progress is discarded and the lost mark is set, and nothing else changes
but the data output, which has carried 0x00; the command ORDER FRAME DISCARDED says the same (R167, R170, R173). That
such a refusal raises ORDER_DONE whatever its first byte, 0xA1 and 0xA2 included, is the model's reading of R178 (log
14); the echo of a frame without a whole byte is open (log 5) and left out here. -/
def Obligations.FramesRefusedOrDiscarded : Prop :=
  (∀ (p : Port) (code : Byte) (rest : List Byte) (insideByte : Bool) (s : State),
     s.portOpen p = true → code ≠ 0xF0 →
       let bytes := code :: rest
       let n := (rest.headD 0).toNat
       let bad := insideByte = true ∨ rest = [] ∨ 56 < n ∨ bytes.length ≠ n + 3 ∨
         bytes.getLast? ≠ some (crc8 bytes.dropLast)
       (bad → exec (.orderFrame p bytes insideByte) s = .next ((s.taken p).answered p code .badFrame .none)) ∧
         (¬bad → orderLength code = none →
           exec (.orderFrame p bytes insideByte) s = .next ((s.taken p).answered p code .unknown .none)) ∧
         ∀ k, ¬bad → orderLength code = some k → n ≠ k →
           exec (.orderFrame p bytes insideByte) s = .next ((s.taken p).answered p code .badArg .none)) ∧
  ∀ (p : Port) (inside : Byte) (bytes : List Byte) (insideByte : Bool) (s : State),
    s.stopped = false → (s.port p).awaitRelease = false → (s.port p).slot = .inProgress inside →
      exec (.orderFrameDiscarded p) s = .next (s.withPort p fun c => { c with lost := true, sent := [] }) ∧
        (bytes ≠ [] → bytes.head? ≠ some 0xF0 →
          exec (.orderFrame p bytes insideByte) s = .next (s.withPort p fun c => { c with lost := true, sent := [] }))

/-- Orders outside the rights of their port are answered DENIED with an empty body, and change nothing else: a station
order from a lane port, a lane order from a lane port for another lane, the lift's part of COUNTS READ or another
lane's from a lane port, and MANUAL GRANT from the station port (R171). -/
def Obligations.OrdersWithoutRightsAreDenied : Prop :=
  ∀ (i : Instr) (p : Port) (code : Byte) (body : List Byte) (s : State),
    orderBody i = some (code, body) → orderPort i = some p → s.portOpen p = true →
      let denied := exec i s = .next ((s.taken p).answered p code .denied .none)
      (∀ n, p = .lp n → stationRow i = true → denied) ∧
        (∀ n m lane, p = .lp n → namedLane i = some lane → laneOf lane = some m → m ≠ n → denied) ∧
        (∀ n period part lane start number, p = .lp n → i = .countsRead p period part lane start number →
          part = 2 ∨ part = 3 ∨ (part.toNat ≤ 1 ∧ ∃ m, laneOf lane = some m ∧ m ≠ n) → denied) ∧
        ∀ lane, p = .sp → i = .manualGrant p lane → denied

/-- The start of a fetch fixes what it sends: nothing where the slot is empty or in progress, else the ready reply
with REPEAT from the delivered mark. Its end puts the reply's bytes and then zeros on the data output, sets the
delivered mark where the whole reply, check byte included, was sent, and leaves the reply in the slot. A reply's bytes
are the marker, code echo, result code, flags, body length and the body's bytes, and the check over all of them
(R172). A port that waits for its select to be released takes no fetch, and the end of one releases it (R167). That a
transaction without a status fixed before fixes it itself is the model's choice (log 21). -/
def Obligations.FetchSendsTheReadyReply : Prop :=
  (∀ (p : Port) (n : Nat) (s : State), s.stopped = false → (s.port p).awaitRelease = false →
     let ends := fun bytes : List Byte =>
       exec (.fetchTransaction p n) s =
         .next (s.withPort p fun c =>
           { c with fetch := none, sent := bytes.take n ++ List.replicate (n - bytes.length) 0,
                    delivered := c.delivered || (decide (bytes ≠ []) && decide (bytes.length ≤ n)) })
     (∀ r, (s.port p).slot = .ready r →
       exec (.fetchStatusFixed p) s =
         .next (s.withPort p fun c => { c with fetch := some (r.bytes (s.port p).delivered) })) ∧
       ((∀ r, (s.port p).slot ≠ .ready r) →
         exec (.fetchStatusFixed p) s = .next (s.withPort p fun c => { c with fetch := some [] })) ∧
       (∀ bytes, (s.port p).fetch = some bytes → ends bytes) ∧
       ((s.port p).fetch = none →
         (∀ r, (s.port p).slot = .ready r → ends (r.bytes (s.port p).delivered)) ∧
           ((∀ r, (s.port p).slot ≠ .ready r) → ends []))) ∧
  (∀ (p : Port) (n : Nat) (s : State), s.stopped = false → (s.port p).awaitRelease = true →
     exec (.fetchStatusFixed p) s = .next s ∧
       exec (.fetchTransaction p n) s = .next (s.withPort p fun c => { c with awaitRelease := false })) ∧
  ∀ (r : Reply) (again : Bool),
    let head := [0x5A, r.code, r.result.code, BitVec.ofNat 8 ((if r.lost then 1 else 0) + if again then 2 else 0),
      BitVec.ofNat 8 r.body.bytes.length] ++ r.body.bytes
    r.bytes again = head ++ [crc8 head] ∧
      (r.result.code.toNat = match r.result with
        | .ok => 0x00 | .busy => 0x01 | .badFrame => 0x02 | .unknown => 0x03 | .denied => 0x04 | .badArg => 0x05
        | .notFound => 0x06 | .pinned => 0x07 | .tableFull => 0x08 | .state => 0x09 | .noCard => 0x0A
        | .cardMismatch => 0x0B | .noTariff => 0x0C | .notRefundable => 0x0D | .journalFull => 0x0E
        | .expired => 0x0F | .lowSupply => 0x10 | .unreadable => 0x11 | .foreign => 0x12 | .refunded => 0x13
        | .blocked => 0x14 | .inUse => 0x15)

/-- NOTICE FETCH returns the notice set, with the start kind on the station port, makes every notice not pending and
removes the start kind; JOURNAL becomes pending again on the station port while the journal holds entries. It raises
no ORDER_DONE (R152, R176, R178). -/
def Obligations.NoticeFetchClearsTheNotices : Prop :=
  ∀ s : State,
    (∀ n, s.portOpen (.lp n) = true →
      exec (.noticeFetch (.lp n)) s =
        .next (((s.taken (.lp n)).withPort (.lp n) fun c => { c with notices := 0 }).answeredSilently (.lp n) 0xA1 .ok
          (.notices (s.port (.lp n)).notices none))) ∧
      (s.portOpen .sp = true →
        ∃ t : State, exec (.noticeFetch .sp) s =
            .next (t.answeredSilently .sp 0xA1 .ok (.notices (s.port .sp).notices (some s.ports.startKind))) ∧
          t.ports.startKind = none ∧
          (t.port .sp).notices = (if s.refund.journal = [] then 0 else StationNotice.journal.mask) ∧
          (∀ n, t.port (.lp n) = s.port (.lp n)) ∧ { t with ports := s.ports } = s)

/-- A mask outside the port's list is answered BAD_ARG with the mask unchanged. Any other is taken, clears no notice,
and is answered OK with the mask and the notice set, and ATN follows it at once: R177 whole. -/
def Obligations.NoticeMaskTakesThePortsNotices : Prop :=
  ∀ (p : Port) (mask : BitVec 16) (s : State), s.portOpen p = true →
    (mask &&& ~~~(portNotices p) ≠ 0 →
      exec (.noticeMask p mask) s = .next ((s.taken p).answeredSilently p 0xA2 .badArg .none)) ∧
      (mask &&& ~~~(portNotices p) = 0 →
        ∃ t : State, exec (.noticeMask p mask) s = .next t ∧
          t = ((s.taken p).withPort p fun c => { c with mask := mask }).answeredSilently p 0xA2 .ok
            (.noticeMask mask (s.port p).notices) ∧
          (t.port p).notices = (s.port p).notices ∧
          (t.atn p = true ↔ (s.port p).notices &&& ~~~mask ≠ 0))

/-- Every port answers IDENT with OK, the fixed vendor code, part code and silicon revision and the port's identity,
and nothing changes but the port's reply slot, its delivered mark and its notices: R179 whole. -/
def Obligations.IdentNamesThePort : Prop :=
  ∀ (p : Port) (s : State), s.portOpen p = true →
    exec (.ident p) s = .next ((s.taken p).answered p 0xA3 .ok (.ident p)) ∧
      (Body.ident p).bytes =
        [0x0C, 0x4A, 0x04, 0x40, 0x01,
          match p with
          | .lp .l0 => 0
          | .lp .l1 => 1
          | .lp .l2 => 2
          | .lp .l3 => 3
          | .sp => 4] ∧
      ∀ q, q ≠ p → ((s.taken p).answered p 0xA3 .ok (.ident p)).port q = s.port q

/-! ## Pass table (chapter 1) -/

/-- The bucket of g3 × 2^30 + g2 × 2^20 + g1 × 2^10 + g0 is the exclusive-OR of the four groups, and a lookup finds
only entries of that bucket and that pass number (R4, R6). A new record of a pass goes to the lowest-numbered free way
of its bucket; with none free, to the way of the LEARNED unpinned record with the smallest last seen, the lowest way
among equals; nowhere without such a record (R5, R8, R11). -/
def Obligations.RecordsArePlacedInTheirBucket : Prop :=
  ((∀ g0 g1 g2 g3 : Nat, g0 < 1024 → g1 < 1024 → g2 < 1024 → g3 < 1024 →
     bucketOf (BitVec.ofNat 40 (g3 * 2 ^ 30 + g2 * 2 ^ 20 + g1 * 2 ^ 10 + g0)) = g3 ^^^ g2 ^^^ g1 ^^^ g0) ∧
     ∀ (t : PassTable) (p : PassNo) (k : Nat) (r : PassRecord), findPass t p = some (k, r) →
       (k, r) ∈ t ∧ k / 4 = bucketOf p ∧ r.pass = p) ∧
  ∀ (t : PassTable) (p : PassNo), TableForm t →
    let free := fun k : Nat => k / 4 = bucketOf p ∧ ∀ e ∈ t, e.1 ≠ k
    let loser := fun e : Nat × PassRecord => e ∈ t ∧ e.1 / 4 = bucketOf p ∧ e.2.origin = .learned ∧ e.2.pinned = false
    (∀ k evicted, placeFor t p = some (k, evicted) →
      (free k ∧ evicted = 0 ∧ ∀ j, free j → k ≤ j) ∨
        ((∀ j, ¬free j) ∧ ∃ e, loser e ∧ e.1 = k ∧ e.2.pass = evicted ∧
          ∀ x, loser x → e.2.lastSeen < x.2.lastSeen ∨ (e.2.lastSeen = x.2.lastSeen ∧ k ≤ x.1))) ∧
      (placeFor t p = none ↔ (∀ j, ¬free j) ∧ ∀ e, ¬loser e)

/-- PASS PUT and PASS BLOCK of an absent pass create a RESIDENT record in the place of R5, with the LIVE pin of the
lane context that holds the pass, and reply with bucket, way and the evicted pass; without a place they are answered
TABLE_FULL, and PASS UNBLOCK is NOT_FOUND. Pass number 0 in any of the three, and a state of PASS PUT that is neither
ACTIVE nor BLOCKED, are BAD_ARG. An edit of a present pass sets its state, or its prior state where it is HELD, makes
it RESIDENT and replies with its place; a REFUNDED record is answered STATE and nothing changes. A block hands the
loading monitor a withdrawal with reason BLOCKED where a QUEUED lane context holds the pass, and no other edit hands
one over (R14, R21, R22, R23). -/
def Obligations.StationEditsSetTheState : Prop :=
  (∀ (q : PassNo) (b : Byte) (s : State), s.portOpen .sp = true →
     let refused := fun code => Host.Outcome.next ((s.taken .sp).answered .sp code .badArg .none)
     (q = 0 ∨ 1 < b.toNat → exec (.passPut .sp q b) s = refused 0x11) ∧ exec (.passBlock .sp 0) s = refused 0x12 ∧
       exec (.passUnblock .sp 0) s = refused 0x13) ∧
  (∀ (p : PassNo) (st : Standing) (s : State), s.portOpen .sp = true → p ≠ 0 → findPass s.table p = none →
     let done := fun code t body => Host.Outcome.next (State.answered t .sp code .ok body)
     let refused := fun code res => Host.Outcome.next ((s.taken .sp).answered .sp code res .none)
     (∀ k evicted, placeFor s.table p = some (k, evicted) →
       let r : PassRecord :=
         { pass := p, origin := .resident, state := st.toState, ticket := none, used := 0, lastUse := none,
           consumedHere := none, rides := none, lastPassage := none, behind := false, live := s.holderOf p,
           lastSeen := s.time.runSec }
       let t := (((s.taken .sp).withTable fun t => putSlot t k r).handBlocked p st)
       exec (.passPut .sp p st.code) s = done 0x11 t (.passEdit true (k / 4) (k % 4) evicted) ∧
         (st = .blocked → exec (.passBlock .sp p) s = done 0x12 t (.passEdit true (k / 4) (k % 4) evicted))) ∧
       (placeFor s.table p = none →
         exec (.passPut .sp p st.code) s = refused 0x11 .tableFull ∧ exec (.passBlock .sp p) s = refused 0x12 .tableFull) ∧
       exec (.passUnblock .sp p) s = refused 0x13 .notFound) ∧
  (∀ (p : PassNo) (k : Nat) (r : PassRecord) (st : Standing) (s : State),
     s.portOpen .sp = true → p ≠ 0 → findPass s.table p = some (k, r) →
       let edited := fun st : Standing =>
         ((s.taken .sp).updateRecord p fun x =>
           { x with origin := .resident
                    state := if recHeld r.state then .held st else st.toState }).handBlocked p st
       let body := Body.passEdit false (k / 4) (k % 4) 0
       let refused := fun code => Host.Outcome.next ((s.taken .sp).answered .sp code .state .none)
       (r.state ≠ .refunded →
         exec (.passPut .sp p st.code) s = .next ((edited st).answered .sp 0x11 .ok body) ∧
           exec (.passBlock .sp p) s = .next ((edited .blocked).answered .sp 0x12 .ok body) ∧
           exec (.passUnblock .sp p) s = .next ((edited .active).answered .sp 0x13 .ok body)) ∧
         (r.state = .refunded →
           exec (.passPut .sp p st.code) s = refused 0x11 ∧ exec (.passBlock .sp p) s = refused 0x12 ∧
             exec (.passUnblock .sp p) s = refused 0x13)) ∧
  ∀ (p : PassNo) (s : State),
    s.handBlocked p .active = s ∧
      (∀ n, s.holderOf p = some n → (s.lane n).passage = .queued →
        s.handBlocked p .blocked =
          s.withLoad fun l => { l with handed := l.handed ++ [{ lane := n, reason := .blocked }] }) ∧
      (∀ n, s.holderOf p = some n → (s.lane n).passage ≠ .queued → s.handBlocked p .blocked = s) ∧
      (s.holderOf p = none → s.handBlocked p .blocked = s)

/-- An absent pass is answered NOT_FOUND, a pinned record PINNED, with nothing changed; any other record is removed
with all its fields and its way becomes free, the other entries stay, and a later lookup finds the pass absent: R24
whole. Pass number 0 is BAD_ARG and changes nothing (section 1.7). -/
def Obligations.PassEraseRemovesUnpinned : Prop :=
  (∀ s : State, s.portOpen .sp = true →
     exec (.passErase .sp 0) s = .next ((s.taken .sp).answered .sp 0x14 .badArg .none)) ∧
  ∀ (p : PassNo) (s : State), s.portOpen .sp = true → p ≠ 0 →
    (findPass s.table p = none →
      exec (.passErase .sp p) s = .next ((s.taken .sp).answered .sp 0x14 .notFound .none)) ∧
      (∀ k r, findPass s.table p = some (k, r) → r.pinned = true →
        exec (.passErase .sp p) s = .next ((s.taken .sp).answered .sp 0x14 .pinned .none)) ∧
      ∀ k r, findPass s.table p = some (k, r) → r.pinned = false →
        ∃ t : State, exec (.passErase .sp p) s = .next (t.answered .sp 0x14 .ok .none) ∧
          t = (s.taken .sp).withTable (fun tb => tb.filter fun e => !isRecordOf p e) ∧ findPass t.table p = none ∧
          (TableForm s.table → (∀ e ∈ t.table, e.1 ≠ k) ∧ ∀ e ∈ s.table, e.1 ≠ k → e ∈ t.table)

/-- What stays are exactly the RESIDENT and the pinned records, in one action over all buckets, and the reply counts
the removed: R25 whole. -/
def Obligations.ClearLearnedKeepsResidentAndPinned : Prop :=
  ∀ s : State, s.portOpen .sp = true →
    let gone := fun e : Nat × PassRecord => decide (e.2.origin = .learned) && !e.2.pinned
    exec (.passClearLearned .sp) s =
        .next (((s.taken .sp).withTable fun t => t.filter fun e => !gone e).answered .sp 0x15 .ok
          (.cleared (s.table.filter gone).length)) ∧
      (TableForm s.table → (s.table.filter gone).length ≤ 4096)

/-- The merge write: the ticket group is installed where absent; with a good usage check days used become the greater
of record and card, never above the days bought, and the last use day the later of the two, present where either is;
BEHIND is set where the record is ahead or the usage check failed; the refund mark forces REFUNDED; pass, origin,
pins, rides and last passage stay (R2, R16, R17). A consumption at grant raises days used by one up to the days
bought, sets consumed-here day and last use day to today, and sets BEHIND (R18); that a later last use day stands (R2)
is how the model joins the two rules (log 32). A grant of a context that holds a pass: UNLEARNED counts and writes no
record; NEW_DAY consumes, counts and requests the day stamp; else BEHIND requests a write-back; else nothing more (R72
to R74). A completed passage writes last passage, rides and last seen unless the context is UNLEARNED (R19);
completion, expiry and withdrawal end the LIVE pin and leave the other records (R12, R89, R91, R92, R113). -/
def Obligations.UsageWritesRaiseTheRecord : Prop :=
  (∀ (c : Card) (r : PassRecord), UsageBound r →
     let m := mergeWrite c r
     let offered := if 1 ≤ c.used then some c.lastUse else none
     let ahead := c.usageOk = false ∨ min c.used c.ticket.days < r.used ∨
       ∃ d, r.lastUse = some d ∧ ∀ e, offered = some e → e < d
     m.ticket = some (r.ticket.getD c.ticket) ∧ UsageBound m ∧ r.used ≤ m.used ∧
       (c.usageOk = true → m.used = min (r.ticket.getD c.ticket).days (max r.used (min c.used c.ticket.days)) ∧
         m.lastUse = match r.lastUse, offered with
           | some a, some b => some (max a b)
           | some a, none => some a
           | none, x => x) ∧
       (c.usageOk = false → m.used = r.used ∧ m.lastUse = r.lastUse) ∧
       (m.behind = true ↔ r.behind = true ∨ ahead) ∧ (aheadOf c r = true ↔ ahead) ∧
       (m.state = .refunded ↔ r.state = .refunded ∨ (c.mark = true ∧ recHeld r.state = false)) ∧
       (m.state ≠ .refunded → m.state = r.state) ∧
       m.pass = r.pass ∧ m.origin = r.origin ∧ m.live = r.live ∧ m.rides = r.rides ∧ m.lastPassage = r.lastPassage ∧
       m.consumedHere = r.consumedHere ∧ m.lastSeen = r.lastSeen) ∧
  (∀ (today : Nat) (r : PassRecord) (k : Ticket), r.ticket = some k → r.used ≤ k.days →
    consume today r =
      { r with
        used := min k.days (r.used + 1)
        lastUse := some (match r.lastUse with
          | some d => max d today
          | none => today)
        consumedHere := some today
        behind := true }) ∧
  (∀ (n : Lane) (p : PassNo) (c : Context) (note : Note) (d : NoteData) (s : State), (s.lane n).ctx = some c →
     c.pass = some p → s.adm.notes.get n = some note → note.data = some d →
       let t := s.grant n
       let stamp := fun (q : Requester) (r : PassRecord) =>
         ({ position := .lane n, requester := q, pass := p, used := r.used, lastUse := r.lastUse, mark := false,
            seq := (d.seq + 1) % 256, attempts := s.reader.settings.attempts, time := s.time.ms, echoed := none } : StampReq)
       let requested := fun x : StampReq =>
         if s.reader.map.get (.lane n) = none ∨ (s.reader.pos.get (.lane n)).fault = true then s.reader
         else { s.reader with stamps := s.reader.stamps ++ [x] }
       (d.flags.unlearned = true →
         t.table = s.table ∧ t.reader = s.reader ∧
           t.counts.current.lift = { s.counts.current.lift with
             unlearned := min max32 (s.counts.current.lift.unlearned + 1)
             unrecorded := if d.flags.newDay then min max32 (s.counts.current.lift.unrecorded + 1)
               else s.counts.current.lift.unrecorded } ∧
           t.counts.current.lanes = s.counts.current.lanes) ∧
         (d.flags.unlearned = false → d.flags.newDay = true → ∀ r, s.record p = some r →
           t.record p = some (consume s.time.lastDay r) ∧ (∀ q, q ≠ p → t.record q = s.record q) ∧
             t.reader = requested (stamp .dayStamp (consume s.time.lastDay r)) ∧
             (t.counts.current.lanes.get n).newDays = min max32 ((s.counts.current.lanes.get n).newDays + 1)) ∧
         (d.flags.unlearned = false → d.flags.newDay = false → d.flags.behind = true → ∀ r, s.record p = some r →
           t.table = s.table ∧ t.counts = s.counts ∧ t.reader = requested (stamp .writeBack r)) ∧
         (d.flags.unlearned = false → d.flags.newDay = false → d.flags.behind = false →
           t.table = s.table ∧ t.counts = s.counts ∧ t.reader = s.reader)) ∧
  ∀ (n : Lane) (p : PassNo) (r : PassRecord) (s : State), s.ctxPass n = some p → s.record p = some r →
    let unpinned := fun x : PassRecord => { x with live := if x.live = some n then none else x.live }
    let others := fun t : State => ∀ q, q ≠ p → t.record q = s.record q
    let unlearned := ∃ x d, s.adm.notes.get n = some x ∧ x.data = some d ∧ d.flags.unlearned = true
    ((s.lane n).passage = .entering →
      let t := s.forwardPassage n
      others t ∧ (unlearned → t.record p = some (unpinned r)) ∧
        (¬unlearned → t.record p = some (unpinned
          { r with
            lastPassage := some { second := s.time.runSec, lane := n }
            rides := some
              { count := match r.rides with
                  | some g => if g.day = s.time.lastDay then min 255 (g.count + 1) else 1
                  | none => 1
                day := s.time.lastDay }
            lastSeen := s.time.runSec }))) ∧
      (s.stopped = false → (s.lane n).passage = .granted →
        (∃ c e, (s.lane n).ctx = some c ∧ c.windowEnd = some e ∧ e ≤ s.time.ms) →
          ∃ t : State, exec (.grantExpiry n) s = .next t.serviceStep.arbiter ∧ t.record p = some (unpinned r) ∧ others t) ∧
      ∀ reason, (s.dropEntry n reason).record p = some (unpinned r) ∧ others (s.dropEntry n reason)

/-! ## Settings and status orders -/

/-- READER SET, ADMIT SET and RULE PUT: values outside their ranges are answered BAD_ARG and change nothing; any other
replace the six reader settings, the four admission settings, or the named rule whole, and are answered with what is
now in force (R55, R58, R61). -/
def Obligations.ReaderAndAdmissionSettingsAreReplacedWhole : Prop :=
  (∀ (a t c f w : Byte) (g : BitVec 16) (s : State), s.portOpen .sp = true →
     let ok := 1 ≤ a.toNat ∧ a.toNat ≤ 4 ∧ 2 ≤ t.toNat ∧ t.toNat ≤ 31 ∧ 1 ≤ c.toNat ∧ c.toNat ≤ 32 ∧ -8 ≤ f.toInt ∧
       f.toInt ≤ 7 ∧ 1 ≤ w.toNat ∧ w.toNat ≤ 8 ∧ 50 ≤ g.toNat ∧ g.toNat ≤ 600 ∧ g.toNat % 10 = 0
     let r : ReaderSettings :=
       { attempts := a.toNat, threshold := t.toNat, coarse := c.toNat, fine := f.toInt, window := w.toNat,
         target := g.toNat }
     (ok → exec (.readerSet .sp a t c f w g) s =
       .next (((s.taken .sp).withReader fun d => { d with settings := r }).answered .sp 0x21 .ok (.readerSettings r))) ∧
       (¬ok → exec (.readerSet .sp a t c f w g) s = .next ((s.taken .sp).answered .sp 0x21 .badArg .none))) ∧
  (∀ (resort lockout : BitVec 16) (quiet mask : Byte) (s : State), s.portOpen .sp = true →
    let ok := lockout.toNat ≤ 3600 ∧ 5 ≤ quiet.toNat ∧ quiet.toNat ≤ 100 ∧ mask.toNat < 16
    let x : AdmSettings :=
      { resort := resort.toNat, lockout := lockout.toNat, quiet := quiet.toNat,
        learnMask := { l0 := mask.getLsbD 0, l1 := mask.getLsbD 1, l2 := mask.getLsbD 2, l3 := mask.getLsbD 3 } }
    (ok → exec (.admitSet .sp resort lockout quiet mask) s =
      .next (((s.taken .sp).withAdm fun d => { d with settings := x }).answered .sp 0x31 .ok (.admSettings x))) ∧
      (¬ok → exec (.admitSet .sp resort lockout quiet mask) s =
        .next ((s.taken .sp).answered .sp 0x31 .badArg .none))) ∧
    ∀ (i e : Byte) (value mask : BitVec 16) (lanes : Byte) (start stop : BitVec 16) (cls charge : Byte) (s : State),
      s.portOpen .sp = true →
        let ok := i.toNat ≤ 15 ∧ e.toNat ≤ 1 ∧ value.toNat ≤ 4095 ∧ mask.toNat ≤ 4095 ∧ lanes.toNat < 16 ∧
          start.toNat ≤ 1439 ∧ stop.toNat ≤ 1439 ∧ cls.toNat ≤ 3 ∧ charge.toNat ≤ 1
        let r : LaneRule :=
          { enabled := decide (e = 1), value := value.toNat, mask := mask.toNat,
            lanes := { l0 := lanes.getLsbD 0, l1 := lanes.getLsbD 1, l2 := lanes.getLsbD 2, l3 := lanes.getLsbD 3 },
            start := start.toNat, stop := stop.toNat, cls := cls.toNat, charge := decide (charge = 1) }
        (ok → exec (.rulePut .sp i e value mask lanes start stop cls charge) s =
          .next (((s.taken .sp).withAdm fun d => { d with rules := d.rules.setIfInBounds i.toNat r }).answered .sp 0x32
            .ok (.laneRule none r))) ∧
          (¬ok → exec (.rulePut .sp i e value mask lanes start stop cls charge) s =
            .next ((s.taken .sp).answered .sp 0x32 .badArg .none))

/-- LANE SET takes the settings for the lane named, or for all four, and the common debounce time, which applies at
once: a pending beam or BOARD level that has already stood for the new time takes effect, and any other goes on
waiting; where none has, nothing else changes but a second low tone that has not started (R84, R100, R101; log 17).
The order in which several such levels take effect is the model's (log 16). LOADING SET takes limit and hold, and the
service step runs; REFUND SET takes the refund hold. Values outside their ranges are answered BAD_ARG and change
nothing (R101, R116, R134). -/
def Obligations.LaneLoadingAndRefundSettingsAreReplaced : Prop :=
  (∀ (lane window debounce high low mute : Byte) (s : State), s.portOpen .sp = true →
     let ok := (lane = 0xFF ∨ lane.toNat < 4) ∧ 10 ≤ window.toNat ∧ 5 ≤ debounce.toNat ∧ debounce.toNat ≤ 250 ∧
       high.toNat < 4 ∧ low.toNat < 4 ∧ mute.toNat < 2
     (¬ok → exec (.laneSet .sp lane window debounce high low mute) s =
       .next ((s.taken .sp).answered .sp 0x43 .badArg .none)) ∧
       ∀ h l : Pitch, h.code = high → l.code = low → ok →
         let x : LaneSettings := { window := window.toNat, high := h, low := l, mute := decide (mute = 1) }
         let d := debounce.toNat
         let waits := fun y : Debounced => ∀ t0, y.since = some t0 → s.time.ms < t0 + d
         let settled := fun y z : Debounced =>
           (waits y → z = y) ∧ (¬waits y → z = { raw := y.raw, level := y.raw, since := none })
         ∃ t : State, exec (.laneSet .sp lane window debounce high low mute) s =
             .next (t.answered .sp 0x43 .ok (.laneSettings d (if lane = 0xFF then [x, x, x, x] else [x]))) ∧
           t.debounce = d ∧
           (∀ n, (t.lane n).settings = if lane = 0xFF ∨ lane = laneCode n then x else (s.lane n).settings) ∧
           (∀ n b, settled ((s.lane n).beam b) ((t.lane n).beam b)) ∧ settled s.load.board t.load.board ∧
           ((∀ n b, waits ((s.lane n).beam b)) → waits s.load.board →
             t.table = s.table ∧ t.load = s.load ∧ t.counts = s.counts ∧ t.adm = s.adm ∧ t.refund = s.refund ∧
               ∀ n, (t.lane n).mode = (s.lane n).mode ∧ (t.lane n).passage = (s.lane n).passage ∧
                 (t.lane n).tracker = (s.lane n).tracker ∧ (t.lane n).ctx = (s.lane n).ctx ∧
                 (t.lane n).signal = (s.lane n).signal ∧ (t.lane n).report = (s.lane n).report ∧
                 (t.lane n).tone = (s.lane n).tone.map fun w =>
                   if (lane = 0xFF ∨ lane = laneCode n) ∧ w.pattern = .twoLow ∧ s.time.ms < w.start + 200 then
                     { w with second := if mute = 1 then none else some l }
                   else w)) ∧
  (∀ (limit hold : Byte) (s : State), s.portOpen .sp = true →
     let ok := 1 ≤ limit.toNat ∧ limit.toNat ≤ 60 ∧ 1 ≤ hold.toNat ∧ hold.toNat ≤ 60
     (ok → exec (.loadingSet .sp limit hold) s =
       .next ((((s.taken .sp).withLoad fun l =>
         { l with limit := limit.toNat, hold := hold.toNat }).serviceStep.arbiter).answered .sp 0x51 .ok
           (.loadingSettings limit.toNat hold.toNat))) ∧
       (¬ok → exec (.loadingSet .sp limit hold) s = .next ((s.taken .sp).answered .sp 0x51 .badArg .none))) ∧
  ∀ (hold : BitVec 16) (s : State), s.portOpen .sp = true →
    (30 ≤ hold.toNat ∧ hold.toNat ≤ 900 →
      exec (.refundSet .sp hold) s =
        .next (((s.taken .sp).withRefund fun r => { r with hold := hold.toNat }).answered .sp 0x74 .ok
          (.refundHold hold.toNat))) ∧
      (¬(30 ≤ hold.toNat ∧ hold.toNat ≤ 900) →
        exec (.refundSet .sp hold) s = .next ((s.taken .sp).answered .sp 0x74 .badArg .none))

/-- PASS QUERY from any port and TABLE STATUS from the station port return what the table holds; RULE QUERY a rule or
the governing rule of a product; VERDICT FETCH a lane's verdict record; each has its NOT_FOUND and BAD_ARG, pass
number 0 and a selector above 1 among them, and changes nothing but the port (section 1.7, R20, R26, R27, R62, R79).
-/
def Obligations.TableAndAdmissionReadsChangeNothing : Prop :=
  (∀ (p : Port) (s : State), s.portOpen p = true →
     exec (.passQuery p 0) s = .next ((s.taken p).answered p 0x16 .badArg .none)) ∧
  (∀ (p : Port) (q : PassNo) (s : State), s.portOpen p = true → q ≠ 0 →
     (findPass s.table q = none →
       exec (.passQuery p q) s = .next ((s.taken p).answered p 0x16 .notFound .none)) ∧
       (∀ k r, findPass s.table q = some (k, r) →
         exec (.passQuery p q) s =
           .next ((s.taken p).answered p 0x16 .ok (.passRecord (k / 4) (k % 4) r
             (match r.rides with
               | some g => if s.time.tod.isSome = true ∧ g.day = s.time.lastDay then g.count else 0
               | none => 0)))) ∧
       (p = .sp →
         exec (.tableStatus .sp) s =
           .next ((s.taken .sp).answered .sp 0x17 .ok
             (.tableStatus (s.table.filter fun e => decide (e.2.origin = .resident)).length
               (s.table.filter fun e => decide (e.2.origin = .learned)).length
               (s.table.filter fun e => e.2.pinned).length (fullBuckets s.table) s.counts.current.lift.learnFailures)))) ∧
  ∀ s : State,
    (∀ value : BitVec 16, s.portOpen .sp = true →
      let same := fun res body => Host.Outcome.next ((s.taken .sp).answered .sp 0x33 res body)
      (∀ h : value.toNat < 16, exec (.ruleQuery .sp 0 value) s = same .ok (.laneRule none s.adm.rules[value.toNat])) ∧
        (16 ≤ value.toNat → exec (.ruleQuery .sp 0 value) s = same .badArg .none) ∧
        (∀ selector : Byte, 1 < selector.toNat → exec (.ruleQuery .sp selector value) s = same .badArg .none) ∧
        (4095 < value.toNat → exec (.ruleQuery .sp 1 value) s = same .badArg .none) ∧
        (value.toNat ≤ 4095 →
          (∀ i r, governingRule s.adm.rules value.toNat = some (i, r) →
            exec (.ruleQuery .sp 1 value) s = same .ok (.laneRule (some i) r)) ∧
            (governingRule s.adm.rules value.toNat = none → exec (.ruleQuery .sp 1 value) s = same .notFound .none))) ∧
      ∀ (p : Port) (n : Lane), s.portOpen p = true → p = .sp ∨ p = .lp n →
        let same := fun res body => Host.Outcome.next ((s.taken p).answered p 0x34 res body)
        (∀ v, s.adm.verdicts.get n = some v → exec (.verdictFetch p (laneCode n)) s = same .ok (.verdict v)) ∧
          (s.adm.verdicts.get n = none → exec (.verdictFetch p (laneCode n)) s = same .notFound .none) ∧
          ∀ lane, laneOf lane = none → exec (.verdictFetch p lane) s = same .badArg .none

/-- POSITION STATUS reports of each position its antenna, state, fault memories, last outcome and the attempts
remaining of its pending work, of each antenna its level, tune record and whether a tune is pending or in flight, and
the visit in flight, the rotation pointer and the settings (R35, R56); LANE STATUS the lane's mode, passage state,
tracker, beams, lines, context, position, report and settings (R102); SUPPLY, LOADING, CLOCK and REFUND STATUS what
their rules list (R117, R153, R165, R189). Each reports the moment of its taking and changes nothing but the port. -/
def Obligations.StatusOrdersReport : Prop :=
  (∀ s : State, s.portOpen .sp = true →
     exec (.positionStatus .sp) s =
         .next ((s.taken .sp).answered .sp 0x24 .ok (.positionStatus s.positionReport)) ∧
       s.positionReport.visit = s.reader.visit ∧ s.positionReport.pointer = s.reader.pointer ∧
       s.positionReport.settings = s.reader.settings ∧
       (∀ p, s.positionReport.positions.get p =
         { antenna := s.reader.map.get p, state := s.posState p, memory := s.reader.pos.get p,
           pendingAttempts := match p with
             | .lane n => (s.reader.stamps.find? fun r => decide (r.position = .lane n)).map (·.attempts)
             | .ps => match s.reader.slot with
               | none => none
               | some (.read made) => some (3 - made)
               | some (.stamp r) => some r.attempts }) ∧
       (∀ a, (s.positionReport.antennas.get a).level = s.reader.levels.get a ∧
         (s.positionReport.antennas.get a).tune = s.reader.tunes.get a ∧
         ((s.positionReport.antennas.get a).tunePending = true ↔
           (∃ target ordered, s.reader.visit = some (.tune a target ordered)) ∨
             ∃ e ∈ s.reader.tuneList, e.antenna = a)) ∧
       (let tuned := ∃ a target ordered, s.reader.map.ps = some a ∧ s.reader.visit = some (.tune a target ordered)
        (tuned → s.posState .ps = .tuning) ∧ (¬tuned → s.reader.pos.ps.fault = true → s.posState .ps = .fault) ∧
          (¬tuned → s.reader.pos.ps.fault = false → s.posState .ps =
            if s.reader.map.ps ≠ none ∧ s.reader.slot ≠ none then .busy else .off)) ∧
       exec (.supplyStatus .sp) s =
         .next ((s.taken .sp).answered .sp 0x91 .ok
           (.supplyStatus
             { state := s.supply.state
               recovery := if s.supply.state = .low then s.supply.recovery.map fun d => d - s.time.ms else none
               startKind := s.supply.startKind
               startCause := s.supply.startCause
               lowCount := s.supply.lowCount
               lastChange := s.supply.lastChange }))) ∧
  (∀ (p : Port) (n : Lane) (s : State), s.portOpen p = true → p = .sp ∨ p = .lp n →
     exec (.laneStatus p (laneCode n)) s =
         .next ((s.taken p).answered p 0x42 .ok
           (.laneStatus
             { mode := (s.lane n).mode, passage := (s.lane n).passage, tracker := (s.lane n).tracker,
               enb := (s.lane n).enb.level, exb := (s.lane n).exb.level, rel := s.rel n, lamp := (s.lane n).lampState,
               tone := (s.lane n).tone.isSome
               ctx := (s.lane n).ctx.map fun c => (c, c.windowEnd.map fun e => e - s.time.ms)
               position := s.posState (.lane n), degraded := (s.reader.pos.get (.lane n)).degraded,
               faultCount := (s.reader.pos.get (.lane n)).faultCount, report := (s.lane n).report,
               settings := (s.lane n).settings, debounce := s.debounce })) ∧
       ∀ lane, laneOf lane = none → exec (.laneStatus p lane) s = .next ((s.taken p).answered p 0x42 .badArg .none)) ∧
  ∀ s : State, s.portOpen .sp = true →
    exec (.loadingStatus .sp) s =
        .next ((s.taken .sp).answered .sp 0x52 .ok
          (.loadingStatus
            { occupancy := s.load.occupancy, live := s.load.live, sum := s.load.occupancy + s.load.live,
              limit := s.load.limit, hold := s.load.hold, liftStop := s.load.liftStop, supply := s.supply.state,
              room := s.room, queue := s.load.queue.map fun e => (e, e.deadline - s.time.ms),
              peak := s.counts.current.lift.peak })) ∧
      exec (.clockStatus .sp) s =
        .next ((s.taken .sp).answered .sp 0x83 .ok
          (.clockStatus
            { tod := s.time.tod, day := s.time.lastDay, boundaryHour := s.time.boundaryHour, runSec := s.time.runSec,
              intoSecond := s.time.ms - s.time.secStart, mode := s.time.mode, jitter := s.time.jitter,
              pulseLost := s.time.pulseLost, snapshot := s.time.snapshot, pulseCount := s.time.pulseCount,
              driftCount := s.time.driftCount })) ∧
      exec (.refundStatus .sp) s =
        .next ((s.taken .sp).answered .sp 0x78 .ok
          (.refundStatus
            { ctx := s.refund.ctx
              remaining := match s.refund.ctx with
                | .quoted q => some (q.deadline - s.time.runSec)
                | .committing q _ => some (q.deadline - s.time.runSec)
                | _ => none
              lastQuote := s.refund.lastQuote
              entries := s.refund.journal.length
              nextSeq := s.refund.nextSeq
              tariffs := s.refund.tariffs.length
              hold := s.refund.hold }))

/-! ## Reader (chapter 2) -/

/-- ANTENNA MAP: a map that names an antenna twice, or none of A0 to A5 and NONE, is answered BAD_ARG; any other is
answered with the map now in force. The change of the position whose visit is in flight waits for the visit's
completion, and so does that of a position whose new antenna is still held by one that waits; all other changes are in
force at once: fault memories and collide run are cleared, a position without an antenna ends its pending work, and
POSITION is raised (R33, R34, R36). Changes that waited apply where a visit ends (R30). A tune has no position, so it
defers no change (log 13), and each map decides anew which positions wait, whatever waited before it (log 40); both
are the model's reading. ANTENNA TUNE: a value other than A0 to A5 is BAD_ARG, LOW or DOWN is LOW_SUPPLY; otherwise
the order is in progress, the antenna waits in the tune list with the order's mark, and the arbiter chooses (R51).
TUNE COMPLETION writes the record and the level, acts on the position that holds the antenna by Table 2-8, raises
ANTENNA, answers the order where one waits on it, and frees the transceiver: OK and LIMIT clear fault flag, DEGRADED
and fault count; OPEN and SHORT set the fault flag and end the position's pending work; POSITION is raised, for OK
only where the fault flag or DEGRADED was set (R53, R36). -/
def Obligations.AntennaOrdersAndTunesAct : Prop :=
  (∀ (b0 b1 b2 b3 b4 : Byte) (s : State), s.portOpen .sp = true →
     let valid := fun b : Byte => b = 0xFF ∨ b.toNat ≤ 5
     let twice := ∃ x : Byte, x ≠ 0xFF ∧ 2 ≤ [b0, b1, b2, b3, b4].count x
     ¬(valid b0 ∧ valid b1 ∧ valid b2 ∧ valid b3 ∧ valid b4) ∨ twice →
       exec (.antennaMap .sp b0 b1 b2 b3 b4) s = .next ((s.taken .sp).answered .sp 0x22 .badArg .none)) ∧
  (∀ (m : PerPos (Option Antenna)) (s : State), s.portOpen .sp = true →
     (∀ p q a, p ≠ q → m.get p = some a → m.get q ≠ some a) →
       let byte := fun x : Option Antenna => match x with
         | none => (0xFF : Byte)
         | some a => antennaCode a
       let t := (s.taken .sp).installMap m
       exec (.antennaMap .sp (byte (m.get (.lane .l0))) (byte (m.get (.lane .l1))) (byte (m.get (.lane .l2)))
           (byte (m.get (.lane .l3))) (byte (m.get .ps))) s =
         .next (t.arbiter.answered .sp 0x22 .ok (.antennaMap t.reader.map))) ∧
  (∀ (m : PerPos (Option Antenna)) (s : State),
     let t := s.installMap m
     let changed := fun p => s.reader.map.get p ≠ m.get p
     ∃ waiting : List Position,
       (∀ v, s.reader.visit = some (.card v) → changed v.position → v.position ∈ waiting) ∧
         ((∀ v, s.reader.visit ≠ some (.card v)) → waiting = []) ∧ (∀ p ∈ waiting, changed p) ∧
         (∀ p q, changed p → m.get p ≠ none → q ∈ waiting → q ≠ p → s.reader.map.get q = m.get p → p ∈ waiting) ∧
         (∀ p ∈ waiting, (∃ v, s.reader.visit = some (.card v) ∧ v.position = p) ∨
           ∃ q ∈ waiting, q ≠ p ∧ m.get p ≠ none ∧ s.reader.map.get q = m.get p) ∧
         (∀ p, (p ∈ waiting → t.reader.deferred.get p = some (m.get p)) ∧
           (p ∉ waiting → t.reader.deferred.get p = none)) ∧
         (∀ p, ¬changed p ∨ p ∈ waiting →
           t.reader.map.get p = s.reader.map.get p ∧ t.reader.pos.get p = s.reader.pos.get p) ∧
         (∀ p, changed p → p ∉ waiting →
           t.reader.map.get p = m.get p ∧
             t.reader.pos.get p = { s.reader.pos.get p with
               faultCount := 0, degraded := false, fault := false, collideRun := 0 }) ∧
         (∀ n, (t.port (.lp n)).notices =
           if s.reader.map.get (.lane n) ≠ m.get (.lane n) ∧ Position.lane n ∉ waiting then
             (s.port (.lp n)).notices ||| LaneNotice.position.mask
           else (s.port (.lp n)).notices) ∧
         (∀ r, r ∈ t.reader.stamps ↔ r ∈ s.reader.stamps ∧
           ¬∃ n, r.position = .lane n ∧ changed (.lane n) ∧ Position.lane n ∉ waiting ∧ m.get (.lane n) = none) ∧
         (changed .ps → Position.ps ∉ waiting → m.get .ps = none →
           t.reader.slot = none ∧ ∀ k, s.reader.slot = some (.read k) → t.refund.ctx = .idle) ∧
         (¬changed .ps ∨ Position.ps ∈ waiting ∨ m.get .ps ≠ none →
           t.reader.slot = s.reader.slot ∧ t.refund = s.refund)) ∧
  (∀ s : State,
     s.endVisit = (s.applyDeferred.withReader fun d => { d with visit := none }).arbiter ∧
       ∀ p, (s.applyDeferred.reader.map.get p = match s.reader.deferred.get p with
           | some a => a
           | none => s.reader.map.get p) ∧
         s.applyDeferred.reader.deferred.get p = none ∧
         (s.reader.deferred.get p = none → s.applyDeferred.reader.pos.get p = s.reader.pos.get p) ∧
         (s.reader.deferred.get p ≠ none → s.applyDeferred.reader.pos.get p = { s.reader.pos.get p with
           faultCount := 0, degraded := false, fault := false, collideRun := 0 })) ∧
  (∀ (b : Byte) (a : Antenna) (s : State), s.portOpen .sp = true →
    (5 < b.toNat → exec (.antennaTune .sp b) s = .next ((s.taken .sp).answered .sp 0x23 .badArg .none)) ∧
      (s.supply.state ≠ .run →
        exec (.antennaTune .sp (antennaCode a)) s = .next ((s.taken .sp).answered .sp 0x23 .lowSupply .none)) ∧
      (s.supply.state = .run →
        let t := (s.taken .sp).orderTune a
        exec (.antennaTune .sp (antennaCode a)) s = .next (t.arbiter.inProgress .sp 0x23) ∧
          { antenna := a, ordered := true } ∈ t.reader.tuneList ∧
          (∀ e ∈ s.reader.tuneList, e.antenna ≠ a → e ∈ t.reader.tuneList) ∧
          (∀ e ∈ t.reader.tuneList, e.antenna ≠ a → e ∈ s.reader.tuneList) ∧ t.table = s.table ∧ t.refund = s.refund)) ∧
  (∀ (a : Antenna) (target i4 i12 : Nat) (ordered : Bool) (s : State),
     s.stopped = false → s.reader.visit = some (.tune a target ordered) →
       let r := tuneOutcome target i4 i12 (s.reader.levels.get a)
       let written := s.withReader fun d =>
         { d with tunes := d.tunes.set a (some r), levels := d.levels.set a r.newLevel }
       let ends := fun t : State =>
         Host.Outcome.next (if ordered then ((t.raiseStation .antenna).completeLong .ok (.tuneRecord a r)).endVisit
           else (t.raiseStation .antenna).endVisit)
       ((∀ p, s.reader.map.get p ≠ some a) → exec (.tuneCompletion i4 i12) s = ends written) ∧
         ∀ p, s.reader.map.get p = some a → (∀ q, s.reader.map.get q = some a → q = p) →
           exec (.tuneCompletion i4 i12) s = ends (written.applyTune p r.result)) ∧
  ∀ (p : Position) (res : TuneResult) (s : State), s.reader.map.get p ≠ none →
    let m := s.reader.pos.get p
    let t := s.applyTune p res
    let good := res = .ok ∨ res = .limit
    (good → t.reader.pos.get p = { m with fault := false, degraded := false, faultCount := 0 } ∧
      t.reader.stamps = s.reader.stamps ∧ t.reader.slot = s.reader.slot ∧ t.refund = s.refund) ∧
      (¬good → t.reader.pos.get p = { m with fault := true } ∧
        (∀ r, r ∈ t.reader.stamps ↔ r ∈ s.reader.stamps ∧ ¬∃ n, p = .lane n ∧ r.position = .lane n) ∧
        (p ≠ .ps → t.reader.slot = s.reader.slot ∧ t.refund = s.refund) ∧
        (p = .ps → t.reader.slot = none ∧ ∀ k, s.reader.slot = some (.read k) → t.refund.ctx = .idle)) ∧
      (∀ q, q ≠ p → t.reader.pos.get q = s.reader.pos.get q) ∧
      ∀ n, (t.port (.lp n)).notices =
        if p = .lane n ∧ ¬(res = .ok ∧ m.fault = false ∧ m.degraded = false) then
          (s.port (.lp n)).notices ||| LaneNotice.position.mask
        else (s.port (.lp n)).notices

/-- The state of a lane position is the first entry of Table 2-2 whose condition holds (R35). The scan arbiter starts
nothing in a stopped part, outside RUN, or while a visit is in flight; else it starts the service visit, the oldest
lane stamp, the oldest tune, or a scan read at the first position in SCAN after the rotation pointer, in this order
(R38 to R40). -/
def Obligations.ArbiterFollowsTheServiceOrder : Prop :=
  (∀ (n : Lane) (s : State),
     let p := Position.lane n
     let tuned := s.reader.map.get p ≠ none ∧ s.reader.map.get p = s.tuning
     let fault := (s.reader.pos.get p).fault = true
     let unmapped := s.reader.map.get p = none
     let work := (s.lane n).passage ≠ .idle ∨ ∃ r ∈ s.reader.stamps, r.position = p
     (tuned → s.posState p = .tuning) ∧ (¬tuned → fault → s.posState p = .fault) ∧
       (¬tuned → ¬fault → unmapped → s.posState p = .off) ∧
       (¬tuned → ¬fault → ¬unmapped → work → s.posState p = .busy) ∧
       (¬tuned → ¬fault → ¬unmapped → ¬work →
         s.posState p = if (s.lane n).mode = .opened then .scan else .off)) ∧
  ∀ s : State,
    (s.stopped = true ∨ s.supply.state ≠ .run ∨ s.reader.visit ≠ none → s.arbiter = s) ∧
      (s.stopped = false → s.supply.state = .run → s.reader.visit = none →
        let start := fun v : Visit => s.withReader fun r => { r with visit := some v }
        (∀ v a, s.reader.slot = some v → s.reader.map.ps = some a →
          s.arbiter = start (s.cardVisit
            (match v with
              | .read _ => .serviceRead
              | .stamp _ => .serviceStamp) .ps a)) ∧
          (∀ r rest a, s.reader.slot = none → s.reader.stamps = r :: rest → s.reader.map.get r.position = some a →
            s.arbiter = start (s.cardVisit .laneStamp r.position a)) ∧
          (∀ e rest, s.reader.slot = none → s.reader.stamps = [] → s.reader.tuneList = e :: rest →
            s.arbiter = (start (.tune e.antenna s.reader.settings.target e.ordered)).withReader fun r =>
              { r with tuneList := rest }) ∧
          (s.reader.slot = none → s.reader.stamps = [] → s.reader.tuneList = [] →
            ((∀ n, s.posState (.lane n) ≠ .scan) → s.arbiter = s) ∧
              ∀ n a,
                [s.reader.pointer.succ, s.reader.pointer.succ.succ, s.reader.pointer.succ.succ.succ,
                  s.reader.pointer].find? (fun n => decide (s.posState (.lane n) = .scan)) = some n →
                  s.reader.map.get (.lane n) = some a →
                    s.arbiter = (start (s.cardVisit .scanRead (.lane n) a)).withReader fun r => { r with pointer := n }))

/-- Overdrive gives CLIP before all else, a coding violation COLLIDE, no lead-in SILENT, a frame that passes CARD and
any other CORRUPT; CARD sets the fault count to 0, COLLIDE, CORRUPT and CLIP raise it up to 31, SILENT leaves it. At
every position, PS included, the outcome is the last outcome, and DEGRADED is set where a rise reaches the threshold:
at that moment alone a tune of the antenna is requested, which joins one in the list or in flight, and a lane position
raises POSITION on its lane's port. At a lane position a third COLLIDE in a row sets the run to 0 and raises CROWDED,
any other outcome ends the run; PS keeps no run and raises no notice. CLIP lowers the antenna's level by one, down to
1. Nothing else changes (R47 to R51). -/
def Obligations.VisitOutcomesActOnThePosition : Prop :=
  (∀ (len : Nat) (type : Byte) (r : Reception) (c : Nat),
     (r.overdrive = true → outcomeOf len type r = .clip) ∧
       (r.overdrive = false → r.violation = true → outcomeOf len type r = .collide) ∧
       (r.overdrive = false → r.violation = false → r.frame = none → outcomeOf len type r = .silent) ∧
       (∀ f, r.overdrive = false → r.violation = false → r.frame = some f →
         outcomeOf len type r = if framePasses len type f then .card else .corrupt) ∧
       faultCountAfter .card c = 0 ∧ faultCountAfter .silent c = c ∧
       ∀ o, o = .collide ∨ o = .corrupt ∨ o = .clip → faultCountAfter o c = min 31 (c + 1)) ∧
  ∀ (p : Position) (a : Antenna) (o : VisitOutcome) (s : State),
    let m := s.reader.pos.get p
    let t := s.applyOutcome p a o
    let m' := t.reader.pos.get p
    let degrades := m.degraded = false ∧ m.faultCount < m'.faultCount ∧ s.reader.settings.threshold ≤ m'.faultCount
    let requested := (∃ e ∈ s.reader.tuneList, e.antenna = a) ∨
      ∃ target ordered, s.reader.visit = some (.tune a target ordered)
    m'.faultCount = faultCountAfter o m.faultCount ∧ m'.lastOutcome = some o ∧ m'.fault = m.fault ∧
      (m'.degraded = true ↔ m.degraded = true ∨ degrades) ∧
      (p = .ps → m'.collideRun = m.collideRun) ∧
      (p ≠ .ps → m'.collideRun = if o = .collide ∧ m.collideRun + 1 ≠ 3 then m.collideRun + 1 else 0) ∧
      (degrades → ¬requested →
        t.reader.tuneList = s.reader.tuneList ++ [{ antenna := a, ordered := false }]) ∧
      (¬degrades ∨ requested → t.reader.tuneList = s.reader.tuneList) ∧
      (∀ n, (t.port (.lp n)).notices = (s.port (.lp n)).notices |||
        (if p = .lane n ∧ degrades then LaneNotice.position.mask else 0) |||
        (if p = .lane n ∧ o = .collide ∧ m.collideRun = 2 then LaneNotice.crowded.mask else 0)) ∧
      t.port .sp = s.port .sp ∧
      (t.reader.levels.get a = if o = .clip then max 1 (s.reader.levels.get a - 1) else s.reader.levels.get a) ∧
      (∀ b, b ≠ a → t.reader.levels.get b = s.reader.levels.get b) ∧
      (∀ q, q ≠ p → t.reader.pos.get q = s.reader.pos.get q) ∧ t.reader.map = s.reader.map ∧
      t.reader.visit = s.reader.visit ∧ t.reader.slot = s.reader.slot ∧ t.reader.stamps = s.reader.stamps ∧
      t.table = s.table ∧ t.adm = s.adm ∧ t.lanes = s.lanes ∧ t.load = s.load ∧ t.counts = s.counts ∧
      t.refund = s.refund

/-- OPEN below 20 mA, SHORT above 900 mA, else the raw level target × L / I rounded up, limited to 15 with result
LIMIT (R52, R53). Which level an OPEN record shows where both currents are equal is free (log 11). -/
def Obligations.TuneResultFollowsTheMeasurements : Prop :=
  ∀ target i4 i12 level : Nat, 0 < target →
    let r := tuneOutcome target i4 i12 level
    let raw := fun l i => (target * l + i - 1) / i
    (i4 < 20 → i12 < 20 →
      r.result = .opened ∧ r.newLevel = level ∧ r.current = max i4 i12 ∧ (i12 < i4 → r.level = 4) ∧
        (i4 < i12 → r.level = 12)) ∧
      (900 < i4 → r = { level := 4, current := i4, newLevel := level, result := .shorted }) ∧
      (i4 < 40 → 20 ≤ i12 →
        r.level = 12 ∧ r.current = i12 ∧ r.newLevel = min 15 (raw 12 i12) ∧
          (r.result = .limit ↔ 15 < raw 12 i12) ∧ (r.result = .ok ↔ raw 12 i12 ≤ 15)) ∧
      ((40 ≤ i4 ∧ i4 ≤ 900) ∨ (20 ≤ i4 ∧ i4 < 40 ∧ i12 < 20) →
        r.level = 4 ∧ r.current = i4 ∧ r.newLevel = min 15 (raw 4 i4) ∧ (r.result = .limit ↔ 15 < raw 4 i4) ∧
          (r.result = .ok ↔ raw 4 i4 ≤ 15)) ∧
      (r.result = .ok ∨ r.result = .limit → 1 ≤ r.newLevel ∧ r.newLevel ≤ 15)

/-- A read visit in flight sends the preamble and READ, a stamp attempt the preamble and its request's STAMP call
frame; the frame received is what follows the lead-in (R41, R45, section 11.4). A scan read that ends at a lane
position has its outcome's effects, hands a card to the lane only where the outcome is CARD, and frees the
transceiver. A card at a lane that is not OPEN and IDLE is discarded; one that the repeat-quiet memory holds moves the
deadline and does no more; any other reaches the admission unit. That suppression ends at the moment equal to the
deadline is the model's reading of R54 (log 15). A service read whose outcome is not CARD counts one attempt, and the
third ends the quote with NO_CARD (R30, R43, R47, R54, R135). -/
def Obligations.ReadVisitsDeliverTheirCard : Prop :=
  ((∀ (v : CardVisit) (n : Lane) (r : Reception) (s : State),
     s.stopped = false → s.reader.visit = some (.card v) → v.purpose = .scanRead → v.position = .lane n →
       let o := outcomeOf 28 0xA1 r
       let t := s.applyOutcome (.lane n) v.antenna o
       exec (.readVisitCompletion r) s =
         .next (if o = .card then (t.scanAnswer n (cardOf (r.frame.getD []))).endVisit else t.endVisit)) ∧
     ∀ (n : Lane) (c : Card) (s : State),
       ((s.lane n).mode ≠ .opened ∨ (s.lane n).passage ≠ .idle → s.scanAnswer n c = s) ∧
         ((s.lane n).mode = .opened → (s.lane n).passage = .idle →
           (∀ q, s.adm.quiet.get n = some q → q.pass = c.pass → s.time.ms < q.deadline →
             let again : Quiet := { pass := c.pass, deadline := s.time.ms + s.adm.settings.quiet * 100 }
             s.scanAnswer n c = s.withAdm fun a => { a with quiet := a.quiet.set n (some again) }) ∧
             ((∀ q, s.adm.quiet.get n = some q → q.pass = c.pass → q.deadline ≤ s.time.ms) →
               s.scanAnswer n c = s.admission n c))) ∧
  (∀ (v : CardVisit) (s : State), s.stopped = false → s.reader.visit = some (.card v) →
     s.drivenAntenna = some v.antenna ∧
       (v.purpose = .scanRead ∨ v.purpose = .serviceRead → s.airBytes = [0xAA, 0xAA, 0x7E, 0x3C]) ∧
       ∀ q, (v.purpose = .laneStamp ∧ ∃ n earlier later, v.position = .lane n ∧
           s.reader.stamps = earlier ++ q :: later ∧ q.position = .lane n ∧ ∀ x ∈ earlier, x.position ≠ .lane n) ∨
         (v.purpose = .serviceStamp ∧ v.position = .ps ∧ s.reader.slot = some (.stamp q)) →
           let usage := [BitVec.ofNat 8 q.used] ++ beBytes 2 (q.lastUse.getD 0) ++
             [if q.mark then 1 else 0, BitVec.ofNat 8 q.seq]
           let frame := [0xB5] ++ beBytes 5 q.pass.toNat ++ usage ++ [crc8 usage]
           s.airBytes = [0xAA, 0xAA, 0x7E] ++ frame ++ beBytes 2 (crc16 0xFFFF frame).toNat) ∧
  (∀ r : Reception,
     (0xFA ∉ r.heard → r.frame = none) ∧
       ∀ before after, r.heard = before ++ 0xFA :: after → 0xFA ∉ before → r.frame = some after) ∧
  ∀ (v : CardVisit) (k : Nat) (r : Reception) (s : State),
    s.stopped = false → s.reader.visit = some (.card v) → v.purpose = .serviceRead → v.position = .ps →
    s.reader.slot = some (.read k) → outcomeOf 28 0xA1 r ≠ .card →
      let t := s.applyOutcome .ps v.antenna (outcomeOf 28 0xA1 r)
      (k < 2 → exec (.readVisitCompletion r) s =
        .next (t.withReader fun d => { d with slot := some (.read (k + 1)) }).endVisit) ∧
        (k = 2 → exec (.readVisitCompletion r) s =
          .next (((t.withReader fun d => { d with slot := none }).withCtx .idle).completeLong .noCard .none).endVisit)

/-- A lane stamp attempt that ends: an echo of the block sent confirms it, the request leaves and BEHIND is cleared
where the usage written is the record's; an unconfirmed one with attempts left keeps its place with one attempt less;
the last unconfirmed one leaves (R45, R46, R13). -/
def Obligations.LaneStampIsSettled : Prop :=
  ∀ (v : CardVisit) (n : Lane) (r : Reception) (q : StampReq) (s : State),
    s.stopped = false → s.reader.visit = some (.card v) → v.purpose = .laneStamp → v.position = .lane n →
    (s.applyOutcome (.lane n) v.antenna (outcomeOf 14 0xB6 r)).reader.stamps.find?
      (fun x => x.position == .lane n) = some q →
      let o := outcomeOf 14 0xB6 r
      let t := s.applyOutcome (.lane n) v.antenna o
      let confirmed := o = .card ∧ ((r.frame.getD []).drop 1).take 11 = q.callBytes
      let left := t.withReader fun d => { d with stamps := d.stamps.filter fun x => x.position != .lane n }
      (confirmed → exec (.stampAttemptCompletion r) s =
        .next (left.updateRecord q.pass fun x => if stampMatches q x then { x with behind := false } else x).endVisit) ∧
        (¬confirmed → q.attempts ≤ 1 → exec (.stampAttemptCompletion r) s = .next left.endVisit) ∧
        (¬confirmed → 1 < q.attempts →
          ∃ x, x.position = q.position ∧ x.requester = q.requester ∧ x.callBytes = q.callBytes ∧
            x.attempts = q.attempts - 1 ∧
            exec (.stampAttemptCompletion r) s =
              .next (t.withReader fun d =>
                { d with stamps := d.stamps.map fun y => if y.position = .lane n then x else y }).endVisit)

/-! ## Admission (chapter 3) -/

/-- The governing rule of a product is the enabled rule of lowest index whose masked value is the product's; its
window holds the minutes from start up to end, wraps past midnight where end is before start, and holds every minute
where they are equal (R60). -/
def Obligations.GoverningRuleIsTheFirstMatch : Prop :=
  (∀ (rules : Vector LaneRule 16) (product : Nat),
    let fits := fun r : LaneRule => r.enabled = true ∧ product &&& r.mask = r.value &&& r.mask
    (∀ i r, governingRule rules product = some (i, r) →
      ∃ h : i < 16, rules[i] = r ∧ fits r ∧ ∀ j : Fin 16, j.val < i → ¬fits rules[j.val]) ∧
      (governingRule rules product = none → ∀ j : Fin 16, ¬fits rules[j.val])) ∧
    ∀ (r : LaneRule) (minute : Nat),
      (r.start < r.stop → (r.windowOk minute = true ↔ r.start ≤ minute ∧ minute < r.stop)) ∧
        (r.stop < r.start → (r.windowOk minute = true ↔ r.start ≤ minute ∨ minute < r.stop)) ∧
        (r.start = r.stop → r.windowOk minute = true)

/-- The checks of Table 3-3 that follow the card's own: NO_CLOCK, REFUNDED, BLOCKED, HELD, IN_USE, then against the
governing rule NOT_YET, EXPIRED, RULE, NO_DAYS, PASSBACK; the first that holds is the reason (R60, R67). -/
def Obligations.RefusalChecksInOrder : Prop :=
  (∀ (s : State) (n : Lane) (c : Card) (b : Basis),
     let refunded := c.mark = true ∨ ∃ r, b.record = some r ∧ r.state = .refunded
     let blocked := ∃ r, b.record = some r ∧ r.state = .blocked
     let held := (∃ r, b.record = some r ∧ recHeld r.state = true) ∨ s.refund.ctx.pass = some c.pass
     let inUse := ∃ m, m ≠ n ∧ s.ctxPass m = some c.pass
     let x := earlyRefusal s n c b
     (s.time.tod = none → x = some .noClock) ∧
       (s.time.tod ≠ none → refunded → x = some .refunded) ∧
       (s.time.tod ≠ none → ¬refunded → blocked → x = some .blocked) ∧
       (s.time.tod ≠ none → ¬refunded → ¬blocked → held → x = some .held) ∧
       (s.time.tod ≠ none → ¬refunded → ¬blocked → ¬held → inUse → x = some .inUse) ∧
       (s.time.tod ≠ none → ¬refunded → ¬blocked → ¬held → ¬inUse → x = none)) ∧
  ∀ (s : State) (n : Lane) (b : Basis) (g : LaneRule) (tod : Nat), s.time.tod = some tod →
    let today := s.time.lastDay
    let early := today < b.ticket.firstDay
    let late := b.ticket.lastDay < today
    let barred := ¬(g.lanes.get n = true ∧ g.windowOk (tod / 60) = true)
    let spent := g.charge = true ∧ b.lastUse ≠ some today ∧ b.ticket.days ≤ b.used
    let back := 0 < s.adm.settings.lockout ∧
      ∃ r l, b.record = some r ∧ r.lastPassage = some l ∧ s.time.runSec - l.second < s.adm.settings.lockout
    let x := ruleRefusal s n b (some g)
    (early → x = some .notYet) ∧ (¬early → late → x = some .expired) ∧
      (¬early → ¬late → barred → x = some .rule ∧ ruleRefusal s n b none = some .rule) ∧
      (¬early → ¬late → ¬barred → spent → x = some .noDays) ∧
      (¬early → ¬late → ¬barred → ¬spent → back → x = some .passback) ∧
      (¬early → ¬late → ¬barred → ¬spent → ¬back → x = none)

/-- A card answer at a lane with a good ticket block of the resort: with the pass held by another lane's context a
lookup alone, and the values of the record as found, or the card's where it has none or no ticket group; else, where
the record is found, the merge write; where the pass is absent, UNREADABLE with UNLEARNED on a failed usage check, and
otherwise a learn request, with the merge write on the new record, or the card's own values where learning is masked
or fails, a failure being counted (R65, R66, R6, R7, R9). That a card with a failed usage check whose pass is held
elsewhere follows the first of these is the model's reading (log 36). The first check of Table 3-3 that holds refuses
the card: verdict, repeat-quiet memory, count, signal and tone, and the write-back of a record found ahead, while
table, contexts and queue stay (R67, R69, R70); a card that passes all is admitted under its governing rule, with its
admission note beside the context, or outside RUN with the write-back (R68, R70, R71). That a refusal by a check
before NOT_YET carries class 0 is the model's reading (log 25). -/
def Obligations.LaneCardAnswersReachTheTable : Prop :=
  (∀ (n : Lane) (c : Card) (s : State), c.ticketOk = true → c.resort = s.adm.settings.resort →
     let elsewhere := ∃ m, m ≠ n ∧ s.ctxPass m = some c.pass
     let seen := s.updateRecord c.pass fun r => { r with lastSeen := s.time.runSec }
     let own := fun x : Option PassRecord =>
       ({ ticket := c.ticket, used := min c.used c.ticket.days, lastUse := if 1 ≤ c.used then some c.lastUse else none,
          behind := false, record := x } : Basis)
     let merged := fun (t : State) (r : PassRecord) =>
       (t.updateRecord c.pass (mergeWrite c)).judge n c
         { ticket := r.ticket.getD c.ticket, used := (mergeWrite c r).used, lastUse := (mergeWrite c r).lastUse,
           behind := aheadOf c r, record := some (mergeWrite c r) }
     (elsewhere →
       (s.record c.pass = none → s.admission n c = seen.judge n c (own none)) ∧
         ∀ r, s.record c.pass = some r →
           let r' := { r with lastSeen := s.time.runSec }
           (r.ticket = none → s.admission n c = seen.judge n c (own (some r'))) ∧
             ∀ k, r.ticket = some k → s.admission n c = seen.judge n c
               { ticket := k, used := r.used, lastUse := r.lastUse, behind := false, record := some r' }) ∧
       (¬elsewhere →
         (∀ r, s.record c.pass = some r → s.admission n c = merged seen { r with lastSeen := s.time.runSec }) ∧
           (s.record c.pass = none → c.usageOk = false →
             let t := s.admission n c
             t.table = s.table ∧ t.load = s.load ∧ t.reader = s.reader ∧ (t.lane n).passage = (s.lane n).passage ∧
               (t.lane n).signal = some { kind := .refusal, endAt := s.time.ms + 2000 } ∧
               (∃ v, t.adm.verdicts.get n = some v ∧ v.kind = .refuse .unreadable ∧ v.pass = c.pass ∧
                 v.product = some c.ticket.product ∧ v.remaining = 255 ∧
                 v.flags = { VerdictFlags.none with unlearned := true }) ∧
               t.counts.current.refusals.get n = (s.counts.current.refusals.get n).set 0
                 (min max16 ((s.counts.current.refusals.get n)[0] + 1))) ∧
           (s.record c.pass = none → c.usageOk = true →
             (s.adm.settings.learnMask.get n = false → s.admission n c = s.judge n c (own none)) ∧
               (s.adm.settings.learnMask.get n = true → placeFor s.table c.pass = none →
                 s.admission n c = (s.countLift fun l =>
                   { l with learnFailures := min max32 (l.learnFailures + 1) }).judge n c (own none)) ∧
               ∀ k evicted, s.adm.settings.learnMask.get n = true → placeFor s.table c.pass = some (k, evicted) →
                 let r : PassRecord :=
                   { pass := c.pass, origin := .learned, state := .active, ticket := none, used := 0, lastUse := none,
                     consumedHere := none, rides := none, lastPassage := none, behind := false, live := none,
                     lastSeen := s.time.runSec }
                 s.admission n c = merged (s.withTable fun t => putSlot t k r) r))) ∧
  (∀ (n : Lane) (c : Card) (b : Basis) (s : State),
     let g := (governingRule s.adm.rules b.ticket.product).map (·.2)
     let early := earlyRefusal s n c b
     let late := ruleRefusal s n b g
     let t := s.judge n c b
     let backed := fun t : State =>
       (b.behind = false → t.reader = s.reader) ∧
         ∀ r, b.behind = true → s.record c.pass = some r →
           t.reader =
             if s.reader.map.get (.lane n) = none ∨ (s.reader.pos.get (.lane n)).fault = true then s.reader
             else { s.reader with stamps := s.reader.stamps ++
               [{ position := .lane n, requester := .writeBack, pass := c.pass, used := r.used, lastUse := r.lastUse,
                  mark := decide (r.state = .refunded), seq := (c.seq + 1) % 256, attempts := s.reader.settings.attempts,
                  time := s.time.ms, echoed := none }] }
     (early = none → late = none → ∃ r, g = some r ∧ t = s.admitCard n c b r) ∧
       (∀ x, early = some x ∨ (early = none ∧ late = some x) →
         t.table = s.table ∧ t.load = s.load ∧ t.refund = s.refund ∧ (t.lane n).passage = (s.lane n).passage ∧
           (t.lane n).ctx = (s.lane n).ctx ∧ (∀ m, m ≠ n → t.lane m = s.lane m) ∧
           (∃ v, t.adm.verdicts.get n = some v ∧ v.kind = .refuse x ∧ v.pass = c.pass ∧
             v.seq = nextSeq (s.adm.verdicts.get n) ∧ v.product = some b.ticket.product ∧
             v.lastDay = some b.ticket.lastDay ∧ v.remaining = b.ticket.days - b.used ∧
             v.flags = { VerdictFlags.none with unlearned := b.record.isNone, behind := b.behind } ∧
             v.cls = if early = none then (g.map (·.cls)).getD 0 else 0) ∧
           t.adm.quiet.get n = some { pass := c.pass, deadline := s.time.ms + s.adm.settings.quiet * 100 } ∧
           t.counts.current.refusals.get n = (s.counts.current.refusals.get n).set x.index.val
             (min max16 ((s.counts.current.refusals.get n)[x.index.val] + 1)) ∧
           (t.lane n).signal = some { kind := .refusal, endAt := s.time.ms + 2000 } ∧
           (t.lane n).tone = (if (s.lane n).settings.mute then none
             else some { pattern := .twoLow, start := s.time.ms, endAt := s.time.ms + 300,
                         first := (s.lane n).settings.low, second := some (s.lane n).settings.low }) ∧
           (t.port (.lp n)).notices = (s.port (.lp n)).notices ||| LaneNotice.verdict.mask ∧ backed t) ∧
       ∀ r : LaneRule, s.supply.state ≠ .run → backed (s.admitCard n c b r)) ∧
  ∀ (n : Lane) (c : Card) (b : Basis) (r : LaneRule) (s : State), s.supply.state = .run →
    let newDay := decide (r.charge = true ∧ b.lastUse ≠ some s.time.lastDay)
    (s.admitCard n c b r).adm.notes.get n = some
      { cls := r.cls
        data := some
          { seq := c.seq
            flags := { newDay := newDay, noCharge := !r.charge, unlearned := b.record.isNone, behind := b.behind,
                       fromQueue := false }
            product := b.ticket.product, days := b.ticket.days, used := b.used, lastDay := b.ticket.lastDay } }

/-- A card whose ticket check failed (UNREADABLE) or of another resort (FOREIGN) leaves the pass table, the queue and
the requests of the reader alone; its lane gets a REFUSE verdict with the next sequence, the refusal count, the
refusal signal, and the repeat-quiet memory of the pass (R54, R64, R69). A pass that passes every check gets its
flags, days remaining and class in the verdict; in RUN a lane context, the LIVE pin of its record, and the release or
a place in the queue; outside RUN the verdict WITHDRAWN with LOW_SUPPLY, one withdrawal counted, and no context (R68,
R77, R111). -/
def Obligations.CardsAreRefusedOrAdmitted : Prop :=
  (∀ (n : Lane) (c : Card) (s : State),
     let bad := c.ticketOk = false ∨ (c.ticketOk = true ∧ c.resort ≠ s.adm.settings.resort)
     let reason : RefuseReason := if c.ticketOk then .foreign else .unreadable
     let t := s.admission n c
     bad →
       t.table = s.table ∧ t.load = s.load ∧ t.reader = s.reader ∧ t.refund = s.refund ∧
         (t.lane n).passage = (s.lane n).passage ∧
         (∃ v, t.adm.verdicts.get n = some v ∧ v.kind = .refuse reason ∧ v.pass = c.pass ∧
           v.seq = nextSeq (s.adm.verdicts.get n)) ∧
         t.adm.quiet.get n = some { pass := c.pass, deadline := s.time.ms + s.adm.settings.quiet * 100 } ∧
         t.counts.current.refusals.get n =
           (s.counts.current.refusals.get n).set reason.index.val
             (min max16 ((s.counts.current.refusals.get n)[reason.index.val] + 1)) ∧
         (t.lane n).signal = some { kind := .refusal, endAt := s.time.ms + 2000 } ∧
         (t.port (.lp n)).notices = (s.port (.lp n)).notices ||| LaneNotice.verdict.mask ∧
         ∀ m, m ≠ n → t.lane m = s.lane m ∧ t.adm.verdicts.get m = s.adm.verdicts.get m) ∧
  ∀ (n : Lane) (c : Card) (b : Basis) (g : LaneRule) (s : State),
    let newDay := g.charge = true ∧ b.lastUse ≠ some s.time.lastDay
    let flags : VerdictFlags :=
      { newDay := decide newDay, noCharge := !g.charge, unlearned := b.record.isNone, behind := b.behind,
        fromQueue := false }
    let left := b.ticket.days - b.used - (if newDay then 1 else 0)
    let t := s.admitCard n c b g
    (∃ v, t.adm.verdicts.get n = some v ∧ v.pass = c.pass ∧ v.flags = flags ∧ v.remaining = left ∧ v.cls = g.cls ∧
      v.kind =
        (if s.supply.state ≠ .run then .withdrawn .lowSupply
        else if s.room = true ∧ s.load.queue = [] then .admitted else .queued)) ∧
      t.adm.quiet.get n = none ∧ (∀ m, m ≠ n → t.lane m = s.lane m) ∧ t.refund = s.refund ∧
      (s.supply.state ≠ .run →
        (t.lane n).passage = (s.lane n).passage ∧ (t.lane n).ctx = (s.lane n).ctx ∧ t.table = s.table ∧
          t.load = s.load ∧
          (t.counts.current.lanes.get n).withdrawals =
            min max32 ((s.counts.current.lanes.get n).withdrawals + 1)) ∧
      (s.supply.state = .run →
        (∃ x, (t.lane n).ctx = some x ∧ x.pass = some c.pass ∧ x.cls = g.cls ∧ x.newDay = decide newDay ∧
          x.noCharge = !g.charge) ∧
          (∀ r, s.record c.pass = some r → ∃ r', t.record c.pass = some r' ∧ r'.live = some n) ∧
          (s.room = true → s.load.queue = [] →
            (t.lane n).passage = (if (s.lane n).tracker = .fromEntry false then .entering else .granted) ∧
              t.load = { s.load with live := s.load.live + 1 }) ∧
          (¬(s.room = true ∧ s.load.queue = []) →
            (t.lane n).passage = .queued ∧
              t.load = { s.load with
                queue := enqueue { lane := n, pass := c.pass, cls := g.cls, enqueued := s.time.ms,
                                   deadline := s.time.ms + s.load.hold * 1000 } s.load.queue }))

/-! ## Lanes (chapter 4) -/

/-- The reply carries the mode and the passage state; the mode the lane already has changes nothing; a lane outside 0
to 3 or an unknown mode is BAD_ARG. A change: the lane takes the mode, hands over the withdrawal of a QUEUED context
with LANE_CLOSED where the new mode is not OPEN, empties the repeat-quiet memory where the old one was, raises MODE
where the station ordered it, and leaves the passage state, the context and the other lanes (R82, R83). -/
def Obligations.LaneModeIsAnsweredAndActs : Prop :=
  (∀ (p : Port) (n : Lane) (m : Mode) (s : State), s.portOpen p = true → p = .sp ∨ p = .lp n →
     ((s.lane n).mode = m →
       exec (.laneMode p (laneCode n) m.code) s =
         .next ((s.taken p).answered p 0x41 .ok (.laneMode m (s.lane n).passage))) ∧
       ((s.lane n).mode ≠ m →
         exec (.laneMode p (laneCode n) m.code) s =
           .next (((s.taken p).changeMode n m (decide (p = .sp))).answered p 0x41 .ok
             (.laneMode m (s.lane n).passage))) ∧
       ∀ lane mode : Byte, laneOf lane = none ∨ (lane = laneCode n ∧ modeOf mode = none) →
         exec (.laneMode p lane mode) s = .next ((s.taken p).answered p 0x41 .badArg .none)) ∧
  ∀ (n : Lane) (m : Mode) (station : Bool) (s : State),
    let t := s.changeMode n m station
    (t.lane n).mode = m ∧ (t.lane n).passage = (s.lane n).passage ∧ (t.lane n).ctx = (s.lane n).ctx ∧
      (t.load =
        if m ≠ .opened ∧ (s.lane n).passage = .queued then
          { s.load with handed := s.load.handed ++ [{ lane := n, reason := .laneClosed }] }
        else s.load) ∧
      (t.adm.quiet.get n = if (s.lane n).mode = .opened then none else s.adm.quiet.get n) ∧
      ((t.port (.lp n)).notices =
        if station then (s.port (.lp n)).notices ||| LaneNotice.mode.mask else (s.port (.lp n)).notices) ∧
      (∀ k, k ≠ n → t.lane k = s.lane k) ∧ t.table = s.table ∧ t.counts = s.counts ∧ t.refund = s.refund ∧
      t.reader.stamps = s.reader.stamps

/-- MANUAL GRANT at an OPEN, IDLE lane in RUN creates a manual context and asks for the release: with room and an
empty queue the lane is GRANTED, or ENTERING with a rider in the entry beam, else QUEUED behind the class 0 entries. A
lane not OPEN and IDLE is STATE, a supply not in RUN LOW_SUPPLY, a lane byte outside 0 to 3 BAD_ARG (R97, R111, R190).
-/
def Obligations.ManualGrantAsksForRelease : Prop :=
  ∀ (n : Lane) (s : State), s.portOpen (.lp n) = true →
    let p := Port.lp n
    let order := Instr.manualGrant p (laneCode n)
    (∀ lane : Byte, 3 < lane.toNat →
      exec (.manualGrant p lane) s = .next ((s.taken p).answered p 0x44 .badArg .none)) ∧
      ((s.lane n).mode ≠ .opened ∨ (s.lane n).passage ≠ .idle →
      exec order s = .next ((s.taken p).answered p 0x44 .state .none)) ∧
      ((s.lane n).mode = .opened → (s.lane n).passage = .idle → s.supply.state ≠ .run →
        exec order s = .next ((s.taken p).answered p 0x44 .lowSupply .none)) ∧
      ((s.lane n).mode = .opened → (s.lane n).passage = .idle → s.supply.state = .run →
        ∃ t : State, exec order s = .next (t.answered p 0x44 .ok (.passage (t.lane n).passage)) ∧
          (s.room = true → s.load.queue = [] →
            (t.lane n).passage = (if (s.lane n).tracker = .fromEntry false then .entering else .granted) ∧
              t.load = { s.load with live := s.load.live + 1 }) ∧
          (¬(s.room = true ∧ s.load.queue = []) →
            (t.lane n).passage = .queued ∧
              t.load = { s.load with
                queue := enqueue { lane := n, pass := 0, cls := 0, enqueued := s.time.ms,
                                   deadline := s.time.ms + s.load.hold * 1000 } s.load.queue }) ∧
          (∃ c, (t.lane n).ctx = some c ∧ c.pass = none ∧ c.cls = 0) ∧
          (∃ v, t.adm.verdicts.get n = some v ∧ v.kind = .manual ∧ v.pass = 0) ∧ t.adm.quiet.get n = none ∧
          t.table = s.table ∧ t.refund = s.refund ∧ t.counts = s.counts ∧ ∀ m, m ≠ n → t.lane m = s.lane m)

/-- The beam tracker follows Table 4-1 (R85). A raw change of a beam in a running part: a level other than the
debounced one waits from this moment, a return cancels the wait, and the debounced level stands. After the debounce
time the debounced level takes the raw one, a break or a clear of that beam moves the lane's tracker by the table, and
what the tracker hands over acts on the lane (R84, R85): an entry begun makes a GRANTED lane ENTERING (R89); a back-
out makes an ENTERING lane GRANTED again, or ends its grant as expired once the window end is reached (R90); a reverse
passage takes a rider from the area, is counted and reported, and runs the service step (R95); a forward passage is
attributed; anything else changes nothing. That BEAM DEBOUNCED CHANGE before the debounce time changes nothing is the
model's choice (log 3). -/
def Obligations.BeamsDriveTheTracker : Prop :=
  (trackBreak .enb .clear = (.fromEntry false, .entryBegun) ∧ trackBreak .exb .clear = (.fromExit false, .exitBegun) ∧
     trackBreak .exb (.fromEntry false) = (.fromEntry true, .forward) ∧
     trackBreak .exb (.fromEntry true) = (.fromEntry true, .nothing) ∧
     trackBreak .enb (.fromExit false) = (.fromExit true, .reverse) ∧
     trackBreak .enb (.fromExit true) = (.fromExit true, .nothing) ∧
     (∀ seen, trackBreak .enb (.fromEntry seen) = (.fromEntry seen, .nothing)) ∧
     (∀ seen, trackBreak .exb (.fromExit seen) = (.fromExit seen, .nothing)) ∧
     (∀ seen, trackClear false (.fromEntry seen) = (.clear, .cleared seen)) ∧
     (∀ seen, trackClear false (.fromExit seen) = (.clear, .cleared seen)) ∧
     (∀ seen, trackClear true (.fromEntry seen) = (.fromEntry seen, .nothing)) ∧
     (∀ seen, trackClear true (.fromExit seen) = (.fromExit seen, .nothing))) ∧
  (∀ (n : Lane) (b : Beam) (s : State),
     let u := s.lane n
     let other := match b with
       | .enb => u.exb.level
       | .exb => u.enb.level
     let moved := if (u.beam b).raw then trackBreak b u.tracker else trackClear other u.tracker
     let d : Debounced := { raw := (u.beam b).raw, level := (u.beam b).raw, since := none }
     s.beamChanged n b = (s.withLane n fun u => { u.setBeam b d with tracker := moved.1 }).handOver n moved.2) ∧
  (∀ (n : Lane) (s : State),
     let u := s.lane n
     let passed := ∃ c e, u.ctx = some c ∧ c.windowEnd = some e ∧ e ≤ s.time.ms
     s.handOver n .nothing = s ∧ s.handOver n .exitBegun = s ∧ s.handOver n (.cleared true) = s ∧
       s.handOver n .forward = s.forwardPassage n ∧
       (u.passage = .granted →
         s.handOver n .entryBegun = s.withLane n fun u => { u with passage := .entering }) ∧
       (u.passage ≠ .granted → s.handOver n .entryBegun = s) ∧
       (u.passage ≠ .entering → s.handOver n (.cleared false) = s) ∧
       (u.passage = .entering → ¬passed →
         s.handOver n (.cleared false) = s.withLane n fun u => { u with passage := .granted }) ∧
       (u.passage = .entering → passed →
         ∃ t : State, s.handOver n (.cleared false) = t.serviceStep ∧ (t.lane n).passage = .idle ∧
           (t.lane n).ctx = none ∧ t.load = { s.load with live := s.load.live - 1 } ∧
           (t.counts.current.lanes.get n).expiries = min max32 ((s.counts.current.lanes.get n).expiries + 1) ∧
           (∃ r, (t.lane n).report = some r ∧ r.kind = .expired ∧ r.pass = (s.ctxPass n).getD 0) ∧
           ∀ m, m ≠ n → t.lane m = s.lane m) ∧
       ∃ t : State, s.handOver n .reverse = t.serviceStep ∧
         t.load = { s.load with occupancy := s.load.occupancy - 1 } ∧
         (t.counts.current.lanes.get n).reverse = min max32 ((s.counts.current.lanes.get n).reverse + 1) ∧
         t.counts.current.lift = s.counts.current.lift ∧
         (∃ r, (t.lane n).report = some r ∧ r.kind = .reverse ∧ r.pass = 0 ∧ r.second = s.time.runSec) ∧
         (t.port (.lp n)).notices = (s.port (.lp n)).notices ||| LaneNotice.passage.mask ∧
         (t.lane n).passage = u.passage ∧ (t.lane n).ctx = u.ctx ∧ t.table = s.table ∧
         ∀ m, m ≠ n → t.lane m = s.lane m) ∧
  ∀ (n : Lane) (b : Beam) (s : State), s.stopped = false →
    let d := (s.lane n).beam b
    (∀ broken, broken ≠ d.raw →
      exec (.beamRawChange n b broken) s =
        .next (s.withLane n fun u => u.setBeam b
          { raw := broken, level := d.level, since := if broken = d.level then none else some s.time.ms })) ∧
      (∀ t0, d.since = some t0 → t0 + s.debounce ≤ s.time.ms →
        exec (.beamDebouncedChange n b) s = .next (s.beamChanged n b).arbiter ∧
          ((s.beamChanged n b).lane n).beam b = { raw := d.raw, level := d.raw, since := none }) ∧
      ((∀ t0, d.since = some t0 → s.time.ms < t0 + s.debounce) → exec (.beamDebouncedChange n b) s = .next s)

/-- Every forward passage puts one rider more in the area, up to 255, with the peak following; it counts one passage
of the lane and of the lift's total, of which neither moves where the total stands at its greatest value, and one of
the open bin, which saturates on its own (R104, R123 to R125). In ENTERING it completes the grant: IDLE without a
context, one live grant less, an admitted or manual passage, the report and PASSAGE (R91, R105). Outside ENTERING it
is a free passage in FREE and an intrusion in OPEN and CLOSED, which leave passage states, contexts and records; an
intrusion starts its signal and tells the station (R94). -/
def Obligations.ForwardPassagesAreAttributed : Prop :=
  (∀ (n : Lane) (s : State),
     let t := s.forwardPassage n
     let more := s.load.occupancy < 255
     let counted := s.counts.current.lift.total < max32
     t.load.occupancy = (if more then s.load.occupancy + 1 else s.load.occupancy) ∧
       t.counts.current.lift = { s.counts.current.lift with
         total := if counted then s.counts.current.lift.total + 1 else s.counts.current.lift.total
         peak := if more then max s.counts.current.lift.peak (s.load.occupancy + 1)
           else s.counts.current.lift.peak } ∧
       t.counts.openBin = { s.counts.openBin with passages := min max16 (s.counts.openBin.passages + 1) } ∧
       t.counts.ring = s.counts.ring ∧ t.counts.previous = s.counts.previous ∧
       t.counts.current.refusals = s.counts.current.refusals ∧
       (¬counted → t.counts.current.lanes = s.counts.current.lanes) ∧
       ∀ m, m ≠ n → t.counts.current.lanes.get m = s.counts.current.lanes.get m) ∧
  (∀ (n : Lane) (s : State), (s.lane n).passage = .entering →
     let t := s.forwardPassage n
     let counted := s.counts.current.lift.total < max32
     let c := s.counts.current.lanes.get n
     let manual := s.ctxPass n = none
     (t.lane n).passage = .idle ∧ (t.lane n).ctx = none ∧
       t.load = { s.load with live := s.load.live - 1, occupancy := t.load.occupancy } ∧
       (counted → t.counts.current.lanes.get n =
         if manual then { c with manual := c.manual + 1 } else { c with admitted := c.admitted + 1 }) ∧
       (∃ r, (t.lane n).report = some r ∧ r.kind = (if manual then .manual else .admitted) ∧
         r.pass = (s.ctxPass n).getD 0 ∧ r.second = s.time.runSec) ∧
       (t.port (.lp n)).notices = (s.port (.lp n)).notices ||| LaneNotice.passage.mask ∧
       (∀ m, m ≠ n → t.lane m = s.lane m) ∧ t.refund = s.refund ∧ t.reader = s.reader) ∧
  ∀ (n : Lane) (s : State), (s.lane n).passage ≠ .entering →
    let t := s.forwardPassage n
    let counted := s.counts.current.lift.total < max32
    let c := s.counts.current.lanes.get n
    let free := (s.lane n).mode = .free
    t.load = { s.load with occupancy := t.load.occupancy } ∧ t.table = s.table ∧
      (t.lane n).passage = (s.lane n).passage ∧ (t.lane n).ctx = (s.lane n).ctx ∧
      (counted → t.counts.current.lanes.get n =
        if free then { c with free := c.free + 1 } else { c with intrusions := c.intrusions + 1 }) ∧
      (∃ r, (t.lane n).report = some r ∧ r.kind = (if free then .free else .intrusion) ∧ r.pass = 0) ∧
      (t.lane n).signal = (if free then (s.lane n).signal
        else some { kind := .intrusion, endAt := s.time.ms + 3000 }) ∧
      (t.port .sp).notices = (if free then (s.port .sp).notices
        else (s.port .sp).notices ||| StationNotice.intrusion.mask) ∧
      ∀ m, m ≠ n → t.lane m = s.lane m

/-- GRANT EXPIRY in GRANTED with the window end reached: the lane is IDLE without a context, one live grant less, one
expiry more, the report EXPIRED, and then the service step; before the window end it changes nothing (R89). A
repeat-quiet memory, a timed signal and a tone end each at its moment, changing nothing else but the lamp (R54, R99,
R100). That such a command before its moment changes nothing is the model's choice (log 3). -/
def Obligations.LaneDeadlinesEnd : Prop :=
  (∀ (n : Lane) (c : Context) (e : Nat) (s : State), s.stopped = false → (s.lane n).passage = .granted →
     (s.lane n).ctx = some c → c.windowEnd = some e →
       (s.time.ms < e → exec (.grantExpiry n) s = .next s) ∧
         (e ≤ s.time.ms →
           ∃ t : State, exec (.grantExpiry n) s = .next t.serviceStep.arbiter ∧ (t.lane n).passage = .idle ∧
             (t.lane n).ctx = none ∧ t.load = { s.load with live := s.load.live - 1 } ∧
             (t.counts.current.lanes.get n).expiries =
               min max32 ((s.counts.current.lanes.get n).expiries + 1) ∧
             (∃ r, (t.lane n).report = some r ∧ r.kind = .expired ∧ r.pass = c.pass.getD 0) ∧
             (∀ m, m ≠ n → t.lane m = s.lane m))) ∧
  ∀ (n : Lane) (s : State), s.stopped = false →
    (∀ q, s.adm.quiet.get n = some q →
      exec (.repeatQuietDeadline n) s =
        .next (if q.deadline ≤ s.time.ms then s.withAdm fun a => { a with quiet := a.quiet.set n none } else s)) ∧
      (∀ g, (s.lane n).signal = some g →
        exec (.timedSignalEnd n) s =
          .next (if g.endAt ≤ s.time.ms then s.withLane n fun u => { u with signal := none } else s)) ∧
      ∀ w, (s.lane n).tone = some w →
        exec (.tonePatternEnd n) s =
          .next (if w.endAt ≤ s.time.ms then s.withLane n fun u => { u with tone := none } else s)

/-- The lamp state of a lane is the first entry of Table 4-3 whose condition holds, and RELn is asserted exactly in
GRANTED and ENTERING and in FREE mode of a running part (R98, R99, R183). -/
def Obligations.LampAndReleaseFollowTheTables : Prop :=
  (∀ u : LaneUnit,
    let live := u.passage = .granted ∨ u.passage = .entering
    let sig := u.signal.map (·.kind)
    (live → u.lampState = .greenSteady) ∧ (¬live → sig = some .intrusion → u.lampState = .redBlink) ∧
      (¬live → sig = some .refusal ∨ sig = some .withdrawn → u.lampState = .redSteady) ∧
      (¬live → sig = none → u.passage = .queued → u.lampState = .greenBlink) ∧
      (¬live → sig = none → u.passage = .idle →
        u.lampState = match u.mode with
          | .closed => .redSteady
          | .free => .greenSteady
          | .opened => .dark)) ∧
    ∀ (s : State) (n : Lane), s.rel n = true ↔
      s.stopped = false ∧ ((s.lane n).passage = .granted ∨ (s.lane n).passage = .entering ∨ (s.lane n).mode = .free)

/-! ## Loading area and release queue (chapter 5) -/

/-- Room exists where occupancy plus live grants are below the limit, LIFT_STOP is inactive and the supply is RUN
(R109). A new entry stands after every entry of an equal or lower class number and before every entry of a higher one
(R110). The service step grants the head while the queue is not empty and room exists, and leaves an empty queue or no
room; it removes entries from the front alone, and each is one live grant more (R112). A grant from the queue updates
the verdict record from the admission note, with FROM_QUEUE (R78). An entry whose withdrawal was handed over before is
withdrawn and not granted, since the order that handed it over was taken first (R23, R83); that the service step is
where it is taken at the latest is the model's reading (log 12). -/
def Obligations.QueueIsServedWhileRoomLasts : Prop :=
  (∀ s : State, s.room = true ↔
     s.load.occupancy + s.load.live < s.load.limit ∧ s.load.liftStop = false ∧ s.supply.state = .run) ∧
  (∀ (e : QueueEntry) (q : List QueueEntry), q.Pairwise (fun a b => a.cls ≤ b.cls) →
     ∃ before after, q = before ++ after ∧ enqueue e q = before ++ e :: after ∧ (∀ x ∈ before, x.cls ≤ e.cls) ∧
       ∀ x ∈ after, e.cls < x.cls) ∧
  (∀ (n : Lane) (s : State),
     let t := s.grantHead n
     ∃ v, t.adm.verdicts.get n = some v ∧ v.seq = nextSeq (s.adm.verdicts.get n) ∧ v.passage = (t.lane n).passage ∧
       v.flags.fromQueue = true ∧ t.load = { s.load with queue := s.load.queue.tail, live := s.load.live + 1 } ∧
       (∀ p note d, s.ctxPass n = some p → s.adm.notes.get n = some note → note.data = some d →
         v.kind = .admitted ∧ v.pass = p ∧ v.flags = { d.flags with fromQueue := true } ∧ v.product = some d.product ∧
           v.remaining = d.days - d.used - (if d.flags.newDay then 1 else 0) ∧ v.lastDay = some d.lastDay ∧
           v.cls = note.cls) ∧
       (s.ctxPass n = none → v.kind = .manual ∧ v.pass = 0 ∧ v.product = none ∧ v.remaining = 255)) ∧
  ∀ s : State,
    let t := s.serviceStep
    (t.load.queue = [] ∨ t.room = false) ∧ (s.room = false → t = s) ∧
      (∀ e rest, s.load.queue = e :: rest → s.room = true → (∀ h ∈ s.load.handed, h.lane ≠ e.lane) →
        t = (s.grantHead e.lane).serviceStep) ∧
      (∀ e rest earlier h later, s.load.queue = e :: rest → s.room = true → s.load.handed = earlier ++ h :: later →
        h.lane = e.lane → (∀ x ∈ earlier, x.lane ≠ e.lane) → t = (s.dropEntry e.lane h.reason).serviceStep) ∧
      (s.load.handed = [] →
        ∃ served, s.load.queue = served ++ t.load.queue ∧ t.load.live = s.load.live + served.length) ∧
      t.load.occupancy = s.load.occupancy ∧ t.load.limit = s.load.limit ∧ t.refund = s.refund

/-- A grant: window end from the lane's setting, GRANTED, or ENTERING with a rider already in the entry beam, one live
grant more, the high tone, and any timed signal ends (R88, R99, R100, R105). -/
def Obligations.GrantReleasesTheLane : Prop :=
  ∀ (n : Lane) (c : Context) (s : State), (s.lane n).ctx = some c →
    let t := s.grant n
    let u := s.lane n
    (t.lane n).passage = (if u.tracker = .fromEntry false then .entering else .granted) ∧
      (t.lane n).ctx =
        some { c with grantTime := some s.time.ms, windowEnd := some (s.time.ms + u.settings.window * 100) } ∧
      (t.lane n).signal = none ∧
      (t.lane n).tone =
        (if u.settings.mute then none
        else some { pattern := .highTone, start := s.time.ms, endAt := s.time.ms + 150, first := u.settings.high,
                    second := none }) ∧
      t.load = { s.load with live := s.load.live + 1 } ∧ ∀ m, m ≠ n → t.lane m = s.lane m

/-- BOARD: a raw change waits as a beam's does; after the debounce time an active level is one pulse, which lowers the
occupancy by one, floored at 0 with one boarding excess, counts the boarding in the day and the open bin and runs the
service step; an inactive level is no event (R107). LIFT_STOP: the level is taken at once; only its becoming inactive
in a running part runs the service step (R108). That the level of LIFT_STOP moves in a stopped part too, where R183
takes no input, is the model's reading (log 19). -/
def Obligations.BoardAndLiftStopActOnTheArea : Prop :=
  (∀ s : State, s.stopped = false →
     (∀ active, active ≠ s.load.board.raw →
       exec (.boardRawChange active) s =
         .next (s.withLoad fun l => { l with board :=
           { raw := active, level := l.board.level,
             since := if active = l.board.level then none else some s.time.ms } })) ∧
       ∀ t0, s.load.board.since = some t0 → t0 + s.debounce ≤ s.time.ms →
         (s.load.board.raw = true →
           ∃ t : State, exec .boardPulse s = .next t.serviceStep.arbiter ∧
             t.load = { s.load with occupancy := s.load.occupancy - 1
                                    board := { raw := true, level := true, since := none } } ∧
             t.counts.current.lift.boarded = min max32 (s.counts.current.lift.boarded + 1) ∧
             t.counts.current.lift.excess =
               (if s.load.occupancy = 0 then min max32 (s.counts.current.lift.excess + 1)
               else s.counts.current.lift.excess) ∧
             t.counts.openBin.boarded = min max16 (s.counts.openBin.boarded + 1) ∧ t.table = s.table ∧
             t.lanes = s.lanes) ∧
           (s.load.board.raw = false →
             exec .boardDebouncedInactive s =
               .next (s.withLoad fun l => { l with board := { raw := false, level := false, since := none } }))) ∧
  ∀ s : State,
    exec (.liftStop true) s = .next (s.withLoad fun l => { l with liftStop := true }) ∧
      (s.stopped = false → s.load.liftStop = true →
        exec (.liftStop false) s = .next (s.withLoad fun l => { l with liftStop := false }).serviceStep.arbiter) ∧
      (s.load.liftStop = false → exec (.liftStop false) s = .next s)

/-- A withdrawal that the loading monitor takes, once the base has reached the entry's hold deadline or where it was
handed over: the entry leaves, the lane is IDLE without a context, its verdict record is WITHDRAWN with the reason,
the withdrawn signal runs, one withdrawal is counted, and the service step follows. Without an entry there is no
effect (R113, R114). That HOLD TIMEOUT before the deadline and WITHDRAWAL TAKEN of nothing handed over change nothing
is the model's choice (log 3); that a withdrawal handed over is taken in a step of its own, and ends with the entry it
was handed over for, is its reading (log 12). -/
def Obligations.WithdrawalTakesTheEntryAway : Prop :=
  ∀ (n : Lane) (r : WithdrawReason) (s : State),
    (s.inQueue n = false → s.withdraw n r = s) ∧
      (s.inQueue n = true →
        ∃ t : State, s.withdraw n r = t.serviceStep ∧ (t.lane n).passage = .idle ∧ (t.lane n).ctx = none ∧
          t.load = { s.load with queue := s.load.queue.filter fun e => e.lane != n
                                 handed := s.load.handed.filter fun h => h.lane != n } ∧
          (∃ v, t.adm.verdicts.get n = some v ∧ v.kind = .withdrawn r ∧ v.seq = nextSeq (s.adm.verdicts.get n)) ∧
          (t.lane n).signal = some { kind := .withdrawn, endAt := s.time.ms + 2000 } ∧
          (t.counts.current.lanes.get n).withdrawals =
            min max32 ((s.counts.current.lanes.get n).withdrawals + 1) ∧
          ∀ m, m ≠ n → t.lane m = s.lane m) ∧
      (s.stopped = false →
        let due := ∃ e ∈ s.load.queue, e.lane = n ∧ e.deadline ≤ s.time.ms
        (due → exec (.holdTimeout n) s = .next (s.withdraw n .holdTimeout).arbiter) ∧
          (¬due → exec (.holdTimeout n) s = .next s) ∧
          ({ lane := n, reason := r } ∈ s.load.handed →
            exec (.withdrawalTaken n r) s =
              .next ((s.withLoad fun l =>
                { l with handed := l.handed.erase { lane := n, reason := r } }).withdraw n r).arbiter) ∧
          ({ lane := n, reason := r } ∉ s.load.handed → exec (.withdrawalTaken n r) s = .next s))

/-! ## Counts (chapter 6) -/

/-- COUNTS READ returns the part of the set that the period names, as counted, with the counted day and, for today,
the clock state; the previous set may be NOT_FOUND; bins are read for today. The station port reads every part, of any
lane, and a lane port its own lane's lane and refusal parts, with the same answers. An unknown period or part, a lane
outside 0 to 3 where the part has one, bins of the previous period, and a start position or number of bins out of
range are BAD_ARG; the lift part and the bins ignore the lane byte. Nothing changes but the port (R128, R171, Table
11-1). -/
def Obligations.CountsReadReturnsTheSet : Prop :=
  ∀ (p : Port) (n : Lane) (start number : Byte) (s : State), s.portOpen p = true →
    let same := fun res body => Host.Outcome.next ((s.taken p).answered p 0x61 res body)
    let read := fun period part lane => exec (.countsRead p period part lane start number) s
    let set := some s.time.tod.isSome
    let now := s.counts.current
    let inRange := start.toNat ≤ 59 ∧ 1 ≤ number.toNat ∧ number.toNat ≤ 6
    (p = .sp ∨ p = .lp n →
      read 0 0 (laneCode n) = same .ok (.lanePart now.day set (now.lanes.get n)) ∧
        read 0 1 (laneCode n) = same .ok (.refusalPart now.day set (now.refusals.get n)) ∧
        (∀ c, s.counts.previous = some c →
          read 1 0 (laneCode n) = same .ok (.lanePart c.day none (c.lanes.get n)) ∧
            read 1 1 (laneCode n) = same .ok (.refusalPart c.day none (c.refusals.get n))) ∧
        (s.counts.previous = none →
          read 1 0 (laneCode n) = same .notFound .none ∧ read 1 1 (laneCode n) = same .notFound .none) ∧
        ∀ period part : Byte, 1 < period.toNat → part.toNat ≤ 1 → read period part (laneCode n) = same .badArg .none) ∧
      (∀ period part lane : Byte, 3 < part.toNat ∨ (part.toNat ≤ 1 ∧ 3 < lane.toNat) →
        read period part lane = same .badArg .none) ∧
      (p = .sp → ∀ lane : Byte,
        read 0 2 lane = same .ok (.liftPart now.day set now.lift) ∧
          (∀ c, s.counts.previous = some c → read 1 2 lane = same .ok (.liftPart c.day none c.lift)) ∧
          (s.counts.previous = none → read 1 2 lane = same .notFound .none) ∧
          (inRange → read 0 3 lane = same .ok (.bins s.counts.ring.length
            ((s.counts.ring.drop start.toNat).take number.toNat) s.counts.openBin)) ∧
          (¬inRange → read 0 3 lane = same .badArg .none) ∧ read 1 3 lane = same .badArg .none ∧
          ∀ period part : Byte, 1 < period.toNat → read period part lane = same .badArg .none)

/-! ## Refunds (chapter 7) -/

/-- The computation, for a tariff whose list price of the days bought is above 0 and not below that of the charged
days: the credit with its flag, the charged days with MIN_CHARGE, the used value as the ceiling of A × T(K) / T(D),
gross, fee with FEE_CLAMPED, the refund rounded down to a multiple of the unit, and 0 with BELOW_MINIMUM where it is
above 0 and below the minimum (R138 to R140). A service read whose outcome is CARD empties the service slot and hands
the card to the refund engine (R43). A failed ticket check and another resort refuse the quote by the card alone; a
pass that a lane context holds is looked up and refused; a record found takes the merge write; an absent pass is
refused UNREADABLE on a failed usage check, and REFUNDED, after a learn request, where the card shows the refund mark
(R136). The checks of Table 7-4 follow in their order, and TABLE_FULL where learning fails; a refused quote ends with
the context IDLE and the card's pass in the reply. A quote that passes them is computed on the merged values; a record
found ahead is written back at PS first, and any other has its hold placed at once (R137). Whether a check is read
with the record as the merge write leaves it is the model's reading (log 27), and so is that a card with a failed
usage check whose pass has no record and is held by a lane goes on to the checks (log 36). -/
def Obligations.ServiceReadIsQuoted : Prop :=
  (∀ (today used rides : Nat) (tk : Ticket) (t : Tariff) (r : PassRecord), 0 < t.unit → 0 < t.price tk.days →
    let q := computeQuote today tk used t r rides
    let credited := 1 ≤ used ∧ r.lastUse = some today ∧ r.consumedHere = some today ∧ rides = 0
    let rounded := q.afterFee / t.unit * t.unit
    let below := 0 < rounded ∧ rounded < t.minRefund
    t.price q.charged ≤ t.price tk.days →
      q.product = tk.product ∧ q.days = tk.days ∧ q.paid = tk.paid ∧ q.used = used ∧
        q.charge = (if credited then used - 1 else used) ∧ (q.flags.credited = true ↔ credited) ∧
        q.charged = min tk.days (max q.charge t.minDays) ∧ (q.flags.minCharge = true ↔ q.charge < q.charged) ∧
        q.listK = t.price q.charged ∧ q.listD = t.price tk.days ∧
        q.usedValue ≤ tk.paid ∧ tk.paid * t.price q.charged ≤ q.usedValue * t.price tk.days ∧
        (0 < q.usedValue → (q.usedValue - 1) * t.price tk.days < tk.paid * t.price q.charged) ∧
        q.gross = tk.paid - q.usedValue ∧ q.fee = t.fee ∧ q.afterFee = q.gross - t.fee ∧
        (q.flags.feeClamped = true ↔ q.gross < t.fee) ∧ q.unit = t.unit ∧ q.minRefund = t.minRefund ∧
        q.refund = (if below then 0 else rounded) ∧ (q.flags.belowMinimum = true ↔ below) ∧
        q.flags.cardBehind = false ∧ (∃ k, q.refund = k * t.unit) ∧ q.refund ≤ tk.paid ∧
        t.price 0 = 0 ∧ ∀ k x, t.prices[k]? = some x → t.price (k + 1) = x) ∧
  (∀ (v : CardVisit) (k : Nat) (r : Reception) (f : List Byte) (s : State),
     s.stopped = false → s.reader.visit = some (.card v) → v.purpose = .serviceRead → v.position = .ps →
     s.reader.slot = some (.read k) → outcomeOf 28 0xA1 r = .card → r.frame = some f →
       exec (.readVisitCompletion r) s =
         .next (((s.applyOutcome .ps v.antenna .card).withReader fun d =>
           { d with slot := none }).quoteCard (cardOf f)).endVisit) ∧
  (∀ (c : Card) (tk : Ticket) (r : Option PassRecord) (today : Nat) (s : State),
     let refunded := c.mark = true ∨ ∃ y, r = some y ∧ y.state = .refunded
     let blocked := ∃ y, r = some y ∧ y.state = .blocked
     let riding := ∃ n, s.ctxPass n = some c.pass
     let x := quoteChecks s today c tk r
     (refunded → x = .inl .refunded) ∧ (¬refunded → blocked → x = .inl .blocked) ∧
       (¬refunded → ¬blocked → riding → x = .inl .inUse) ∧
       (¬refunded → ¬blocked → ¬riding →
         ((∀ t ∈ s.refund.tariffs, t.product ≠ tk.product) → x = .inl .noTariff) ∧
           ∀ t earlier later, s.refund.tariffs = earlier ++ t :: later → t.product = tk.product →
             (∀ y ∈ earlier, y.product ≠ tk.product) →
               x = if t.refundable = false then .inl .notRefundable
                 else if tk.lastDay + t.claim < today then .inl .expired else .inr t)) ∧
  ∀ (c : Card) (s : State),
    let today := s.time.lastDay
    let reading : Reading := { pass := c.pass, readDay := today, seq := c.seq, quote := none }
    let begun := s.withRefund fun r => { r with ctx := .reading (some reading) }
    let no := fun (t : State) (res : Result) =>
      (t.withRefund fun r => { r with ctx := .idle }).completeLong res (.cardPass c.pass)
    let seen := begun.updateRecord c.pass fun r => { r with lastSeen := s.time.runSec }
    let riding := ∃ n, s.ctxPass n = some c.pass
    let new : PassRecord :=
      { pass := c.pass, origin := .learned, state := .active, ticket := none, used := 0, lastUse := none,
        consumedHere := none, rides := none, lastPassage := none, behind := false, live := none,
        lastSeen := s.time.runSec }
    let learned := fun k : Nat => (seen.withTable fun t => putSlot t k new).updateRecord c.pass (mergeWrite c)
    let unlearned := seen.countLift fun l => { l with learnFailures := min max32 (l.learnFailures + 1) }
    (c.ticketOk = false → s.quoteCard c = no begun .unreadable) ∧
      (c.ticketOk = true → c.resort ≠ s.adm.settings.resort → s.quoteCard c = no begun .foreign) ∧
      (c.ticketOk = true → c.resort = s.adm.settings.resort →
        (∀ r, riding → s.record c.pass = some r → ∀ res,
          quoteChecks seen today c (r.ticket.getD c.ticket) (some { r with lastSeen := s.time.runSec }) = .inl res →
            s.quoteCard c = no seen res) ∧
        (riding → s.record c.pass = none → ∀ res, quoteChecks seen today c c.ticket none = .inl res →
          s.quoteCard c = no seen res) ∧
        (∀ r, ¬riding → s.record c.pass = some r →
          let found := { r with lastSeen := s.time.runSec }
          let m := mergeWrite c found
          let wrote := seen.updateRecord c.pass (mergeWrite c)
          let tk := r.ticket.getD c.ticket
          (∀ res, quoteChecks wrote today c tk (some m) = .inl res → s.quoteCard c = no wrote res) ∧
            ∀ t, quoteChecks wrote today c tk (some m) = .inr t →
              let q := computeQuote today tk m.used t m (ridesToday s.time m)
              let waits := wrote.withRefund fun x => { x with ctx := .reading (some { reading with quote := some q }) }
              (aheadOf c found = false → s.quoteCard c = wrote.placeHold reading q) ∧
                (aheadOf c found = true → s.unworkable .ps = true → s.quoteCard c = waits.settleWriteBack false) ∧
                (aheadOf c found = true → s.unworkable .ps = false →
                  s.quoteCard c = waits.withReader fun d =>
                    { d with slot := some (.stamp
                      { position := .ps, requester := .writeBack, pass := c.pass, used := m.used, lastUse := m.lastUse,
                        mark := false, seq := (c.seq + 1) % 256, attempts := s.reader.settings.attempts,
                        time := s.time.ms, echoed := none }) })) ∧
        (¬riding → s.record c.pass = none →
          (c.usageOk = false → s.quoteCard c = no seen .unreadable) ∧
            (c.usageOk = true → c.mark = true →
              (∀ k evicted, placeFor s.table c.pass = some (k, evicted) → s.quoteCard c = no (learned k) .refunded) ∧
                (placeFor s.table c.pass = none → s.quoteCard c = no unlearned .refunded)) ∧
            (c.usageOk = true → c.mark = false →
              (∀ res, quoteChecks seen today c c.ticket none = .inl res → s.quoteCard c = no seen res) ∧
                ∀ t, quoteChecks seen today c c.ticket none = .inr t →
                  (placeFor s.table c.pass = none → s.quoteCard c = no unlearned .tableFull) ∧
                    ∀ k evicted, placeFor s.table c.pass = some (k, evicted) →
                      let m := mergeWrite c new
                      s.quoteCard c = (learned k).placeHold reading
                        (computeQuote today c.ticket m.used t m (ridesToday s.time m)))))

/-- TARIFF PUT in two parts: an accepted part 1 is the staging record and changes no set; part 2 of another product or
without a staging record is STATE; else the complete set is checked whole: product, prices in range, T(1) above 0 and
none below the one before, fee, minimum charge, unit, minimum refund and claim days in range; it takes the place of
the set of its product, or the end of a list of fewer than 32, or is answered BAD_ARG or TABLE_FULL, and the staging
record is empty (R131, R191). The 12 last bytes of a part 2 frame are ignored, whatever they hold; a frame of any
other part is BAD_ARG from the station port, DENIED from a lane port, and leaves the staging record (R171, R191).
TARIFF QUERY returns a set by product code or list position with the number held; TARIFF ERASE removes the set of a
product and moves the sets after it up; each has its NOT_FOUND and BAD_ARG (R132). -/
def Obligations.TariffOrdersKeepTheSets : Prop :=
  (∀ (product : BitVec 16) (first : Vector (BitVec 24) 11) (second : Vector (BitVec 24) 10) (fee : BitVec 16) (minDays : Byte)
     (unit minRefund : BitVec 16) (claim refundable : Byte) (s : State), s.portOpen .sp = true →
     let part1 := exec (.tariffPutPart1 .sp product first fee minDays unit minRefund claim refundable) s
     let part2 := exec (.tariffPutPart2 .sp product second) s
     let same := fun res => Host.Outcome.next ((s.taken .sp).answered .sp 0x71 res .none)
     let put := fun st res =>
       Host.Outcome.next (((s.taken .sp).withRefund fun r => { r with staging := st }).answered .sp 0x71 res .none)
     (refundable.toNat ≤ 1 →
       let st : Tariff :=
         { product := product.toNat, prices := first.toList.map (·.toNat), fee := fee.toNat, minDays := minDays.toNat,
           unit := unit.toNat, minRefund := minRefund.toNat, claim := claim.toNat,
           refundable := decide (refundable = 1) }
       part1 = if st.valid then put (some st) .ok else put none .badArg) ∧
       (1 < refundable.toNat → part1 = put none .badArg) ∧
       (s.refund.staging = none → part2 = same .state) ∧
       ∀ st, s.refund.staging = some st →
         (st.product ≠ product.toNat → part2 = same .state) ∧
           (st.product = product.toNat →
             let whole : Tariff := { st with prices := st.prices ++ second.toList.map (·.toNat) }
             (whole.valid = false → part2 = put none .badArg) ∧
               (whole.valid = true → putTariff s.refund.tariffs whole = none → part2 = put none .tableFull) ∧
               ∀ ts, whole.valid = true → putTariff s.refund.tariffs whole = some ts →
                 part2 = .next (((s.taken .sp).withRefund fun r =>
                   { r with staging := none, tariffs := ts }).answered .sp 0x71 .ok .none))) ∧
  (∀ (p : Port) (product : BitVec 16) (second : Vector (BitVec 24) 10) (ignored : List Byte) (s : State),
     ignored.length = 12 →
       let body := [2] ++ beBytes 2 product.toNat ++ (second.toList.map fun x => beBytes 3 x.toNat).flatten ++ ignored
       exec (.orderFrame p (frameOf 0x71 body) false) s = exec (.tariffPutPart2 p product second) s) ∧
  (∀ (p : Port) (part : Byte) (rest : List Byte) (s : State), s.portOpen p = true → part ≠ 1 → part ≠ 2 →
     rest.length = 44 →
       exec (.orderFrame p (frameOf 0x71 (part :: rest)) false) s =
         .next ((s.taken p).answered p 0x71 (if p = .sp then .badArg else .denied) .none)) ∧
  (∀ t : Tariff,
     t.valid = true ↔
       t.product ≤ 4095 ∧ (∀ x ∈ t.prices, x ≤ 1048575) ∧ (∃ x, t.prices[0]? = some x ∧ 0 < x) ∧
         (∀ k x y, t.prices[k]? = some x → t.prices[k + 1]? = some y → x ≤ y) ∧ t.fee ≤ 65535 ∧ t.minDays ≤ 21 ∧
         t.unit ∈ [1, 2, 5, 10, 20, 50, 100, 200, 500] ∧ t.minRefund ≤ 65535 ∧ t.claim ≤ 30) ∧
  (∀ (ts : List Tariff) (t : Tariff),
     ((∃ x ∈ ts, x.product = t.product) →
       putTariff ts t = some (ts.map fun x => if x.product = t.product then t else x)) ∧
       ((∀ x ∈ ts, x.product ≠ t.product) → ts.length < 32 → putTariff ts t = some (ts ++ [t])) ∧
       ((∀ x ∈ ts, x.product ≠ t.product) → 32 ≤ ts.length → putTariff ts t = none)) ∧
  ∀ (value : BitVec 16) (s : State), s.portOpen .sp = true →
    let v := value.toNat
    let found := fun t => Host.Outcome.next ((s.taken .sp).answered .sp 0x72 .ok (.tariff s.refund.tariffs.length t))
    let no := fun code res => Host.Outcome.next ((s.taken .sp).answered .sp code res .none)
    (∀ t, v ≤ 4095 → findTariff s.refund.tariffs v = some t →
      exec (.tariffQuery .sp 0 value) s = found t ∧
        exec (.tariffErase .sp value) s =
          .next (((s.taken .sp).withRefund fun r =>
            { r with tariffs := r.tariffs.filter fun x => x.product != v }).answered .sp 0x73 .ok .none)) ∧
      (v ≤ 4095 → findTariff s.refund.tariffs v = none →
        exec (.tariffQuery .sp 0 value) s = no 0x72 .notFound ∧ exec (.tariffErase .sp value) s = no 0x73 .notFound) ∧
      (4095 < v →
        exec (.tariffQuery .sp 0 value) s = no 0x72 .badArg ∧ exec (.tariffErase .sp value) s = no 0x73 .badArg) ∧
      (∀ t, v ≤ 31 → s.refund.tariffs[v]? = some t → exec (.tariffQuery .sp 1 value) s = found t) ∧
      (v ≤ 31 → s.refund.tariffs[v]? = none → exec (.tariffQuery .sp 1 value) s = no 0x72 .notFound) ∧
      (31 < v → exec (.tariffQuery .sp 1 value) s = no 0x72 .badArg) ∧
      ∀ sel : Byte, 1 < sel.toNat → exec (.tariffQuery .sp sel value) s = no 0x72 .badArg

/-- REFUND QUOTE: BUSY, LOW_SUPPLY, STATE, NO_CARD where PS cannot carry out work, else the context is READING and the
service read is placed, with the order in progress (R36, R135). REFUND COMMIT: STATE, BAD_ARG, LOW_SUPPLY,
JOURNAL_FULL with the hold as it stands, else, where PS can carry out work, the PENDING entry is appended with the
next sequence, the context is COMMITTING and the commit stamp waits at PS, with the order in progress (R145, R152).
Where PS is unmapped or its fault flag is set, the commit stamp ends at once as failed: the entry is gone again and
its sequence given back, the order is answered NO_CARD, and the quote stands, or expires where its deadline has
passed, with the record's prior state and HOLD_END (R36, R144, R146). That the deadline has passed at the run second
equal to it is the model's reading (log 15). -/
def Obligations.QuoteAndCommitAreTaken : Prop :=
  (∀ s : State, s.portOpen .sp = true →
     let no := fun res => Host.Outcome.next ((s.taken .sp).answered .sp 0x75 res .none)
     let busy := s.refund.ctx ≠ .idle
     let low := s.supply.state ≠ .run
     let unset := s.time.tod = none
     let away := s.reader.map.ps = none ∨ s.reader.pos.ps.fault = true
     (busy → exec (.refundQuote .sp) s = no .busy) ∧ (¬busy → low → exec (.refundQuote .sp) s = no .lowSupply) ∧
       (¬busy → ¬low → unset → exec (.refundQuote .sp) s = no .state) ∧
       (¬busy → ¬low → ¬unset → away → exec (.refundQuote .sp) s = no .noCard) ∧
       (¬busy → ¬low → ¬unset → ¬away →
         exec (.refundQuote .sp) s =
           .next ((((s.taken .sp).withRefund fun r => { r with ctx := .reading none }).withReader fun d =>
             { d with slot := some (.read 0) }).arbiter.inProgress .sp 0x75))) ∧
  ∀ (n : BitVec 16) (s : State), s.portOpen .sp = true →
    let no := fun res => Host.Outcome.next ((s.taken .sp).answered .sp 0x76 res .none)
    let away := s.reader.map.ps = none ∨ s.reader.pos.ps.fault = true
    let given := { s.refund with nextSeq := s.refund.nextSeq % 65536 }
    ((∀ q, s.refund.ctx ≠ .quoted q) → exec (.refundCommit .sp n) s = no .state) ∧
      ∀ q, s.refund.ctx = .quoted q →
        (q.number ≠ n.toNat → exec (.refundCommit .sp n) s = no .badArg) ∧
          (q.number = n.toNat →
            (s.supply.state ≠ .run → exec (.refundCommit .sp n) s = no .lowSupply) ∧
              (s.supply.state = .run → 48 ≤ s.refund.journal.length →
                exec (.refundCommit .sp n) s = no .journalFull) ∧
              (s.supply.state = .run → s.refund.journal.length < 48 → away → s.time.runSec < q.deadline →
                exec (.refundCommit .sp n) s =
                  .next ((((s.taken .sp).withRefund fun _ => given).raiseStation .journal).answered .sp 0x76 .noCard
                    .none)) ∧
              (s.supply.state = .run → s.refund.journal.length < 48 → away → q.deadline ≤ s.time.runSec →
                ∃ t : State, exec (.refundCommit .sp n) s = .next (t.answered .sp 0x76 .noCard .none) ∧
                  t.refund = { given with
                    ctx := .idle, lastQuote := s.refund.lastQuote.map fun l => { l with outcome := .expired } } ∧
                  (∀ x st, s.record q.pass = some x → x.state = .held st →
                    t.record q.pass = some { x with state := st.toState }) ∧
                  (∀ p, p ≠ q.pass → t.record p = s.record p) ∧ t.reader = s.reader ∧
                  (t.port .sp).notices =
                    (s.port .sp).notices ||| StationNotice.journal.mask ||| StationNotice.holdEnd.mask) ∧
              ∀ x, s.supply.state = .run → s.refund.journal.length < 48 → ¬away →
                s.record q.pass = some x →
                  ∃ t : State, exec (.refundCommit .sp n) s = .next (t.arbiter.inProgress .sp 0x76) ∧
                    t.refund = { s.refund with
                      journal := s.refund.journal ++
                        [{ seq := s.refund.nextSeq, status := .pending, quote := q.number, pass := q.pass,
                           product := q.quote.product, days := q.quote.days, charged := q.quote.charged,
                           paid := q.quote.paid, refund := q.quote.refund, day := s.time.lastDay,
                           time := s.time.tod.getD 0 }]
                      nextSeq := (s.refund.nextSeq + 1) % 65536
                      ctx := .committing q s.refund.nextSeq } ∧
                    t.reader = { s.reader with
                      slot := some (.stamp
                        { position := .ps, requester := .commit, pass := q.pass, used := x.used, lastUse := x.lastUse,
                          mark := true, seq := (q.seq + 1) % 256, attempts := s.reader.settings.attempts,
                          time := s.time.ms, echoed := none }) } ∧
                    t.table = s.table ∧
                    (t.port .sp).notices = (s.port .sp).notices ||| StationNotice.journal.mask)

/-- The hold is placed: the record's state moves to its prior state and is HELD, the quote takes the next number and a
deadline one refund hold from now, the context is QUOTED, and the order in progress is answered OK with the quote; a
record found REFUNDED refuses the quote (R15, R137), and a record that is gone refuses it NOT_FOUND, which is the
model's choice (log 31). REFUND RELEASE and the hold's expiry end the quote: the record takes its prior state back,
the context is IDLE, and the expiry alone raises HOLD_END; a context that is not QUOTED is STATE, another number
BAD_ARG (R15, R143, R144). That REFUND HOLD EXPIRY before the deadline changes nothing is the model's choice (log 3).
-/
def Obligations.HoldsArePlacedAndEnded : Prop :=
  (∀ (rd : Reading) (q : Quote) (x : PassRecord) (st : Standing) (s : State), s.record rd.pass = some x →
     x.state = st.toState →
       let t := s.placeHold rd q
       let number := (s.refund.lastNumber + 1) % 65536
       let standing : StandingQuote :=
         { pass := rd.pass, readDay := rd.readDay, seq := rd.seq, quote := q, number := number,
           deadline := s.time.runSec + s.refund.hold, hold := s.refund.hold }
       t.record rd.pass = some { x with state := .held st } ∧ t.refund.ctx = .quoted standing ∧
         t.refund.lastNumber = number ∧
         t.refund.lastQuote = some { number := number, pass := rd.pass, refund := q.refund, outcome := .opened } ∧
         t.refund.journal = s.refund.journal ∧
         ∀ code, (s.port .sp).slot = .inProgress code →
           (t.port .sp).slot =
             .ready { code := code, result := .ok, lost := (s.port .sp).lost, body := .quote standing }) ∧
  (∀ (rd : Reading) (q : Quote) (s : State),
     let no := fun res : Result =>
       (s.withRefund fun r => { r with ctx := .idle }).completeLong res (.cardPass rd.pass)
     (s.record rd.pass = none → s.placeHold rd q = no .notFound) ∧
       ∀ x, s.record rd.pass = some x → x.state = .refunded → s.placeHold rd q = no .refunded) ∧
  ∀ (n : BitVec 16) (s : State),
    let ended := fun (s : State) (q : StandingQuote) (e : QuoteEnd) =>
      (s.updateRecord q.pass fun r =>
        { r with state := match r.state with
            | .held p => p.toState
            | x => x }).withRefund fun r =>
        { r with ctx := .idle, lastQuote := r.lastQuote.map fun l => { l with outcome := e } }
    (s.portOpen .sp = true →
      ((∀ q, s.refund.ctx ≠ .quoted q) →
        exec (.refundRelease .sp n) s = .next ((s.taken .sp).answered .sp 0x77 .state .none)) ∧
        ∀ q, s.refund.ctx = .quoted q →
          (q.number ≠ n.toNat → exec (.refundRelease .sp n) s =
            .next ((s.taken .sp).answered .sp 0x77 .badArg .none)) ∧
            (q.number = n.toNat → exec (.refundRelease .sp n) s =
              .next ((ended (s.taken .sp) q .released).answered .sp 0x77 .ok .none))) ∧
      (s.stopped = false →
        ∀ q, s.refund.ctx = .quoted q →
          exec .refundHoldExpiry s =
            .next (if q.deadline ≤ s.time.runSec then (ended s q .expired).raiseStation .holdEnd else s))

/-- The end of a commit: confirmed, the entry is DONE, the record REFUNDED, the context IDLE and the refund counted;
failed, the newest entry leaves and its sequence is given back, and the quote stands again or, past its deadline,
expires and the record takes its prior state back (R146). That the deadline has passed at the run second equal to it
is the model's reading (log 15). STAMP ATTEMPT COMPLETION at PS: an echo of the block sent confirms the service stamp,
clears BEHIND where the usage written is the record's, and tells its requester; an unconfirmed attempt with attempts
left keeps its place with one less, and keeps the echoed pass number; the last one has failed (R45, R46, R13). A
commit answers its order with the result; the write-back of a quote places the hold, with the card sequence advanced
where confirmed and CARD_BEHIND where failed (R137). -/
def Obligations.CommitEndsConfirmedOrFailed : Prop :=
  (∀ (q : StandingQuote) (seq : Nat) (echoed : Option PassNo) (s : State), s.refund.ctx = .committing q seq →
     (∀ t a, s.settleCommit true echoed = (t, a) →
       a = some (.ok, .journalSeq seq) ∧ t.refund.ctx = .idle ∧
         t.refund.journal = s.refund.journal.map (fun e => if e.seq = seq then { e with status := .done } else e) ∧
         (∀ x, s.record q.pass = some x → t.record q.pass = some { x with state := .refunded }) ∧
         t.counts.current.lift.refunds = min max32 (s.counts.current.lift.refunds + 1) ∧
         t.counts.current.lift.refundTotal = min max32 (s.counts.current.lift.refundTotal + q.quote.refund) ∧
         (t.port .sp).notices = (s.port .sp).notices ||| StationNotice.journal.mask) ∧
       ∀ t a, s.settleCommit false echoed = (t, a) →
         a = some (if echoed = none ∨ echoed = some q.pass then .noCard else .cardMismatch, .none) ∧
           t.refund.journal = s.refund.journal.dropLast ∧
           t.refund.nextSeq = (s.refund.nextSeq + 65535) % 65536 ∧
           (s.time.runSec < q.deadline → t.refund.ctx = .quoted q ∧ t.table = s.table) ∧
           (q.deadline ≤ s.time.runSec → t.refund.ctx = .idle ∧
             (∀ x p, s.record q.pass = some x → x.state = .held p →
               t.record q.pass = some { x with state := p.toState }) ∧
             (t.port .sp).notices = (s.port .sp).notices ||| StationNotice.holdEnd.mask)) ∧
  (∀ (r : StampReq) (ok : Bool) (s : State),
     (r.requester = .commit →
       (∀ t res body, s.settleCommit ok r.echoed = (t, some (res, body)) → s.settleService r ok = t.completeLong res body) ∧
         ∀ t, s.settleCommit ok r.echoed = (t, none) → s.settleService r ok = t) ∧
       ∀ rd q, r.requester = .writeBack → s.refund.ctx = .reading (some rd) → rd.quote = some q →
         s.settleService r ok =
           if ok then s.placeHold { rd with seq := (rd.seq + 1) % 256 } q
           else s.placeHold rd { q with flags := { q.flags with cardBehind := true } }) ∧
  ∀ (v : CardVisit) (r : Reception) (q : StampReq) (s : State),
    s.stopped = false → s.reader.visit = some (.card v) → v.purpose = .serviceStamp → v.position = .ps →
    s.reader.slot = some (.stamp q) →
      let o := outcomeOf 14 0xB6 r
      let t := s.applyOutcome .ps v.antenna o
      let frame := r.frame.getD []
      let confirmed := o = .card ∧ (frame.drop 1).take 11 = q.callBytes
      let noted : StampReq :=
        { q with echoed := if o = .card then some (BitVec.ofNat 40 (beNat ((frame.drop 1).take 5))) else q.echoed }
      let left := t.withReader fun d => { d with slot := none }
      (confirmed → exec (.stampAttemptCompletion r) s =
        .next ((left.updateRecord q.pass fun x =>
          if stampMatches q x then { x with behind := false } else x).settleService q true).endVisit) ∧
        (¬confirmed → q.attempts ≤ 1 → exec (.stampAttemptCompletion r) s =
          .next (left.settleService noted false).endVisit) ∧
        (¬confirmed → 1 < q.attempts → exec (.stampAttemptCompletion r) s =
          .next (t.withReader fun d =>
            { d with slot := some (.stamp { noted with attempts := q.attempts - 1 }) }).endVisit)

/-- A count outside 1 to 8 is BAD_ARG; else the reply carries the number of entries held, the next sequence, the
number returned and the oldest n entries in order, all of them where fewer are held, and no entry changes: R150 whole.
-/
def Obligations.JournalReadReturnsTheOldest : Prop :=
  ∀ (n : Byte) (s : State), s.portOpen .sp = true →
    (1 ≤ n.toNat ∧ n.toNat ≤ 8 →
      exec (.journalRead .sp n) s =
        .next ((s.taken .sp).answered .sp 0x79 .ok
          (.journal s.refund.journal.length s.refund.nextSeq (s.refund.journal.take n.toNat)))) ∧
      (¬(1 ≤ n.toNat ∧ n.toNat ≤ 8) →
        exec (.journalRead .sp n) s = .next ((s.taken .sp).answered .sp 0x79 .badArg .none)) ∧
      ∀ held next es, (Body.journal held next es).bytes.take 4 = beBytes 1 held ++ beBytes 2 next ++ beBytes 1 es.length

/-- NOT_FOUND on an empty journal, BAD_ARG on another sequence than the oldest entry's, STATE on a PENDING one, which
happens only when that entry is the only one; else the oldest entry is removed, the next sequence stays, and the reply
counts the entries remaining: R151 whole. -/
def Obligations.JournalRemoveTakesTheOldest : Prop :=
  ∀ (seq : BitVec 16) (s : State), s.portOpen .sp = true →
    let no := fun res => Host.Outcome.next ((s.taken .sp).answered .sp 0x7A res .none)
    (s.refund.journal = [] → exec (.journalRemove .sp seq) s = no .notFound) ∧
      ∀ e rest, s.refund.journal = e :: rest →
        (e.seq ≠ seq.toNat → exec (.journalRemove .sp seq) s = no .badArg) ∧
          (e.seq = seq.toNat → e.status = .pending → exec (.journalRemove .sp seq) s = no .state) ∧
          (e.seq = seq.toNat → e.status ≠ .pending →
            exec (.journalRemove .sp seq) s =
              .next (((s.taken .sp).withRefund fun r => { r with journal := rest }).answered .sp 0x7A .ok
                (.remaining rest.length))) ∧
          (s.refund.journalAgrees → e.status = .pending → rest = [])

/-! ## Time base (chapter 8) -/

/-- CLOCK SET: a time above 86,399, an hour above 23 or an earlier day is BAD_ARG; else a later day makes one rollover
to it, the clock is SET, the hour is taken, and the open bin closes where the clock was UNSET or the minute changes;
the second in progress stands (R126, R159). A rollover: the whole current set becomes the previous-day set, the new
one is zero but for the peak, which is the present occupancy, and counts the new day; every repeat-quiet memory is
empty; ROLLOVER is raised; records, bins, lanes and the queue stay (R127, R158). -/
def Obligations.ClockSetAndRollover : Prop :=
  (∀ (day : BitVec 16) (time : BitVec 24) (hour : Byte) (s : State), s.portOpen .sp = true →
     let ok := time.toNat ≤ 86399 ∧ hour.toNat ≤ 23 ∧ s.time.lastDay ≤ day.toNat
     (¬ok → exec (.clockSet .sp day time hour) s = .next ((s.taken .sp).answered .sp 0x81 .badArg .none)) ∧
       (ok →
         let rolled := if s.time.lastDay < day.toNat then (s.taken .sp).rollover day.toNat else s.taken .sp
         let set := rolled.withTime fun t => { t with tod := some time.toNat, boundaryHour := hour.toNat }
         let same := ∃ tod, s.time.tod = some tod ∧ tod / 60 = time.toNat / 60
         (same → exec (.clockSet .sp day time hour) s =
           .next (set.answered .sp 0x81 .ok (.clockSet time.toNat day.toNat hour.toNat))) ∧
           (¬same → exec (.clockSet .sp day time hour) s =
             .next ((set.withCounts (Counts.closeBin (some (time.toNat / 60)))).answered .sp 0x81 .ok
               (.clockSet time.toNat day.toNat hour.toNat))))) ∧
  ∀ (day : Nat) (s : State),
    let t := s.rollover day
    t.time = { s.time with lastDay := day } ∧ t.counts.previous = some s.counts.current ∧
      t.counts.current =
        { CountSet.zero day with lift := { LiftCounts.zero with peak := s.load.occupancy } } ∧
      t.counts.openBin = s.counts.openBin ∧ t.counts.ring = s.counts.ring ∧
      t.adm = { s.adm with quiet := .const none } ∧
      (t.port .sp).notices = (s.port .sp).notices ||| StationNotice.rollover.mask ∧
      t.table = s.table ∧ t.lanes = s.lanes ∧ t.load = s.load ∧ t.refund = s.refund ∧ t.reader = s.reader

/-- LOCAL SECOND BOUNDARY: at the scheduled end the next second begins there; a SET clock advances by one second and
turns at midnight, makes a rollover at the boundary hour (CLOCK in its place at day 65,535), and closes the open bin
at each whole minute. RUN MINUTE closes the open bin with the minute unknown, once at each whole minute of run seconds
while the clock is UNSET; a run minute that has been taken, and run second 0, close none; the closed bin joins a ring
of at most 60 and a new one begins with zero counts (R126, R156 to R158). That either command outside its moment
changes nothing is the model's choice (log 3), and runMinuteTaken is its own field, by which a run minute closes one
bin alone (log 29). -/
def Obligations.SecondsAndRunMinutesPass : Prop :=
  (∀ s : State, s.stopped = false →
     (s.time.ms < s.time.secEnd → exec .localSecondBoundary s = .next s) ∧
       (s.time.secEnd ≤ s.time.ms →
         let begun := s.withTime fun t => { t with secStart := t.secEnd, secEnd := t.secEnd + 1000 }
         (s.time.tod = none → exec .localSecondBoundary s = .next begun) ∧
           ∀ tod, s.time.tod = some tod →
             let tod' := if tod = 86399 then 0 else tod + 1
             let moved := begun.withTime fun t => { t with tod := some tod' }
             let rolled :=
               if tod' ≠ s.time.boundaryHour * 3600 then moved
               else if s.time.lastDay < 65535 then moved.rollover (s.time.lastDay + 1) else moved.raiseStation .clock
             exec .localSecondBoundary s =
               .next (if tod' % 60 = 0 then rolled.withCounts (Counts.closeBin (some (tod' / 60))) else rolled))) ∧
  ∀ s : State, s.stopped = false →
    (s.time.tod = none → s.time.runSec % 60 = 0 → s.time.runSec ≠ 0 → s.time.runMinuteTaken ≠ s.time.runSec →
      ∃ t : State, exec .runMinute s = .next t ∧ t.counts.openBin = { minute := none, passages := 0, boarded := 0 } ∧
        (s.counts.ring.length < 60 → t.counts.ring = s.counts.ring ++ [s.counts.openBin]) ∧
        (s.counts.ring.length = 60 → t.counts.ring = s.counts.ring.tail ++ [s.counts.openBin]) ∧
        t.counts.current = s.counts.current ∧ t.time = { s.time with runMinuteTaken := s.time.runSec }) ∧
      (s.time.tod ≠ none ∨ s.time.runSec % 60 ≠ 0 ∨ s.time.runSec = 0 ∨ s.time.runMinuteTaken = s.time.runSec →
        exec .runMinute s = .next s)

/-- CLOCK SYNC takes the mode and the jitter window, starts the watch where it leaves OFF and stops it where it goes
to OFF (R160, R164); that an arm byte above 1 is BAD_ARG in every mode is the model's reading (log 18). STP has no
effect in OFF or within 500 ms of the last counted pulse; a counted pulse records the snapshot with its phase error,
which is the time a since the start of the second where a is at most the time b to its end, and minus b otherwise,
limited to -500 to 499; it counts, restarts the watch, in MONITOR and CONTINUOUS counts drift beyond the jitter
window, raises CLOCK at drift and where the pulse was LOST, and in ONE_SHOT and CONTINUOUS aligns the second in
progress (R161 to R164; log 30). At the watch deadline the pulse is LOST, CLOCK is raised, and the watch stops (R164);
that PULSE WATCH EXPIRY before the deadline changes nothing is the model's choice (log 3). -/
def Obligations.StationTimePulseIsWatched : Prop :=
  (∀ (mode window arm : Byte) (s : State), s.portOpen .sp = true →
     let ok := mode.toNat ≤ 3 ∧ 1 ≤ window.toNat ∧ window.toNat ≤ 250 ∧ arm.toNat ≤ 1 ∧ ¬(mode = 1 ∧ arm = 0)
     (¬ok → exec (.clockSync .sp mode window arm) s = .next ((s.taken .sp).answered .sp 0x82 .badArg .none)) ∧
       ∀ m, ok → syncModeOf mode = some m →
         let lost := if m ≠ .off ∧ s.time.mode = .off then false else s.time.pulseLost
         exec (.clockSync .sp mode window arm) s =
           .next (((s.taken .sp).withTime fun t =>
             { t with mode := m, jitter := window.toNat, pulseLost := lost
                      watch := if m = .off then none
                        else if t.mode = .off then some (t.ms + 3000) else t.watch }).answered .sp 0x82 .ok
               (.clockSync m window.toNat lost))) ∧
  (∀ s : State, s.stopped = false →
     let spurious := ∃ l, s.time.lastPulse = some l ∧ s.time.ms < l + 500
     (s.time.mode = .off ∨ spurious → exec .stpPulse s = .next s) ∧
       (s.time.mode ≠ .off → ¬spurious →
         let a : Int := (s.time.ms : Int) - s.time.secStart
         let b : Int := (s.time.secEnd : Int) - s.time.ms
         let e : Int := max (-500) (min 499 (if a ≤ b then a else -b))
         let drifts := s.time.mode ≠ .oneShot ∧ s.time.jitter < e.natAbs
         ∃ t : State, exec .stpPulse s = .next t ∧ -500 ≤ e ∧ e ≤ 499 ∧
           t.time.snapshot = some { error := e, clock := s.time.tod.map fun x => (s.time.lastDay, x) } ∧
           t.time.pulseCount = (s.time.pulseCount + 1) % 65536 ∧ t.time.pulseLost = false ∧
           t.time.watch = some (s.time.ms + 3000) ∧ t.time.lastPulse = some s.time.ms ∧
           t.time.mode = (if s.time.mode = .oneShot then .monitor else s.time.mode) ∧
           t.time.driftCount =
             (if drifts then min max16 (s.time.driftCount + 1) else s.time.driftCount) ∧
           (t.port .sp).notices =
             (if s.time.pulseLost = true ∨ drifts then (s.port .sp).notices ||| StationNotice.clock.mask
             else (s.port .sp).notices) ∧
           (s.time.mode = .monitor → t.time.secEnd = s.time.secEnd) ∧
           (s.time.mode ≠ .monitor → 0 < e → t.time.secEnd = s.time.secStart + 1000 + e.toNat) ∧
           (s.time.mode ≠ .monitor → e < 0 → t.time.secEnd = s.time.secEnd - (-e).toNat) ∧
           (s.time.mode ≠ .monitor → e = 0 → t.time.secEnd = s.time.secEnd) ∧
           t.time.secStart = s.time.secStart ∧ t.time.ms = s.time.ms ∧ t.time.runSec = s.time.runSec ∧
           t.time.tod = s.time.tod)) ∧
  ∀ (d : Nat) (s : State), s.stopped = false → s.time.watch = some d →
    (d ≤ s.time.ms → exec .pulseWatchExpiry s =
      .next ((s.withTime fun t => { t with pulseLost := true, watch := none }).raiseStation .clock)) ∧
      (s.time.ms < d → exec .pulseWatchExpiry s = .next s)

/-! ## Supply (chapter 10) -/

/-- VMAIN in a running part: from RUN a fall below the warning threshold is LOW with SUPPLY raised, counted, and every
entry of the queue withdrawn with LOW_SUPPLY, in service order; above that threshold nothing moves but the supply's
own fields. A fall below the retention threshold is DOWN, with the queue withdrawn in the same way, and the part
stopped; the retained content stands, but for the counted withdrawals and the LIVE pins of the contexts that ended. In
LOW a rise above the recovery level starts the 200 ms timer and a fall below it stops the timer, and nothing else
moves; at its deadline the state is RUN again, with SUPPLY raised and the service step run (R115, R181). A withdrawal
of the whole queue ends the contexts of its lanes, counts one withdrawal for each, and leaves all else that is
retained, the reader, the refund engine, the clock and the other lanes. RESET stops the part and moves nothing outside
the supply; while it is held a fall below the retention threshold is DOWN; VBAK failing without VMAIN leaves the
stored check value another than the content's, and with VMAIN present changes nothing (R183, R184). The four bands of
VMAIN (log 6), that RECOVERY TIMER before its deadline changes nothing (log 3), that while RESET is held no withdrawal
follows and VBAK counts only below the retention threshold (log 19), and the open distance of the lost check value
(log 7) are the model's. -/
def Obligations.SupplyMonitorResetAndVbak : Prop :=
  (∀ (band : VmainBand) (s : State), s.stopped = false →
     let stood := if band = .aboveRecovery ∧ s.supply.vmain = .aboveRecovery then s.supply.stood else 0
     let moved := s.withSupply fun u => { u with vmain := band, stood := stood }
     let down := moved.withSupply fun u =>
       { u with state := .down, recovery := none, lastChange := some s.time.runSec }
     (s.supply.state = .run →
       (band = .belowWarning → exec (.vmainChange band) s =
         .next (((moved.withSupply fun u =>
           { u with state := .low, recovery := none, lowCount := min max16 (u.lowCount + 1),
                    lastChange := some s.time.runSec }).raiseStation .supply).withdrawAll)) ∧
         (band = .belowRecovery ∨ band = .aboveRecovery → exec (.vmainChange band) s = .next moved)) ∧
       (band = .belowRetention →
         ∃ t : State, exec (.vmainChange band) s = .next t ∧ t = down.withdrawAll ∧ t.supply = down.supply ∧
           t.stopped = true ∧ t.load.queue = [] ∧ (s.load.queue = [] → t = down) ∧
           t.retained = { s.retained with table := t.table, current := t.counts.current } ∧
           (∀ e ∈ s.load.queue, (t.lane e.lane).passage = .idle ∧ (t.lane e.lane).ctx = none ∧
             ∃ v, t.adm.verdicts.get e.lane = some v ∧ v.kind = .withdrawn .lowSupply)) ∧
       (s.supply.state = .low →
         (band = .aboveRecovery → exec (.vmainChange band) s =
           .next (moved.withSupply fun u => { u with recovery := some (s.supply.recovery.getD (s.time.ms + 200)) })) ∧
           (band = .belowWarning ∨ band = .belowRecovery →
             exec (.vmainChange band) s = .next (moved.withSupply fun u => { u with recovery := none })) ∧
           ∀ d, s.supply.recovery = some d →
             (s.time.ms < d → exec .recoveryTimer s = .next s) ∧
               (d ≤ s.time.ms → exec .recoveryTimer s =
                 .next ((s.withSupply fun u =>
                   { u with state := .run, recovery := none, lastChange := some s.time.runSec }).raiseStation
                     .supply).serviceStep.arbiter))) ∧
  ∀ s : State,
    (∃ t : State, exec .reset s = .next t ∧ t.stopped = true ∧ t = { s with supply := t.supply } ∧
      t.supply.state = s.supply.state ∧ t.retained = s.retained) ∧
      (s.supply.resetHeld = true → s.supply.state ≠ .down →
        ∃ t : State, exec (.vmainChange .belowRetention) s = .next t ∧ t = { s with supply := t.supply } ∧
          t.supply.state = .down) ∧
      (s.supply.vmain ≠ .belowRetention → exec .vbakFailure s = .next s) ∧
      (s.supply.vmain = .belowRetention →
        ∃ k : BitVec 16, k ≠ 0 ∧
          exec .vbakFailure s = .next { s with supply := { s.supply with checkSkew := k }, free := s.free + 1 }) ∧
      (s.supply.state ≠ .run →
        let t := s.withdrawAll
        t.load = { s.load with queue := [], handed := s.load.handed.filter fun h => !s.inQueue h.lane } ∧
          (∀ e ∈ s.load.queue, (t.lane e.lane).passage = .idle ∧ (t.lane e.lane).ctx = none ∧
            ∃ v, t.adm.verdicts.get e.lane = some v ∧ v.kind = .withdrawn .lowSupply) ∧
          (∀ n, s.inQueue n = false → t.lane n = s.lane n ∧ t.adm.verdicts.get n = s.adm.verdicts.get n ∧
            t.port (.lp n) = s.port (.lp n)) ∧
          (∀ n, t.counts.current.lanes.get n =
            let c := s.counts.current.lanes.get n
            if s.inQueue n then { c with withdrawals := min max32 (c.withdrawals + 1) } else c) ∧
          t.counts = { s.counts with
            current := { s.counts.current with lanes := t.counts.current.lanes } } ∧
          (∀ p, t.record p = (s.record p).map fun r =>
            if ∃ e ∈ s.load.queue, s.ctxPass e.lane = some p ∧ r.live = some e.lane then { r with live := none } else r) ∧
          t.table.map (·.1) = s.table.map (·.1) ∧
          t.retained = { s.retained with table := t.table, current := t.counts.current } ∧
          t.reader = s.reader ∧ t.refund = s.refund ∧ t.time = s.time ∧ t.supply = s.supply ∧
          t.port .sp = s.port .sp) ∧
      s.withdrawAll = s.load.queue.foldl (fun s e => s.withdraw e.lane .lowSupply) s

/-- START UP by power return or by the release of RESET, above the retention threshold: lanes IDLE and CLEAR, the
queue, the verdicts and the reader's requests empty, fault flags from the tune records, the refund context IDLE, the
bins empty, the ports empty, the clock UNSET with the base at 0 and a new second begun, the pulse PRESENT without a
watch, the rotation pointer at P3 and no visit in flight, until in RUN the arbiter starts the scan read of the first
lane from P0 on that is in SCAN and moves the pointer there; the supply RUN or LOW by VMAIN, and START with its kind
on the station port, with JOURNAL where the journal holds entries. A check value equal to the content's starts warm:
every item of Table 10-2 is kept, with LIVE pins, holds and last passages ended and PENDING entries UNCERTAIN. Any
other starts cold, with every item at its cold value. After either the check value is the content's (R28, R29, R38,
R39, R57, R103, R118, R129, R149, R154, R166, R184 to R187). The distance at which the model holds the stored check
value (log 7), the selects of the ports as operands of the command (log 20), and that a start-up is this command and
no part of VMAIN CHANGE (log 41), are the model's. -/
def Obligations.StartUpIsWarmOrCold : Prop :=
  (∀ s : State, s.supply.checkValid = true ↔ s.storedCheck = s.checkValue) ∧
  ∀ (cause : StartCause) (selected : PerPort Bool) (s : State), s.supply.vmain ≠ .belowRetention →
    (cause = .power ∧ s.supply.state = .down ∧ s.supply.resetHeld = false) ∨
      (cause = .reset ∧ s.supply.resetHeld = true) →
      ∃ t : State, exec (.startUp cause selected) s = .next t ∧ t.stopped = false ∧ t.storedCheck = t.checkValue ∧
        (∀ n, (t.lane n).passage = .idle ∧ (t.lane n).tracker = .clear ∧ (t.lane n).ctx = none ∧
          (t.lane n).signal = none ∧ (t.lane n).tone = none ∧ (t.lane n).report = none ∧
          t.adm.verdicts.get n = none ∧ t.adm.quiet.get n = none ∧ t.adm.notes.get n = none) ∧
        t.load.queue = [] ∧ t.load.occupancy = 0 ∧ t.load.live = 0 ∧ t.load.handed = [] ∧
        t.reader.slot = none ∧ t.reader.stamps = [] ∧ t.reader.tuneList = [] ∧
        (∀ p, (t.reader.pos.get p).faultCount = 0 ∧ (t.reader.pos.get p).degraded = false ∧
          (t.reader.pos.get p).collideRun = 0 ∧ (t.reader.pos.get p).lastOutcome = none ∧
          ((t.reader.pos.get p).fault = true ↔
            ∃ a x, t.reader.map.get p = some a ∧ t.reader.tunes.get a = some x ∧
              (x.result = .opened ∨ x.result = .shorted))) ∧
        t.counts.openBin = { minute := none, passages := 0, boarded := 0 } ∧ t.counts.ring = [] ∧
        t.refund.ctx = .idle ∧ t.refund.lastNumber = 0 ∧ t.refund.lastQuote = none ∧ t.refund.staging = none ∧
        t.time.tod = none ∧ t.time.ms = 0 ∧ t.time.runSec = 0 ∧ t.time.mode = .off ∧ t.time.pulseCount = 0 ∧
        t.time.driftCount = 0 ∧ t.time.snapshot = none ∧ t.time.pulseLost = false ∧ t.time.watch = none ∧
        t.time.secStart = 0 ∧ t.time.secEnd = 1000 ∧
        (let scannable := fun n : Lane => t.supply.state = .run ∧ (t.lane n).mode = .opened ∧
           t.reader.map.get (.lane n) ≠ none ∧ (t.reader.pos.get (.lane n)).fault = false
         ((∀ n, ¬scannable n) → t.reader.pointer = .l3 ∧ t.reader.visit = none) ∧
           ∀ n a, scannable n → (∀ m, m.toNat < n.toNat → ¬scannable m) → t.reader.map.get (.lane n) = some a →
             t.reader.pointer = n ∧ t.reader.visit = some (t.cardVisit .scanRead (.lane n) a)) ∧
        (let full := s.supply.vmain = .aboveRecovery ∧ 200 ≤ s.supply.stood
         (full → t.supply.state = .run ∧ t.supply.recovery = none) ∧
           (¬full → t.supply.state = .low ∧
             t.supply.recovery = if s.supply.vmain = .aboveRecovery then some 200 else none)) ∧
        t.supply.startCause = cause ∧ t.supply.lowCount = 0 ∧ t.supply.lastChange = none ∧
        t.ports.startKind = some t.supply.startKind ∧
        (∀ p, (t.port p).slot = .empty ∧ (t.port p).lost = false ∧ (t.port p).delivered = false ∧ (t.port p).mask = 0 ∧
          (t.port p).awaitRelease = selected.get p) ∧
        (∀ n, (t.port (.lp n)).notices = 0) ∧
        (t.port .sp).notices =
          (StationNotice.start.mask ||| if t.refund.journal = [] then 0 else StationNotice.journal.mask) ∧
        (s.supply.checkValid = true →
          t.supply.startKind = .warm ∧
            t.table = (s.table.map fun e =>
              (e.1, { e.2 with
                live := none, lastPassage := none, lastSeen := 0
                state := match e.2.state with
                  | .held p => p.toState
                  | x => x })) ∧
            t.reader.map = s.reader.map ∧ t.reader.levels = s.reader.levels ∧ t.reader.tunes = s.reader.tunes ∧
            t.reader.settings = s.reader.settings ∧ t.adm.settings = s.adm.settings ∧ t.adm.rules = s.adm.rules ∧
            (∀ n, (t.lane n).mode = (s.lane n).mode ∧ (t.lane n).settings = (s.lane n).settings) ∧
            t.debounce = s.debounce ∧ t.load.limit = s.load.limit ∧ t.load.hold = s.load.hold ∧
            t.counts.current = s.counts.current ∧ t.counts.previous = s.counts.previous ∧
            t.refund.tariffs = s.refund.tariffs ∧ t.refund.hold = s.refund.hold ∧ t.refund.nextSeq = s.refund.nextSeq ∧
            t.refund.journal = (s.refund.journal.map fun e =>
              if e.status = .pending then { e with status := .uncertain } else e) ∧
            t.time.lastDay = s.time.lastDay ∧ t.time.boundaryHour = s.time.boundaryHour ∧
            t.time.jitter = s.time.jitter) ∧
        (s.supply.checkValid = false →
          t.supply.startKind = .cold ∧ t.table = [] ∧ t.reader.map = coldMap ∧
            (∀ a, t.reader.levels.get a = 8 ∧ t.reader.tunes.get a = none) ∧
            t.reader.settings =
              { attempts := 3, threshold := 8, coarse := 6, fine := 0, window := 3, target := 250 } ∧
            t.adm.settings = { resort := 0, lockout := 180, quiet := 20, learnMask := .const true } ∧
            (∀ i : Fin 16, t.adm.rules[i.val] =
              if i.val = 0 then
                { enabled := true, value := 0, mask := 0, lanes := .const true, start := 0, stop := 0, cls := 3,
                  charge := true }
              else
                { enabled := false, value := 0, mask := 0, lanes := .const false, start := 0, stop := 0, cls := 0,
                  charge := false }) ∧
            (∀ n, (t.lane n).mode = .closed ∧
              (t.lane n).settings = { window := 80, high := .khz24, low := .khz10, mute := false }) ∧
            t.debounce = 30 ∧ t.load.limit = 24 ∧ t.load.hold = 20 ∧ t.counts.current = .zero 0 ∧
            t.counts.previous = none ∧ t.refund.tariffs = [] ∧ t.refund.hold = 180 ∧ t.refund.journal = [] ∧
            t.refund.nextSeq = 0 ∧ t.time.lastDay = 0 ∧ t.time.boundaryHour = 3 ∧ t.time.jitter = 20)

/-! ## Laws that every step keeps -/

/-- The laws that the statements after this one say every step keeps hold of the part after reset. -/
def Obligations.LawsHoldAtReset : Prop :=
  State.reset.admissionAgrees ∧ State.reset.refundAgrees ∧ State.reset.counts.agree ∧ State.reset.lampsAgree ∧
    State.reset.queueInOrder ∧ State.reset.queueWaits ∧ State.reset.supplyAgrees ∧ State.reset.inBounds ∧
    ∀ e ∈ State.reset.table, UsageBound e.2

/-- The table keeps its form: slots rising, each record in its own bucket, one record for a pass (R4, R5). A record's
days used never pass its days bought, and while a record exists its days used and its last use day never decrease, and
a REFUNDED record stays REFUNDED (R2, R14). That a consumption on an earlier day leaves the later last use day is how
the model joins R2 and R18 (log 32). -/
def Obligations.EveryStepKeepsTheTableLaws : Prop :=
  (∀ s t : State, TableForm s.table → step s = .next t → TableForm t.table) ∧
  (∀ s t : State, (∀ e ∈ s.table, UsageBound e.2) → step s = .next t → ∀ e ∈ t.table, UsageBound e.2) ∧
  ∀ (s t : State) (p : PassNo) (r r' : PassRecord), TableForm s.table → (∀ e ∈ s.table, UsageBound e.2) →
    step s = .next t → s.record p = some r → t.record p = some r' →
      r.used ≤ r'.used ∧ (∀ d, r.lastUse = some d → ∃ d', r'.lastUse = some d' ∧ d ≤ d') ∧
        (r.state = .refunded → r'.state = .refunded)

/-- Live grants, queue entries and contexts agree with the lanes, no pass is held twice, LIVE pins name the lanes that
hold their passes, and no rider's record is HELD or REFUNDED (R12, R87, R105, R110). -/
def Obligations.EveryStepKeepsLanesAndRecordsTogether : Prop :=
  ∀ s t : State, s.admissionAgrees → step s = .next t → t.admissionAgrees

/-- The service slot, the refund context, the HELD record and the journal agree: consecutive sequences, and at most
one PENDING entry, only in COMMITTING (R15, R37, R133, R148). -/
def Obligations.EveryStepKeepsTheRefundLaws : Prop :=
  ∀ s t : State, s.refundAgrees → step s = .next t → t.refundAgrees

/-- The queue stands in service order and waits only while room is absent, and a part whose VMAIN is below the
retention threshold is DOWN (R110, R111, R181). -/
def Obligations.EveryStepKeepsTheQueueInOrder : Prop :=
  ∀ s t : State, s.queueInOrder → s.queueWaits → s.supplyAgrees → step s = .next t →
    t.queueInOrder ∧ t.queueWaits ∧ t.supplyAgrees

/-- Counts and levels stay in their ranges, and every lane shows the lamp of Table 4-3 (R31, R99, R104, R126). The
lift's total passages are the sum over the lanes, in the current and the previous set (R123). -/
def Obligations.EveryStepKeepsRangesLampsAndSums : Prop :=
  (∀ s t : State, s.inBounds → s.lampsAgree → step s = .next t → t.inBounds ∧ t.lampsAgree) ∧
  ∀ s t : State, s.counts.agree → step s = .next t → t.counts.agree

/-- The operating day never decreases while the retained region is valid (R157). -/
def Obligations.OperatingDayNeverDecreases : Prop :=
  ∀ s t : State, s.supply.checkValid = true → step s = .next t → s.time.lastDay ≤ t.time.lastDay

end
end

