-- ==== Sys2Proof/Laws/State.lean ====
section
/-! SUPPORT. What each update of one block leaves of every field of the state: one lemma a field, true by definition,
and reading back one lane, position, antenna or port after writing it. -/

namespace Sys2Proof

/-! ## One value for each lane, position, antenna and port -/

@[simp] theorem PerLane.get_set_same {α : Type} (v : PerLane α) (n : Lane) (x : α) : (v.set n x).get n = x := by
  cases n <;> rfl

theorem PerLane.get_set_other {α : Type} (v : PerLane α) (n m : Lane) (x : α) (h : m ≠ n) :
    (v.set n x).get m = v.get m := by
  cases n <;> cases m <;> first | rfl | exact absurd rfl h

theorem PerLane.get_set {α : Type} (v : PerLane α) (n m : Lane) (x : α) :
    (v.set n x).get m = if m = n then x else v.get m := by
  cases n <;> cases m <;> rfl

@[simp] theorem PerLane.get_const {α : Type} (x : α) (n : Lane) : (PerLane.const x).get n = x := by cases n <;> rfl

@[simp] theorem PerLane.get_map {α β : Type} (f : α → β) (v : PerLane α) (n : Lane) : (v.map f).get n = f (v.get n) := by
  cases n <;> rfl

theorem PerLane.ext_get {α : Type} {v w : PerLane α} (h : ∀ n, v.get n = w.get n) : v = w := by
  cases v; cases w
  have h0 := h .l0; have h1 := h .l1; have h2 := h .l2; have h3 := h .l3
  simp only [PerLane.get] at h0 h1 h2 h3
  simp [h0, h1, h2, h3]

@[simp] theorem PerLane.set_get {α : Type} (v : PerLane α) (n : Lane) : v.set n (v.get n) = v := by cases n <;> rfl

@[simp] theorem PerLane.set_set {α : Type} (v : PerLane α) (n : Lane) (x y : α) : (v.set n x).set n y = v.set n y := by
  cases n <;> rfl

@[simp] theorem PerPort.get_set_same {α : Type} (v : PerPort α) (p : Port) (x : α) : (v.set p x).get p = x := by
  cases p with
  | sp => rfl
  | lp n => simp [PerPort.get, PerPort.set]

theorem PerPort.get_set {α : Type} (v : PerPort α) (p q : Port) (x : α) :
    (v.set p x).get q = if q = p then x else v.get q := by
  cases p with
  | sp => cases q with
    | sp => rfl
    | lp m => rfl
  | lp n => cases q with
    | sp => rfl
    | lp m => simp [PerPort.get, PerPort.set, PerLane.get_set]

@[simp] theorem PerPort.set_get {α : Type} (v : PerPort α) (p : Port) : v.set p (v.get p) = v := by
  cases p with
  | sp => rfl
  | lp n => simp [PerPort.get, PerPort.set]

@[simp] theorem PerPort.set_set {α : Type} (v : PerPort α) (p : Port) (x y : α) : (v.set p x).set p y = v.set p y := by
  cases p with
  | sp => rfl
  | lp n => simp [PerPort.set]

theorem PerPos.get_set {α : Type} (v : PerPos α) (p q : Position) (x : α) :
    (v.set p x).get q = if q = p then x else v.get q := by
  cases p with
  | ps => cases q with
    | ps => rfl
    | lane m => rfl
  | lane n => cases q with
    | ps => rfl
    | lane m => simp [PerPos.get, PerPos.set, PerLane.get_set]

@[simp] theorem PerPos.get_set_same {α : Type} (v : PerPos α) (p : Position) (x : α) : (v.set p x).get p = x := by
  simp [PerPos.get_set]

theorem PerPos.get_set_other {α : Type} (v : PerPos α) (p q : Position) (x : α) (h : q ≠ p) :
    (v.set p x).get q = v.get q := by
  simp [PerPos.get_set, h]

@[simp] theorem PerPos.get_const {α : Type} (x : α) (p : Position) : (PerPos.const x).get p = x := by
  cases p with
  | ps => rfl
  | lane n => simp [PerPos.const, PerPos.get]

theorem PerAnt.get_set {α : Type} (v : PerAnt α) (a b : Antenna) (x : α) :
    (v.set a x).get b = if b = a then x else v.get b := by
  cases a <;> cases b <;> rfl

@[simp] theorem PerAnt.get_set_same {α : Type} (v : PerAnt α) (a : Antenna) (x : α) : (v.set a x).get a = x := by
  simp [PerAnt.get_set]

theorem PerAnt.get_set_other {α : Type} (v : PerAnt α) (a b : Antenna) (x : α) (h : b ≠ a) :
    (v.set a x).get b = v.get b := by
  simp [PerAnt.get_set, h]

@[simp] theorem PerAnt.get_const {α : Type} (x : α) (a : Antenna) : (PerAnt.const x).get a = x := by cases a <;> rfl

end Sys2Proof

namespace Sys2Proof.Machine

/-! ## withReader -/

@[simp] theorem State.withReader_table (s : State) (f : Reader → Reader) : (s.withReader f).table = s.table := rfl
@[simp] theorem State.withReader_reader (s : State) (f : Reader → Reader) : (s.withReader f).reader = f s.reader := rfl
@[simp] theorem State.withReader_adm (s : State) (f : Reader → Reader) : (s.withReader f).adm = s.adm := rfl
@[simp] theorem State.withReader_lanes (s : State) (f : Reader → Reader) : (s.withReader f).lanes = s.lanes := rfl
@[simp] theorem State.withReader_debounce (s : State) (f : Reader → Reader) : (s.withReader f).debounce = s.debounce := rfl
@[simp] theorem State.withReader_load (s : State) (f : Reader → Reader) : (s.withReader f).load = s.load := rfl
@[simp] theorem State.withReader_counts (s : State) (f : Reader → Reader) : (s.withReader f).counts = s.counts := rfl
@[simp] theorem State.withReader_refund (s : State) (f : Reader → Reader) : (s.withReader f).refund = s.refund := rfl
@[simp] theorem State.withReader_time (s : State) (f : Reader → Reader) : (s.withReader f).time = s.time := rfl
@[simp] theorem State.withReader_ports (s : State) (f : Reader → Reader) : (s.withReader f).ports = s.ports := rfl
@[simp] theorem State.withReader_supply (s : State) (f : Reader → Reader) : (s.withReader f).supply = s.supply := rfl
@[simp] theorem State.withReader_free (s : State) (f : Reader → Reader) : (s.withReader f).free = s.free := rfl
@[simp] theorem State.withReader_pending (s : State) (f : Reader → Reader) : (s.withReader f).pending = s.pending := rfl

/-! ## withAdm -/

@[simp] theorem State.withAdm_table (s : State) (f : Admission → Admission) : (s.withAdm f).table = s.table := rfl
@[simp] theorem State.withAdm_reader (s : State) (f : Admission → Admission) : (s.withAdm f).reader = s.reader := rfl
@[simp] theorem State.withAdm_adm (s : State) (f : Admission → Admission) : (s.withAdm f).adm = f s.adm := rfl
@[simp] theorem State.withAdm_lanes (s : State) (f : Admission → Admission) : (s.withAdm f).lanes = s.lanes := rfl
@[simp] theorem State.withAdm_debounce (s : State) (f : Admission → Admission) : (s.withAdm f).debounce = s.debounce := rfl
@[simp] theorem State.withAdm_load (s : State) (f : Admission → Admission) : (s.withAdm f).load = s.load := rfl
@[simp] theorem State.withAdm_counts (s : State) (f : Admission → Admission) : (s.withAdm f).counts = s.counts := rfl
@[simp] theorem State.withAdm_refund (s : State) (f : Admission → Admission) : (s.withAdm f).refund = s.refund := rfl
@[simp] theorem State.withAdm_time (s : State) (f : Admission → Admission) : (s.withAdm f).time = s.time := rfl
@[simp] theorem State.withAdm_ports (s : State) (f : Admission → Admission) : (s.withAdm f).ports = s.ports := rfl
@[simp] theorem State.withAdm_supply (s : State) (f : Admission → Admission) : (s.withAdm f).supply = s.supply := rfl
@[simp] theorem State.withAdm_free (s : State) (f : Admission → Admission) : (s.withAdm f).free = s.free := rfl
@[simp] theorem State.withAdm_pending (s : State) (f : Admission → Admission) : (s.withAdm f).pending = s.pending := rfl

/-! ## withLoad -/

@[simp] theorem State.withLoad_table (s : State) (f : Loading → Loading) : (s.withLoad f).table = s.table := rfl
@[simp] theorem State.withLoad_reader (s : State) (f : Loading → Loading) : (s.withLoad f).reader = s.reader := rfl
@[simp] theorem State.withLoad_adm (s : State) (f : Loading → Loading) : (s.withLoad f).adm = s.adm := rfl
@[simp] theorem State.withLoad_lanes (s : State) (f : Loading → Loading) : (s.withLoad f).lanes = s.lanes := rfl
@[simp] theorem State.withLoad_debounce (s : State) (f : Loading → Loading) : (s.withLoad f).debounce = s.debounce := rfl
@[simp] theorem State.withLoad_load (s : State) (f : Loading → Loading) : (s.withLoad f).load = f s.load := rfl
@[simp] theorem State.withLoad_counts (s : State) (f : Loading → Loading) : (s.withLoad f).counts = s.counts := rfl
@[simp] theorem State.withLoad_refund (s : State) (f : Loading → Loading) : (s.withLoad f).refund = s.refund := rfl
@[simp] theorem State.withLoad_time (s : State) (f : Loading → Loading) : (s.withLoad f).time = s.time := rfl
@[simp] theorem State.withLoad_ports (s : State) (f : Loading → Loading) : (s.withLoad f).ports = s.ports := rfl
@[simp] theorem State.withLoad_supply (s : State) (f : Loading → Loading) : (s.withLoad f).supply = s.supply := rfl
@[simp] theorem State.withLoad_free (s : State) (f : Loading → Loading) : (s.withLoad f).free = s.free := rfl
@[simp] theorem State.withLoad_pending (s : State) (f : Loading → Loading) : (s.withLoad f).pending = s.pending := rfl

/-! ## withCounts -/

@[simp] theorem State.withCounts_table (s : State) (f : Counts → Counts) : (s.withCounts f).table = s.table := rfl
@[simp] theorem State.withCounts_reader (s : State) (f : Counts → Counts) : (s.withCounts f).reader = s.reader := rfl
@[simp] theorem State.withCounts_adm (s : State) (f : Counts → Counts) : (s.withCounts f).adm = s.adm := rfl
@[simp] theorem State.withCounts_lanes (s : State) (f : Counts → Counts) : (s.withCounts f).lanes = s.lanes := rfl
@[simp] theorem State.withCounts_debounce (s : State) (f : Counts → Counts) : (s.withCounts f).debounce = s.debounce := rfl
@[simp] theorem State.withCounts_load (s : State) (f : Counts → Counts) : (s.withCounts f).load = s.load := rfl
@[simp] theorem State.withCounts_counts (s : State) (f : Counts → Counts) : (s.withCounts f).counts = f s.counts := rfl
@[simp] theorem State.withCounts_refund (s : State) (f : Counts → Counts) : (s.withCounts f).refund = s.refund := rfl
@[simp] theorem State.withCounts_time (s : State) (f : Counts → Counts) : (s.withCounts f).time = s.time := rfl
@[simp] theorem State.withCounts_ports (s : State) (f : Counts → Counts) : (s.withCounts f).ports = s.ports := rfl
@[simp] theorem State.withCounts_supply (s : State) (f : Counts → Counts) : (s.withCounts f).supply = s.supply := rfl
@[simp] theorem State.withCounts_free (s : State) (f : Counts → Counts) : (s.withCounts f).free = s.free := rfl
@[simp] theorem State.withCounts_pending (s : State) (f : Counts → Counts) : (s.withCounts f).pending = s.pending := rfl

/-! ## withRefund -/

@[simp] theorem State.withRefund_table (s : State) (f : RefundEngine → RefundEngine) : (s.withRefund f).table = s.table := rfl
@[simp] theorem State.withRefund_reader (s : State) (f : RefundEngine → RefundEngine) : (s.withRefund f).reader = s.reader := rfl
@[simp] theorem State.withRefund_adm (s : State) (f : RefundEngine → RefundEngine) : (s.withRefund f).adm = s.adm := rfl
@[simp] theorem State.withRefund_lanes (s : State) (f : RefundEngine → RefundEngine) : (s.withRefund f).lanes = s.lanes := rfl
@[simp] theorem State.withRefund_debounce (s : State) (f : RefundEngine → RefundEngine) : (s.withRefund f).debounce = s.debounce := rfl
@[simp] theorem State.withRefund_load (s : State) (f : RefundEngine → RefundEngine) : (s.withRefund f).load = s.load := rfl
@[simp] theorem State.withRefund_counts (s : State) (f : RefundEngine → RefundEngine) : (s.withRefund f).counts = s.counts := rfl
@[simp] theorem State.withRefund_refund (s : State) (f : RefundEngine → RefundEngine) : (s.withRefund f).refund = f s.refund := rfl
@[simp] theorem State.withRefund_time (s : State) (f : RefundEngine → RefundEngine) : (s.withRefund f).time = s.time := rfl
@[simp] theorem State.withRefund_ports (s : State) (f : RefundEngine → RefundEngine) : (s.withRefund f).ports = s.ports := rfl
@[simp] theorem State.withRefund_supply (s : State) (f : RefundEngine → RefundEngine) : (s.withRefund f).supply = s.supply := rfl
@[simp] theorem State.withRefund_free (s : State) (f : RefundEngine → RefundEngine) : (s.withRefund f).free = s.free := rfl
@[simp] theorem State.withRefund_pending (s : State) (f : RefundEngine → RefundEngine) : (s.withRefund f).pending = s.pending := rfl

/-! ## withTime -/

@[simp] theorem State.withTime_table (s : State) (f : TimeUnit → TimeUnit) : (s.withTime f).table = s.table := rfl
@[simp] theorem State.withTime_reader (s : State) (f : TimeUnit → TimeUnit) : (s.withTime f).reader = s.reader := rfl
@[simp] theorem State.withTime_adm (s : State) (f : TimeUnit → TimeUnit) : (s.withTime f).adm = s.adm := rfl
@[simp] theorem State.withTime_lanes (s : State) (f : TimeUnit → TimeUnit) : (s.withTime f).lanes = s.lanes := rfl
@[simp] theorem State.withTime_debounce (s : State) (f : TimeUnit → TimeUnit) : (s.withTime f).debounce = s.debounce := rfl
@[simp] theorem State.withTime_load (s : State) (f : TimeUnit → TimeUnit) : (s.withTime f).load = s.load := rfl
@[simp] theorem State.withTime_counts (s : State) (f : TimeUnit → TimeUnit) : (s.withTime f).counts = s.counts := rfl
@[simp] theorem State.withTime_refund (s : State) (f : TimeUnit → TimeUnit) : (s.withTime f).refund = s.refund := rfl
@[simp] theorem State.withTime_time (s : State) (f : TimeUnit → TimeUnit) : (s.withTime f).time = f s.time := rfl
@[simp] theorem State.withTime_ports (s : State) (f : TimeUnit → TimeUnit) : (s.withTime f).ports = s.ports := rfl
@[simp] theorem State.withTime_supply (s : State) (f : TimeUnit → TimeUnit) : (s.withTime f).supply = s.supply := rfl
@[simp] theorem State.withTime_free (s : State) (f : TimeUnit → TimeUnit) : (s.withTime f).free = s.free := rfl
@[simp] theorem State.withTime_pending (s : State) (f : TimeUnit → TimeUnit) : (s.withTime f).pending = s.pending := rfl

/-! ## withSupply -/

@[simp] theorem State.withSupply_table (s : State) (f : Supply → Supply) : (s.withSupply f).table = s.table := rfl
@[simp] theorem State.withSupply_reader (s : State) (f : Supply → Supply) : (s.withSupply f).reader = s.reader := rfl
@[simp] theorem State.withSupply_adm (s : State) (f : Supply → Supply) : (s.withSupply f).adm = s.adm := rfl
@[simp] theorem State.withSupply_lanes (s : State) (f : Supply → Supply) : (s.withSupply f).lanes = s.lanes := rfl
@[simp] theorem State.withSupply_debounce (s : State) (f : Supply → Supply) : (s.withSupply f).debounce = s.debounce := rfl
@[simp] theorem State.withSupply_load (s : State) (f : Supply → Supply) : (s.withSupply f).load = s.load := rfl
@[simp] theorem State.withSupply_counts (s : State) (f : Supply → Supply) : (s.withSupply f).counts = s.counts := rfl
@[simp] theorem State.withSupply_refund (s : State) (f : Supply → Supply) : (s.withSupply f).refund = s.refund := rfl
@[simp] theorem State.withSupply_time (s : State) (f : Supply → Supply) : (s.withSupply f).time = s.time := rfl
@[simp] theorem State.withSupply_ports (s : State) (f : Supply → Supply) : (s.withSupply f).ports = s.ports := rfl
@[simp] theorem State.withSupply_supply (s : State) (f : Supply → Supply) : (s.withSupply f).supply = f s.supply := rfl
@[simp] theorem State.withSupply_free (s : State) (f : Supply → Supply) : (s.withSupply f).free = s.free := rfl
@[simp] theorem State.withSupply_pending (s : State) (f : Supply → Supply) : (s.withSupply f).pending = s.pending := rfl

/-! ## withTable -/

@[simp] theorem State.withTable_table (s : State) (f : PassTable → PassTable) : (s.withTable f).table = f s.table := rfl
@[simp] theorem State.withTable_reader (s : State) (f : PassTable → PassTable) : (s.withTable f).reader = s.reader := rfl
@[simp] theorem State.withTable_adm (s : State) (f : PassTable → PassTable) : (s.withTable f).adm = s.adm := rfl
@[simp] theorem State.withTable_lanes (s : State) (f : PassTable → PassTable) : (s.withTable f).lanes = s.lanes := rfl
@[simp] theorem State.withTable_debounce (s : State) (f : PassTable → PassTable) : (s.withTable f).debounce = s.debounce := rfl
@[simp] theorem State.withTable_load (s : State) (f : PassTable → PassTable) : (s.withTable f).load = s.load := rfl
@[simp] theorem State.withTable_counts (s : State) (f : PassTable → PassTable) : (s.withTable f).counts = s.counts := rfl
@[simp] theorem State.withTable_refund (s : State) (f : PassTable → PassTable) : (s.withTable f).refund = s.refund := rfl
@[simp] theorem State.withTable_time (s : State) (f : PassTable → PassTable) : (s.withTable f).time = s.time := rfl
@[simp] theorem State.withTable_ports (s : State) (f : PassTable → PassTable) : (s.withTable f).ports = s.ports := rfl
@[simp] theorem State.withTable_supply (s : State) (f : PassTable → PassTable) : (s.withTable f).supply = s.supply := rfl
@[simp] theorem State.withTable_free (s : State) (f : PassTable → PassTable) : (s.withTable f).free = s.free := rfl
@[simp] theorem State.withTable_pending (s : State) (f : PassTable → PassTable) : (s.withTable f).pending = s.pending := rfl

/-! ## withPort -/

@[simp] theorem State.withPort_table (s : State) (p : Port) (f : PortCtx → PortCtx) : (s.withPort p f).table = s.table := rfl
@[simp] theorem State.withPort_reader (s : State) (p : Port) (f : PortCtx → PortCtx) : (s.withPort p f).reader = s.reader := rfl
@[simp] theorem State.withPort_adm (s : State) (p : Port) (f : PortCtx → PortCtx) : (s.withPort p f).adm = s.adm := rfl
@[simp] theorem State.withPort_lanes (s : State) (p : Port) (f : PortCtx → PortCtx) : (s.withPort p f).lanes = s.lanes := rfl
@[simp] theorem State.withPort_debounce (s : State) (p : Port) (f : PortCtx → PortCtx) : (s.withPort p f).debounce = s.debounce := rfl
@[simp] theorem State.withPort_load (s : State) (p : Port) (f : PortCtx → PortCtx) : (s.withPort p f).load = s.load := rfl
@[simp] theorem State.withPort_counts (s : State) (p : Port) (f : PortCtx → PortCtx) : (s.withPort p f).counts = s.counts := rfl
@[simp] theorem State.withPort_refund (s : State) (p : Port) (f : PortCtx → PortCtx) : (s.withPort p f).refund = s.refund := rfl
@[simp] theorem State.withPort_time (s : State) (p : Port) (f : PortCtx → PortCtx) : (s.withPort p f).time = s.time := rfl
@[simp] theorem State.withPort_supply (s : State) (p : Port) (f : PortCtx → PortCtx) : (s.withPort p f).supply = s.supply := rfl
@[simp] theorem State.withPort_free (s : State) (p : Port) (f : PortCtx → PortCtx) : (s.withPort p f).free = s.free := rfl
@[simp] theorem State.withPort_pending (s : State) (p : Port) (f : PortCtx → PortCtx) : (s.withPort p f).pending = s.pending := rfl
@[simp] theorem State.withPort_startKind (s : State) (p : Port) (f : PortCtx → PortCtx) :
    (s.withPort p f).ports.startKind = s.ports.startKind := rfl

theorem State.withPort_port (s : State) (p q : Port) (f : PortCtx → PortCtx) :
    (s.withPort p f).port q = if q = p then f (s.port p) else s.port q := by
  simp only [State.port, State.withPort, PerPort.get_set]

@[simp] theorem State.withPort_port_same (s : State) (p : Port) (f : PortCtx → PortCtx) :
    (s.withPort p f).port p = f (s.port p) := by simp [State.withPort_port]

@[simp] theorem State.withPort_withPort (s : State) (p : Port) (f g : PortCtx → PortCtx) :
    (s.withPort p f).withPort p g = s.withPort p fun c => g (f c) := by
  simp [State.withPort]

/-! ## withLane -/

@[simp] theorem State.withLane_table (s : State) (n : Lane) (f : LaneUnit → LaneUnit) : (s.withLane n f).table = s.table := rfl
@[simp] theorem State.withLane_reader (s : State) (n : Lane) (f : LaneUnit → LaneUnit) : (s.withLane n f).reader = s.reader := rfl
@[simp] theorem State.withLane_adm (s : State) (n : Lane) (f : LaneUnit → LaneUnit) : (s.withLane n f).adm = s.adm := rfl
@[simp] theorem State.withLane_debounce (s : State) (n : Lane) (f : LaneUnit → LaneUnit) : (s.withLane n f).debounce = s.debounce := rfl
@[simp] theorem State.withLane_load (s : State) (n : Lane) (f : LaneUnit → LaneUnit) : (s.withLane n f).load = s.load := rfl
@[simp] theorem State.withLane_counts (s : State) (n : Lane) (f : LaneUnit → LaneUnit) : (s.withLane n f).counts = s.counts := rfl
@[simp] theorem State.withLane_refund (s : State) (n : Lane) (f : LaneUnit → LaneUnit) : (s.withLane n f).refund = s.refund := rfl
@[simp] theorem State.withLane_time (s : State) (n : Lane) (f : LaneUnit → LaneUnit) : (s.withLane n f).time = s.time := rfl
@[simp] theorem State.withLane_ports (s : State) (n : Lane) (f : LaneUnit → LaneUnit) : (s.withLane n f).ports = s.ports := rfl
@[simp] theorem State.withLane_supply (s : State) (n : Lane) (f : LaneUnit → LaneUnit) : (s.withLane n f).supply = s.supply := rfl
@[simp] theorem State.withLane_free (s : State) (n : Lane) (f : LaneUnit → LaneUnit) : (s.withLane n f).free = s.free := rfl
@[simp] theorem State.withLane_pending (s : State) (n : Lane) (f : LaneUnit → LaneUnit) : (s.withLane n f).pending = s.pending := rfl

theorem State.withLane_lane (s : State) (n m : Lane) (f : LaneUnit → LaneUnit) :
    (s.withLane n f).lane m = if m = n then (f (s.lane n)).settleLamp s.time.ms else s.lane m := by
  simp only [State.lane, State.withLane, PerLane.get_set]

@[simp] theorem State.withLane_lane_same (s : State) (n : Lane) (f : LaneUnit → LaneUnit) :
    (s.withLane n f).lane n = (f (s.lane n)).settleLamp s.time.ms := by simp [State.withLane_lane]

theorem State.withLane_lane_other (s : State) (n m : Lane) (f : LaneUnit → LaneUnit) (h : m ≠ n) :
    (s.withLane n f).lane m = s.lane m := by simp [State.withLane_lane, h]

/-! ## settleLamp changes the lamp alone -/

@[simp] theorem LaneUnit.settleLamp_mode (ms : Nat) (u : LaneUnit) : (u.settleLamp ms).mode = u.mode := by
  unfold LaneUnit.settleLamp; split <;> rfl
@[simp] theorem LaneUnit.settleLamp_passage (ms : Nat) (u : LaneUnit) : (u.settleLamp ms).passage = u.passage := by
  unfold LaneUnit.settleLamp; split <;> rfl
@[simp] theorem LaneUnit.settleLamp_tracker (ms : Nat) (u : LaneUnit) : (u.settleLamp ms).tracker = u.tracker := by
  unfold LaneUnit.settleLamp; split <;> rfl
@[simp] theorem LaneUnit.settleLamp_enb (ms : Nat) (u : LaneUnit) : (u.settleLamp ms).enb = u.enb := by
  unfold LaneUnit.settleLamp; split <;> rfl
@[simp] theorem LaneUnit.settleLamp_exb (ms : Nat) (u : LaneUnit) : (u.settleLamp ms).exb = u.exb := by
  unfold LaneUnit.settleLamp; split <;> rfl
@[simp] theorem LaneUnit.settleLamp_ctx (ms : Nat) (u : LaneUnit) : (u.settleLamp ms).ctx = u.ctx := by
  unfold LaneUnit.settleLamp; split <;> rfl
@[simp] theorem LaneUnit.settleLamp_signal (ms : Nat) (u : LaneUnit) : (u.settleLamp ms).signal = u.signal := by
  unfold LaneUnit.settleLamp; split <;> rfl
@[simp] theorem LaneUnit.settleLamp_tone (ms : Nat) (u : LaneUnit) : (u.settleLamp ms).tone = u.tone := by
  unfold LaneUnit.settleLamp; split <;> rfl
@[simp] theorem LaneUnit.settleLamp_report (ms : Nat) (u : LaneUnit) : (u.settleLamp ms).report = u.report := by
  unfold LaneUnit.settleLamp; split <;> rfl
@[simp] theorem LaneUnit.settleLamp_settings (ms : Nat) (u : LaneUnit) : (u.settleLamp ms).settings = u.settings := by
  unfold LaneUnit.settleLamp; split <;> rfl

/-- After every write of a lane unit the lamp shows the state that holds (R99). -/
@[simp] theorem LaneUnit.settleLamp_lamp (ms : Nat) (u : LaneUnit) : (u.settleLamp ms).lamp = u.lampState := by
  unfold LaneUnit.settleLamp
  split
  · next h => exact h.symm
  · rfl

end Sys2Proof.Machine
end

