-- ==== Sys2Proof/Laws/Frames.lean ====
section
/-! SUPPORT. What every operation leaves unchanged: one frame lemma for each, which proofs cite in place of unfolding it.
`F` stands for the fields of the state that the operation never writes. -/

namespace Sys2Proof.Machine

/-- A fold keeps what each of its rounds keeps. -/
theorem foldl_keeps {α β : Type} (f : State → α → State) (g : State → β) (h : ∀ s a, g (f s a) = g s) (l : List α)
    (s : State) : g (l.foldl f s) = g s := by
  induction l generalizing s with
  | nil => rfl
  | cons a l ih => simp only [List.foldl_cons, ih, h]

@[simp] theorem refuseWith_state (s : State) (r : Result) : (refuseWith s r).state = s := rfl
@[simp] theorem refuseWith_reply (s : State) (r : Result) : (refuseWith s r).reply = some (r, .none) := rfl
@[simp] theorem answerOk_state (s : State) (b : Body) : (answerOk s b).state = s := rfl
@[simp] theorem answerOk_reply (s : State) (b : Body) : (answerOk s b).reply = some (.ok, b) := rfl

@[simp] theorem readSet_state (previous : Bool) (body : CountSet → Body) (s : State) :
    (readSet previous body s).state = s := by
  unfold readSet; split <;> rfl

@[simp] theorem State.raiseBits_frame (s : State) (p : Port) (m : BitVec 16) :
    (s.raiseBits p m).table = s.table ∧ (s.raiseBits p m).reader = s.reader ∧ (s.raiseBits p m).adm = s.adm ∧
    (s.raiseBits p m).lanes = s.lanes ∧ (s.raiseBits p m).debounce = s.debounce ∧ (s.raiseBits p m).load = s.load ∧
    (s.raiseBits p m).counts = s.counts ∧ (s.raiseBits p m).refund = s.refund ∧ (s.raiseBits p m).time = s.time ∧
    (s.raiseBits p m).supply = s.supply ∧ (s.raiseBits p m).free = s.free ∧ (s.raiseBits p m).pending = s.pending := by
  refine ⟨?_, ?_, ?_, ?_, ?_, ?_, ?_, ?_, ?_, ?_, ?_, ?_⟩ <;> (unfold State.raiseBits; (repeat' split) <;> simp)

@[simp] theorem State.raiseLane_frame (s : State) (n : Lane) (x : LaneNotice) :
    (s.raiseLane n x).table = s.table ∧ (s.raiseLane n x).reader = s.reader ∧ (s.raiseLane n x).adm = s.adm ∧
    (s.raiseLane n x).lanes = s.lanes ∧ (s.raiseLane n x).debounce = s.debounce ∧ (s.raiseLane n x).load = s.load ∧
    (s.raiseLane n x).counts = s.counts ∧ (s.raiseLane n x).refund = s.refund ∧ (s.raiseLane n x).time = s.time ∧
    (s.raiseLane n x).supply = s.supply ∧ (s.raiseLane n x).free = s.free ∧ (s.raiseLane n x).pending = s.pending := by
  refine ⟨?_, ?_, ?_, ?_, ?_, ?_, ?_, ?_, ?_, ?_, ?_, ?_⟩ <;> (unfold State.raiseLane; (repeat' split) <;> simp)

@[simp] theorem State.raiseStation_frame (s : State) (x : StationNotice) :
    (s.raiseStation x).table = s.table ∧ (s.raiseStation x).reader = s.reader ∧ (s.raiseStation x).adm = s.adm ∧
    (s.raiseStation x).lanes = s.lanes ∧ (s.raiseStation x).debounce = s.debounce ∧
    (s.raiseStation x).load = s.load ∧ (s.raiseStation x).counts = s.counts ∧ (s.raiseStation x).refund = s.refund ∧
    (s.raiseStation x).time = s.time ∧ (s.raiseStation x).supply = s.supply ∧ (s.raiseStation x).free = s.free ∧
    (s.raiseStation x).pending = s.pending := by
  refine ⟨?_, ?_, ?_, ?_, ?_, ?_, ?_, ?_, ?_, ?_, ?_, ?_⟩ <;> (unfold State.raiseStation; (repeat' split) <;> simp)

@[simp] theorem State.raiseAt_frame (s : State) (pos : Position) (x : LaneNotice) :
    (s.raiseAt pos x).table = s.table ∧ (s.raiseAt pos x).reader = s.reader ∧ (s.raiseAt pos x).adm = s.adm ∧
    (s.raiseAt pos x).lanes = s.lanes ∧ (s.raiseAt pos x).debounce = s.debounce ∧ (s.raiseAt pos x).load = s.load ∧
    (s.raiseAt pos x).counts = s.counts ∧ (s.raiseAt pos x).refund = s.refund ∧ (s.raiseAt pos x).time = s.time ∧
    (s.raiseAt pos x).supply = s.supply ∧ (s.raiseAt pos x).free = s.free ∧ (s.raiseAt pos x).pending = s.pending := by
  refine ⟨?_, ?_, ?_, ?_, ?_, ?_, ?_, ?_, ?_, ?_, ?_, ?_⟩ <;> (unfold State.raiseAt; (repeat' split) <;> simp)

@[simp] theorem State.replyNow_frame (s : State) (p : Port) (code : Byte) (done : DoneNotice) (res : Result) (body : Body) :
    (s.replyNow p code done res body).table = s.table ∧ (s.replyNow p code done res body).reader = s.reader ∧
    (s.replyNow p code done res body).adm = s.adm ∧ (s.replyNow p code done res body).lanes = s.lanes ∧
    (s.replyNow p code done res body).debounce = s.debounce ∧ (s.replyNow p code done res body).load = s.load ∧
    (s.replyNow p code done res body).counts = s.counts ∧ (s.replyNow p code done res body).refund = s.refund ∧
    (s.replyNow p code done res body).time = s.time ∧ (s.replyNow p code done res body).supply = s.supply ∧
    (s.replyNow p code done res body).free = s.free ∧ (s.replyNow p code done res body).pending = s.pending := by
  refine ⟨?_, ?_, ?_, ?_, ?_, ?_, ?_, ?_, ?_, ?_, ?_, ?_⟩ <;> (unfold State.replyNow; (repeat' split) <;> simp)

@[simp] theorem State.completeLong_frame (s : State) (res : Result) (body : Body) :
    (s.completeLong res body).table = s.table ∧ (s.completeLong res body).reader = s.reader ∧
    (s.completeLong res body).adm = s.adm ∧ (s.completeLong res body).lanes = s.lanes ∧
    (s.completeLong res body).debounce = s.debounce ∧ (s.completeLong res body).load = s.load ∧
    (s.completeLong res body).counts = s.counts ∧ (s.completeLong res body).refund = s.refund ∧
    (s.completeLong res body).time = s.time ∧ (s.completeLong res body).supply = s.supply ∧
    (s.completeLong res body).free = s.free ∧ (s.completeLong res body).pending = s.pending := by
  refine ⟨?_, ?_, ?_, ?_, ?_, ?_, ?_, ?_, ?_, ?_, ?_, ?_⟩ <;> (unfold State.completeLong; (repeat' split) <;> simp)

/-- The taking of an order keeps what its block keeps, outside the ports. -/
theorem takeOrder_keeps {β : Type} (g : State → β) (hp : ∀ s p f, g (State.withPort s p f) = g s) (p : Port) (code : Byte)
    (done : DoneNotice) (rights : Rights) (block : State → Answer) (h : ∀ s, g (block s).state = g s) (s : State) :
    g (takeOrder p code done rights block s) = g s := by
  have hr : ∀ (t : State) (c : Byte) (res : Result) (b : Body), g (t.replyNow p c done res b) = g t := by
    intro t c res b
    unfold State.replyNow
    cases done <;> simp [State.raiseBits, hp]
  unfold takeOrder State.running
  dsimp only
  split
  · rfl
  · split
    · exact hp ..
    · split
      · exact hp ..
      · split
        · split <;> simp [hp, hr, h]
        · simp [hp, hr]
      · split
        · split <;> simp [hp, hr, h]
        · simp [hp, hr]

@[simp] theorem State.updateRecord_frame (s : State) (p : PassNo) (f : PassRecord → PassRecord) :
    (s.updateRecord p f).reader = s.reader ∧ (s.updateRecord p f).adm = s.adm ∧
    (s.updateRecord p f).lanes = s.lanes ∧ (s.updateRecord p f).debounce = s.debounce ∧
    (s.updateRecord p f).load = s.load ∧ (s.updateRecord p f).counts = s.counts ∧
    (s.updateRecord p f).refund = s.refund ∧ (s.updateRecord p f).time = s.time ∧
    (s.updateRecord p f).ports = s.ports ∧ (s.updateRecord p f).supply = s.supply ∧
    (s.updateRecord p f).free = s.free ∧ (s.updateRecord p f).pending = s.pending := by
  refine ⟨?_, ?_, ?_, ?_, ?_, ?_, ?_, ?_, ?_, ?_, ?_, ?_⟩ <;> (unfold State.updateRecord; (repeat' split) <;> simp)

@[simp] theorem State.seeRecord_frame (s : State) (p : PassNo) :
    (s.seeRecord p).reader = s.reader ∧ (s.seeRecord p).adm = s.adm ∧ (s.seeRecord p).lanes = s.lanes ∧
    (s.seeRecord p).debounce = s.debounce ∧ (s.seeRecord p).load = s.load ∧ (s.seeRecord p).counts = s.counts ∧
    (s.seeRecord p).refund = s.refund ∧ (s.seeRecord p).time = s.time ∧ (s.seeRecord p).ports = s.ports ∧
    (s.seeRecord p).supply = s.supply ∧ (s.seeRecord p).free = s.free ∧ (s.seeRecord p).pending = s.pending := by
  refine ⟨?_, ?_, ?_, ?_, ?_, ?_, ?_, ?_, ?_, ?_, ?_, ?_⟩ <;> (unfold State.seeRecord; (repeat' split) <;> simp)

@[simp] theorem State.countLane_frame (s : State) (n : Lane) (f : LaneCounts → LaneCounts) :
    (s.countLane n f).table = s.table ∧ (s.countLane n f).reader = s.reader ∧ (s.countLane n f).adm = s.adm ∧
    (s.countLane n f).lanes = s.lanes ∧ (s.countLane n f).debounce = s.debounce ∧ (s.countLane n f).load = s.load ∧
    (s.countLane n f).refund = s.refund ∧ (s.countLane n f).time = s.time ∧ (s.countLane n f).ports = s.ports ∧
    (s.countLane n f).supply = s.supply ∧ (s.countLane n f).free = s.free ∧ (s.countLane n f).pending = s.pending := by
  refine ⟨?_, ?_, ?_, ?_, ?_, ?_, ?_, ?_, ?_, ?_, ?_, ?_⟩ <;> (unfold State.countLane; (repeat' split) <;> simp)

@[simp] theorem State.countLift_frame (s : State) (f : LiftCounts → LiftCounts) :
    (s.countLift f).table = s.table ∧ (s.countLift f).reader = s.reader ∧ (s.countLift f).adm = s.adm ∧
    (s.countLift f).lanes = s.lanes ∧ (s.countLift f).debounce = s.debounce ∧ (s.countLift f).load = s.load ∧
    (s.countLift f).refund = s.refund ∧ (s.countLift f).time = s.time ∧ (s.countLift f).ports = s.ports ∧
    (s.countLift f).supply = s.supply ∧ (s.countLift f).free = s.free ∧ (s.countLift f).pending = s.pending := by
  refine ⟨?_, ?_, ?_, ?_, ?_, ?_, ?_, ?_, ?_, ?_, ?_, ?_⟩ <;> (unfold State.countLift; (repeat' split) <;> simp)

@[simp] theorem State.countRefusal_frame (s : State) (n : Lane) (r : RefuseReason) :
    (s.countRefusal n r).table = s.table ∧ (s.countRefusal n r).reader = s.reader ∧
    (s.countRefusal n r).adm = s.adm ∧ (s.countRefusal n r).lanes = s.lanes ∧
    (s.countRefusal n r).debounce = s.debounce ∧ (s.countRefusal n r).load = s.load ∧
    (s.countRefusal n r).refund = s.refund ∧ (s.countRefusal n r).time = s.time ∧
    (s.countRefusal n r).ports = s.ports ∧ (s.countRefusal n r).supply = s.supply ∧
    (s.countRefusal n r).free = s.free ∧ (s.countRefusal n r).pending = s.pending := by
  refine ⟨?_, ?_, ?_, ?_, ?_, ?_, ?_, ?_, ?_, ?_, ?_, ?_⟩ <;> (unfold State.countRefusal; (repeat' split) <;> simp)

@[simp] theorem State.countPassage_frame (s : State) (n : Lane) (f : LaneCounts → LaneCounts) :
    (s.countPassage n f).table = s.table ∧ (s.countPassage n f).reader = s.reader ∧
    (s.countPassage n f).adm = s.adm ∧ (s.countPassage n f).lanes = s.lanes ∧
    (s.countPassage n f).debounce = s.debounce ∧ (s.countPassage n f).load = s.load ∧
    (s.countPassage n f).refund = s.refund ∧ (s.countPassage n f).time = s.time ∧
    (s.countPassage n f).ports = s.ports ∧ (s.countPassage n f).supply = s.supply ∧
    (s.countPassage n f).free = s.free ∧ (s.countPassage n f).pending = s.pending := by
  refine ⟨?_, ?_, ?_, ?_, ?_, ?_, ?_, ?_, ?_, ?_, ?_, ?_⟩ <;> (unfold State.countPassage; (try dsimp only); (repeat' split) <;> simp)

@[simp] theorem State.occupancyUp_frame (s : State) :
    (s.occupancyUp).table = s.table ∧ (s.occupancyUp).reader = s.reader ∧ (s.occupancyUp).adm = s.adm ∧
    (s.occupancyUp).lanes = s.lanes ∧ (s.occupancyUp).debounce = s.debounce ∧ (s.occupancyUp).refund = s.refund ∧
    (s.occupancyUp).time = s.time ∧ (s.occupancyUp).ports = s.ports ∧ (s.occupancyUp).supply = s.supply ∧
    (s.occupancyUp).free = s.free ∧ (s.occupancyUp).pending = s.pending := by
  refine ⟨?_, ?_, ?_, ?_, ?_, ?_, ?_, ?_, ?_, ?_, ?_⟩ <;> (unfold State.occupancyUp; (repeat' split) <;> simp)

@[simp] theorem State.occupancyDown_frame (s : State) :
    (s.occupancyDown).table = s.table ∧ (s.occupancyDown).reader = s.reader ∧ (s.occupancyDown).adm = s.adm ∧
    (s.occupancyDown).lanes = s.lanes ∧ (s.occupancyDown).debounce = s.debounce ∧
    (s.occupancyDown).counts = s.counts ∧ (s.occupancyDown).refund = s.refund ∧ (s.occupancyDown).time = s.time ∧
    (s.occupancyDown).ports = s.ports ∧ (s.occupancyDown).supply = s.supply ∧ (s.occupancyDown).free = s.free ∧
    (s.occupancyDown).pending = s.pending := by
  refine ⟨?_, ?_, ?_, ?_, ?_, ?_, ?_, ?_, ?_, ?_, ?_, ?_⟩ <;> (unfold State.occupancyDown; (repeat' split) <;> simp)

@[simp] theorem State.startVisit_frame (s : State) (v : Visit) :
    (s.startVisit v).table = s.table ∧ (s.startVisit v).adm = s.adm ∧ (s.startVisit v).lanes = s.lanes ∧
    (s.startVisit v).debounce = s.debounce ∧ (s.startVisit v).load = s.load ∧ (s.startVisit v).counts = s.counts ∧
    (s.startVisit v).refund = s.refund ∧ (s.startVisit v).time = s.time ∧ (s.startVisit v).ports = s.ports ∧
    (s.startVisit v).supply = s.supply ∧ (s.startVisit v).free = s.free ∧ (s.startVisit v).pending = s.pending := by
  refine ⟨?_, ?_, ?_, ?_, ?_, ?_, ?_, ?_, ?_, ?_, ?_, ?_⟩ <;> (unfold State.startVisit; (repeat' split) <;> simp)

@[simp] theorem State.startScan_frame (s : State) (n : Lane) :
    (s.startScan n).table = s.table ∧ (s.startScan n).adm = s.adm ∧ (s.startScan n).lanes = s.lanes ∧
    (s.startScan n).debounce = s.debounce ∧ (s.startScan n).load = s.load ∧ (s.startScan n).counts = s.counts ∧
    (s.startScan n).refund = s.refund ∧ (s.startScan n).time = s.time ∧ (s.startScan n).ports = s.ports ∧
    (s.startScan n).supply = s.supply ∧ (s.startScan n).free = s.free ∧ (s.startScan n).pending = s.pending := by
  refine ⟨?_, ?_, ?_, ?_, ?_, ?_, ?_, ?_, ?_, ?_, ?_, ?_⟩ <;> (unfold State.startScan; (repeat' split) <;> simp)

@[simp] theorem State.arbiter_frame (s : State) :
    (s.arbiter).table = s.table ∧ (s.arbiter).adm = s.adm ∧ (s.arbiter).lanes = s.lanes ∧
    (s.arbiter).debounce = s.debounce ∧ (s.arbiter).load = s.load ∧ (s.arbiter).counts = s.counts ∧
    (s.arbiter).refund = s.refund ∧ (s.arbiter).time = s.time ∧ (s.arbiter).ports = s.ports ∧
    (s.arbiter).supply = s.supply ∧ (s.arbiter).free = s.free ∧ (s.arbiter).pending = s.pending := by
  refine ⟨?_, ?_, ?_, ?_, ?_, ?_, ?_, ?_, ?_, ?_, ?_, ?_⟩ <;> (unfold State.arbiter; (repeat' split) <;> simp)

@[simp] theorem State.requestLaneStamp_frame (s : State) (r : StampReq) :
    (s.requestLaneStamp r).table = s.table ∧ (s.requestLaneStamp r).adm = s.adm ∧
    (s.requestLaneStamp r).lanes = s.lanes ∧ (s.requestLaneStamp r).debounce = s.debounce ∧
    (s.requestLaneStamp r).load = s.load ∧ (s.requestLaneStamp r).counts = s.counts ∧
    (s.requestLaneStamp r).refund = s.refund ∧ (s.requestLaneStamp r).time = s.time ∧
    (s.requestLaneStamp r).ports = s.ports ∧ (s.requestLaneStamp r).supply = s.supply ∧
    (s.requestLaneStamp r).free = s.free ∧ (s.requestLaneStamp r).pending = s.pending := by
  refine ⟨?_, ?_, ?_, ?_, ?_, ?_, ?_, ?_, ?_, ?_, ?_, ?_⟩ <;> (unfold State.requestLaneStamp; (repeat' split) <;> simp)

@[simp] theorem State.requestTune_frame (s : State) (a : Antenna) :
    (s.requestTune a).table = s.table ∧ (s.requestTune a).adm = s.adm ∧ (s.requestTune a).lanes = s.lanes ∧
    (s.requestTune a).debounce = s.debounce ∧ (s.requestTune a).load = s.load ∧ (s.requestTune a).counts = s.counts ∧
    (s.requestTune a).refund = s.refund ∧ (s.requestTune a).time = s.time ∧ (s.requestTune a).ports = s.ports ∧
    (s.requestTune a).supply = s.supply ∧ (s.requestTune a).free = s.free ∧ (s.requestTune a).pending = s.pending := by
  refine ⟨?_, ?_, ?_, ?_, ?_, ?_, ?_, ?_, ?_, ?_, ?_, ?_⟩ <;> (unfold State.requestTune; (repeat' split) <;> simp)

@[simp] theorem State.orderTune_frame (s : State) (a : Antenna) :
    (s.orderTune a).table = s.table ∧ (s.orderTune a).adm = s.adm ∧ (s.orderTune a).lanes = s.lanes ∧
    (s.orderTune a).debounce = s.debounce ∧ (s.orderTune a).load = s.load ∧ (s.orderTune a).counts = s.counts ∧
    (s.orderTune a).refund = s.refund ∧ (s.orderTune a).time = s.time ∧ (s.orderTune a).ports = s.ports ∧
    (s.orderTune a).supply = s.supply ∧ (s.orderTune a).free = s.free ∧ (s.orderTune a).pending = s.pending := by
  refine ⟨?_, ?_, ?_, ?_, ?_, ?_, ?_, ?_, ?_, ?_, ?_, ?_⟩ <;> (unfold State.orderTune; (repeat' split) <;> simp)

@[simp] theorem State.applyCollide_frame (s : State) (p : Position) (o : VisitOutcome) :
    (s.applyCollide p o).table = s.table ∧ (s.applyCollide p o).adm = s.adm ∧ (s.applyCollide p o).lanes = s.lanes ∧
    (s.applyCollide p o).debounce = s.debounce ∧ (s.applyCollide p o).load = s.load ∧
    (s.applyCollide p o).counts = s.counts ∧ (s.applyCollide p o).refund = s.refund ∧
    (s.applyCollide p o).time = s.time ∧ (s.applyCollide p o).supply = s.supply ∧
    (s.applyCollide p o).free = s.free ∧ (s.applyCollide p o).pending = s.pending := by
  refine ⟨?_, ?_, ?_, ?_, ?_, ?_, ?_, ?_, ?_, ?_, ?_⟩ <;> (unfold State.applyCollide; (try dsimp only); (repeat' split) <;> simp)

@[simp] theorem State.applyFaults_frame (s : State) (p : Position) (a : Antenna) (o : VisitOutcome) :
    (s.applyFaults p a o).table = s.table ∧ (s.applyFaults p a o).adm = s.adm ∧
    (s.applyFaults p a o).lanes = s.lanes ∧ (s.applyFaults p a o).debounce = s.debounce ∧
    (s.applyFaults p a o).load = s.load ∧ (s.applyFaults p a o).counts = s.counts ∧
    (s.applyFaults p a o).refund = s.refund ∧ (s.applyFaults p a o).time = s.time ∧
    (s.applyFaults p a o).supply = s.supply ∧ (s.applyFaults p a o).free = s.free ∧
    (s.applyFaults p a o).pending = s.pending := by
  refine ⟨?_, ?_, ?_, ?_, ?_, ?_, ?_, ?_, ?_, ?_, ?_⟩ <;> (unfold State.applyFaults; (try dsimp only); (repeat' split) <;> simp)

@[simp] theorem State.applyClip_frame (s : State) (a : Antenna) (o : VisitOutcome) :
    (s.applyClip a o).table = s.table ∧ (s.applyClip a o).adm = s.adm ∧ (s.applyClip a o).lanes = s.lanes ∧
    (s.applyClip a o).debounce = s.debounce ∧ (s.applyClip a o).load = s.load ∧ (s.applyClip a o).counts = s.counts ∧
    (s.applyClip a o).refund = s.refund ∧ (s.applyClip a o).time = s.time ∧ (s.applyClip a o).ports = s.ports ∧
    (s.applyClip a o).supply = s.supply ∧ (s.applyClip a o).free = s.free ∧ (s.applyClip a o).pending = s.pending := by
  refine ⟨?_, ?_, ?_, ?_, ?_, ?_, ?_, ?_, ?_, ?_, ?_, ?_⟩ <;> (unfold State.applyClip; (repeat' split) <;> simp)

@[simp] theorem State.applyOutcome_frame (s : State) (p : Position) (a : Antenna) (o : VisitOutcome) :
    (s.applyOutcome p a o).table = s.table ∧ (s.applyOutcome p a o).adm = s.adm ∧
    (s.applyOutcome p a o).lanes = s.lanes ∧ (s.applyOutcome p a o).debounce = s.debounce ∧
    (s.applyOutcome p a o).load = s.load ∧ (s.applyOutcome p a o).counts = s.counts ∧
    (s.applyOutcome p a o).refund = s.refund ∧ (s.applyOutcome p a o).time = s.time ∧
    (s.applyOutcome p a o).supply = s.supply ∧ (s.applyOutcome p a o).free = s.free ∧
    (s.applyOutcome p a o).pending = s.pending := by
  refine ⟨?_, ?_, ?_, ?_, ?_, ?_, ?_, ?_, ?_, ?_, ?_⟩ <;> (unfold State.applyOutcome; (repeat' split) <;> simp)

@[simp] theorem State.startSignal_frame (s : State) (n : Lane) (k : SignalKind) :
    (s.startSignal n k).table = s.table ∧ (s.startSignal n k).reader = s.reader ∧ (s.startSignal n k).adm = s.adm ∧
    (s.startSignal n k).debounce = s.debounce ∧ (s.startSignal n k).load = s.load ∧
    (s.startSignal n k).counts = s.counts ∧ (s.startSignal n k).refund = s.refund ∧
    (s.startSignal n k).time = s.time ∧ (s.startSignal n k).ports = s.ports ∧ (s.startSignal n k).supply = s.supply ∧
    (s.startSignal n k).free = s.free ∧ (s.startSignal n k).pending = s.pending := by
  refine ⟨?_, ?_, ?_, ?_, ?_, ?_, ?_, ?_, ?_, ?_, ?_, ?_⟩ <;> (unfold State.startSignal; (repeat' split) <;> simp)

@[simp] theorem State.startTone_frame (s : State) (n : Lane) (p : Pattern) :
    (s.startTone n p).table = s.table ∧ (s.startTone n p).reader = s.reader ∧ (s.startTone n p).adm = s.adm ∧
    (s.startTone n p).debounce = s.debounce ∧ (s.startTone n p).load = s.load ∧ (s.startTone n p).counts = s.counts ∧
    (s.startTone n p).refund = s.refund ∧ (s.startTone n p).time = s.time ∧ (s.startTone n p).ports = s.ports ∧
    (s.startTone n p).supply = s.supply ∧ (s.startTone n p).free = s.free ∧ (s.startTone n p).pending = s.pending := by
  refine ⟨?_, ?_, ?_, ?_, ?_, ?_, ?_, ?_, ?_, ?_, ?_, ?_⟩ <;> (unfold State.startTone; (repeat' split) <;> simp)

@[simp] theorem State.putVerdict_frame (s : State) (n : Lane) (v : Verdict) :
    (s.putVerdict n v).table = s.table ∧ (s.putVerdict n v).reader = s.reader ∧
    (s.putVerdict n v).debounce = s.debounce ∧ (s.putVerdict n v).load = s.load ∧
    (s.putVerdict n v).counts = s.counts ∧ (s.putVerdict n v).refund = s.refund ∧ (s.putVerdict n v).time = s.time ∧
    (s.putVerdict n v).supply = s.supply ∧ (s.putVerdict n v).free = s.free ∧ (s.putVerdict n v).pending = s.pending := by
  refine ⟨?_, ?_, ?_, ?_, ?_, ?_, ?_, ?_, ?_, ?_⟩ <;> (unfold State.putVerdict; (repeat' split) <;> simp)

@[simp] theorem State.putReport_frame (s : State) (n : Lane) (k : ReportKind) (p : PassNo) :
    (s.putReport n k p).table = s.table ∧ (s.putReport n k p).reader = s.reader ∧ (s.putReport n k p).adm = s.adm ∧
    (s.putReport n k p).debounce = s.debounce ∧ (s.putReport n k p).load = s.load ∧
    (s.putReport n k p).counts = s.counts ∧ (s.putReport n k p).refund = s.refund ∧
    (s.putReport n k p).time = s.time ∧ (s.putReport n k p).supply = s.supply ∧ (s.putReport n k p).free = s.free ∧
    (s.putReport n k p).pending = s.pending := by
  refine ⟨?_, ?_, ?_, ?_, ?_, ?_, ?_, ?_, ?_, ?_, ?_⟩ <;> (unfold State.putReport; (repeat' split) <;> simp)

@[simp] theorem State.unpin_frame (s : State) (n : Lane) (p : PassNo) :
    (s.unpin n p).reader = s.reader ∧ (s.unpin n p).adm = s.adm ∧ (s.unpin n p).lanes = s.lanes ∧
    (s.unpin n p).debounce = s.debounce ∧ (s.unpin n p).load = s.load ∧ (s.unpin n p).counts = s.counts ∧
    (s.unpin n p).refund = s.refund ∧ (s.unpin n p).time = s.time ∧ (s.unpin n p).ports = s.ports ∧
    (s.unpin n p).supply = s.supply ∧ (s.unpin n p).free = s.free ∧ (s.unpin n p).pending = s.pending := by
  refine ⟨?_, ?_, ?_, ?_, ?_, ?_, ?_, ?_, ?_, ?_, ?_, ?_⟩ <;> (unfold State.unpin; (repeat' split) <;> simp)

@[simp] theorem State.beginContext_frame (s : State) (n : Lane) (c : Context) (note : Note) :
    (s.beginContext n c note).table = s.table ∧ (s.beginContext n c note).reader = s.reader ∧
    (s.beginContext n c note).debounce = s.debounce ∧ (s.beginContext n c note).load = s.load ∧
    (s.beginContext n c note).counts = s.counts ∧ (s.beginContext n c note).refund = s.refund ∧
    (s.beginContext n c note).time = s.time ∧ (s.beginContext n c note).ports = s.ports ∧
    (s.beginContext n c note).supply = s.supply ∧ (s.beginContext n c note).free = s.free ∧
    (s.beginContext n c note).pending = s.pending := by
  refine ⟨?_, ?_, ?_, ?_, ?_, ?_, ?_, ?_, ?_, ?_, ?_⟩ <;> (unfold State.beginContext; (repeat' split) <;> simp)

@[simp] theorem State.endContext_frame (s : State) (n : Lane) :
    (s.endContext n).reader = s.reader ∧ (s.endContext n).debounce = s.debounce ∧ (s.endContext n).load = s.load ∧
    (s.endContext n).counts = s.counts ∧ (s.endContext n).refund = s.refund ∧ (s.endContext n).time = s.time ∧
    (s.endContext n).ports = s.ports ∧ (s.endContext n).supply = s.supply ∧ (s.endContext n).free = s.free ∧
    (s.endContext n).pending = s.pending := by
  refine ⟨?_, ?_, ?_, ?_, ?_, ?_, ?_, ?_, ?_, ?_⟩ <;> (unfold State.endContext; (repeat' split) <;> simp)

@[simp] theorem State.grantLane_frame (s : State) (n : Lane) :
    (s.grantLane n).table = s.table ∧ (s.grantLane n).reader = s.reader ∧ (s.grantLane n).adm = s.adm ∧
    (s.grantLane n).debounce = s.debounce ∧ (s.grantLane n).load = s.load ∧ (s.grantLane n).counts = s.counts ∧
    (s.grantLane n).refund = s.refund ∧ (s.grantLane n).time = s.time ∧ (s.grantLane n).ports = s.ports ∧
    (s.grantLane n).supply = s.supply ∧ (s.grantLane n).free = s.free ∧ (s.grantLane n).pending = s.pending := by
  refine ⟨?_, ?_, ?_, ?_, ?_, ?_, ?_, ?_, ?_, ?_, ?_, ?_⟩ <;> (unfold State.grantLane; (repeat' split) <;> simp)

@[simp] theorem State.grantActions_frame (s : State) (n : Lane) (p : PassNo) (d : NoteData) :
    (s.grantActions n p d).adm = s.adm ∧ (s.grantActions n p d).lanes = s.lanes ∧
    (s.grantActions n p d).debounce = s.debounce ∧ (s.grantActions n p d).load = s.load ∧
    (s.grantActions n p d).refund = s.refund ∧ (s.grantActions n p d).time = s.time ∧
    (s.grantActions n p d).ports = s.ports ∧ (s.grantActions n p d).supply = s.supply ∧
    (s.grantActions n p d).free = s.free ∧ (s.grantActions n p d).pending = s.pending := by
  refine ⟨?_, ?_, ?_, ?_, ?_, ?_, ?_, ?_, ?_, ?_⟩ <;> (unfold State.grantActions; (try dsimp only); (repeat' split) <;> simp)

@[simp] theorem State.grant_frame (s : State) (n : Lane) :
    (s.grant n).adm = s.adm ∧ (s.grant n).debounce = s.debounce ∧ (s.grant n).refund = s.refund ∧
    (s.grant n).time = s.time ∧ (s.grant n).ports = s.ports ∧ (s.grant n).supply = s.supply ∧
    (s.grant n).free = s.free ∧ (s.grant n).pending = s.pending := by
  refine ⟨?_, ?_, ?_, ?_, ?_, ?_, ?_, ?_⟩ <;> (unfold State.grant; (try dsimp only); (repeat' split) <;> simp)

@[simp] theorem State.requestRelease_frame (s : State) (n : Lane) (p : PassNo) (cls : Nat) :
    (s.requestRelease n p cls).adm = s.adm ∧ (s.requestRelease n p cls).debounce = s.debounce ∧
    (s.requestRelease n p cls).refund = s.refund ∧ (s.requestRelease n p cls).time = s.time ∧
    (s.requestRelease n p cls).ports = s.ports ∧ (s.requestRelease n p cls).supply = s.supply ∧
    (s.requestRelease n p cls).free = s.free ∧ (s.requestRelease n p cls).pending = s.pending := by
  refine ⟨?_, ?_, ?_, ?_, ?_, ?_, ?_, ?_⟩ <;> (unfold State.requestRelease; (repeat' split) <;> simp)

@[simp] theorem State.grantHead_frame (s : State) (n : Lane) :
    (s.grantHead n).debounce = s.debounce ∧ (s.grantHead n).refund = s.refund ∧ (s.grantHead n).time = s.time ∧
    (s.grantHead n).supply = s.supply ∧ (s.grantHead n).free = s.free ∧ (s.grantHead n).pending = s.pending := by
  refine ⟨?_, ?_, ?_, ?_, ?_, ?_⟩ <;> (unfold State.grantHead; (repeat' split) <;> simp)

@[simp] theorem State.dropEntry_frame (s : State) (n : Lane) (r : WithdrawReason) :
    (s.dropEntry n r).reader = s.reader ∧ (s.dropEntry n r).debounce = s.debounce ∧
    (s.dropEntry n r).refund = s.refund ∧ (s.dropEntry n r).time = s.time ∧ (s.dropEntry n r).supply = s.supply ∧
    (s.dropEntry n r).free = s.free ∧ (s.dropEntry n r).pending = s.pending := by
  refine ⟨?_, ?_, ?_, ?_, ?_, ?_, ?_⟩ <;> (unfold State.dropEntry; (repeat' split) <;> simp)

@[simp] theorem State.serveHead_frame (s : State) (n : Lane) :
    (s.serveHead n).debounce = s.debounce ∧ (s.serveHead n).refund = s.refund ∧ (s.serveHead n).time = s.time ∧
    (s.serveHead n).supply = s.supply ∧ (s.serveHead n).free = s.free ∧ (s.serveHead n).pending = s.pending := by
  refine ⟨?_, ?_, ?_, ?_, ?_, ?_⟩ <;> (unfold State.serveHead; (repeat' split) <;> simp)

@[simp] theorem serviceRounds_frame (k : Nat) (s : State) :
    (serviceRounds k s).debounce = s.debounce ∧ (serviceRounds k s).refund = s.refund ∧
    (serviceRounds k s).time = s.time ∧ (serviceRounds k s).supply = s.supply ∧ (serviceRounds k s).free = s.free ∧
    (serviceRounds k s).pending = s.pending := by
  refine ⟨?_, ?_, ?_, ?_, ?_, ?_⟩ <;> (induction k generalizing s with
    | zero => rfl
    | succ k ih => simp only [serviceRounds]; (repeat' split) <;> simp [*])

@[simp] theorem State.serviceStep_frame (s : State) :
    (s.serviceStep).debounce = s.debounce ∧ (s.serviceStep).refund = s.refund ∧ (s.serviceStep).time = s.time ∧
    (s.serviceStep).supply = s.supply ∧ (s.serviceStep).free = s.free ∧ (s.serviceStep).pending = s.pending := by
  refine ⟨?_, ?_, ?_, ?_, ?_, ?_⟩ <;> (unfold State.serviceStep; (repeat' split) <;> simp)

@[simp] theorem State.withdraw_frame (s : State) (n : Lane) (r : WithdrawReason) :
    (s.withdraw n r).debounce = s.debounce ∧ (s.withdraw n r).refund = s.refund ∧ (s.withdraw n r).time = s.time ∧
    (s.withdraw n r).supply = s.supply ∧ (s.withdraw n r).free = s.free ∧ (s.withdraw n r).pending = s.pending := by
  refine ⟨?_, ?_, ?_, ?_, ?_, ?_⟩ <;> (unfold State.withdraw; (repeat' split) <;> simp)

@[simp] theorem State.withdrawAll_frame (s : State) :
    (s.withdrawAll).debounce = s.debounce ∧ (s.withdrawAll).refund = s.refund ∧ (s.withdrawAll).time = s.time ∧
    (s.withdrawAll).supply = s.supply ∧ (s.withdrawAll).free = s.free ∧ (s.withdrawAll).pending = s.pending := by
  refine ⟨?_, ?_, ?_, ?_, ?_, ?_⟩ <;> (unfold State.withdrawAll; exact foldl_keeps _ _ (fun _ _ => by simp) _ _)

@[simp] theorem State.handWithdrawal_frame (s : State) (n : Lane) (r : WithdrawReason) :
    (s.handWithdrawal n r).table = s.table ∧ (s.handWithdrawal n r).reader = s.reader ∧
    (s.handWithdrawal n r).adm = s.adm ∧ (s.handWithdrawal n r).lanes = s.lanes ∧
    (s.handWithdrawal n r).debounce = s.debounce ∧ (s.handWithdrawal n r).counts = s.counts ∧
    (s.handWithdrawal n r).refund = s.refund ∧ (s.handWithdrawal n r).time = s.time ∧
    (s.handWithdrawal n r).ports = s.ports ∧ (s.handWithdrawal n r).supply = s.supply ∧
    (s.handWithdrawal n r).free = s.free ∧ (s.handWithdrawal n r).pending = s.pending := by
  refine ⟨?_, ?_, ?_, ?_, ?_, ?_, ?_, ?_, ?_, ?_, ?_, ?_⟩ <;> (unfold State.handWithdrawal; (repeat' split) <;> simp)

@[simp] theorem State.withCtx_frame (s : State) (c : RefundCtx) :
    (s.withCtx c).table = s.table ∧ (s.withCtx c).reader = s.reader ∧ (s.withCtx c).adm = s.adm ∧
    (s.withCtx c).lanes = s.lanes ∧ (s.withCtx c).debounce = s.debounce ∧ (s.withCtx c).load = s.load ∧
    (s.withCtx c).counts = s.counts ∧ (s.withCtx c).time = s.time ∧ (s.withCtx c).ports = s.ports ∧
    (s.withCtx c).supply = s.supply ∧ (s.withCtx c).free = s.free ∧ (s.withCtx c).pending = s.pending := by
  refine ⟨?_, ?_, ?_, ?_, ?_, ?_, ?_, ?_, ?_, ?_, ?_, ?_⟩ <;> (unfold State.withCtx; (repeat' split) <;> simp)

@[simp] theorem State.endQuote_frame (s : State) (e : QuoteEnd) :
    (s.endQuote e).table = s.table ∧ (s.endQuote e).reader = s.reader ∧ (s.endQuote e).adm = s.adm ∧
    (s.endQuote e).lanes = s.lanes ∧ (s.endQuote e).debounce = s.debounce ∧ (s.endQuote e).load = s.load ∧
    (s.endQuote e).counts = s.counts ∧ (s.endQuote e).time = s.time ∧ (s.endQuote e).ports = s.ports ∧
    (s.endQuote e).supply = s.supply ∧ (s.endQuote e).free = s.free ∧ (s.endQuote e).pending = s.pending := by
  refine ⟨?_, ?_, ?_, ?_, ?_, ?_, ?_, ?_, ?_, ?_, ?_, ?_⟩ <;> (unfold State.endQuote; (repeat' split) <;> simp)

@[simp] theorem State.endHold_frame (s : State) (q : StandingQuote) (e : QuoteEnd) :
    (s.endHold q e).reader = s.reader ∧ (s.endHold q e).adm = s.adm ∧ (s.endHold q e).lanes = s.lanes ∧
    (s.endHold q e).debounce = s.debounce ∧ (s.endHold q e).load = s.load ∧ (s.endHold q e).counts = s.counts ∧
    (s.endHold q e).time = s.time ∧ (s.endHold q e).ports = s.ports ∧ (s.endHold q e).supply = s.supply ∧
    (s.endHold q e).free = s.free ∧ (s.endHold q e).pending = s.pending := by
  refine ⟨?_, ?_, ?_, ?_, ?_, ?_, ?_, ?_, ?_, ?_, ?_⟩ <;> (unfold State.endHold; (repeat' split) <;> simp)

@[simp] theorem State.expireHold_frame (s : State) (q : StandingQuote) :
    (s.expireHold q).reader = s.reader ∧ (s.expireHold q).adm = s.adm ∧ (s.expireHold q).lanes = s.lanes ∧
    (s.expireHold q).debounce = s.debounce ∧ (s.expireHold q).load = s.load ∧ (s.expireHold q).counts = s.counts ∧
    (s.expireHold q).time = s.time ∧ (s.expireHold q).supply = s.supply ∧ (s.expireHold q).free = s.free ∧
    (s.expireHold q).pending = s.pending := by
  refine ⟨?_, ?_, ?_, ?_, ?_, ?_, ?_, ?_, ?_, ?_⟩ <;> (unfold State.expireHold; (repeat' split) <;> simp)

@[simp] theorem State.refuseQuote_frame (s : State) (res : Result) (b : Body) :
    (s.refuseQuote res b).table = s.table ∧ (s.refuseQuote res b).reader = s.reader ∧
    (s.refuseQuote res b).adm = s.adm ∧ (s.refuseQuote res b).lanes = s.lanes ∧
    (s.refuseQuote res b).debounce = s.debounce ∧ (s.refuseQuote res b).load = s.load ∧
    (s.refuseQuote res b).counts = s.counts ∧ (s.refuseQuote res b).time = s.time ∧
    (s.refuseQuote res b).supply = s.supply ∧ (s.refuseQuote res b).free = s.free ∧
    (s.refuseQuote res b).pending = s.pending := by
  refine ⟨?_, ?_, ?_, ?_, ?_, ?_, ?_, ?_, ?_, ?_, ?_⟩ <;> (unfold State.refuseQuote; (repeat' split) <;> simp)

@[simp] theorem State.openQuote_frame (s : State) (r : Reading) (q : Quote) :
    (s.openQuote r q).reader = s.reader ∧ (s.openQuote r q).adm = s.adm ∧ (s.openQuote r q).lanes = s.lanes ∧
    (s.openQuote r q).debounce = s.debounce ∧ (s.openQuote r q).load = s.load ∧ (s.openQuote r q).counts = s.counts ∧
    (s.openQuote r q).time = s.time ∧ (s.openQuote r q).supply = s.supply ∧ (s.openQuote r q).free = s.free ∧
    (s.openQuote r q).pending = s.pending := by
  refine ⟨?_, ?_, ?_, ?_, ?_, ?_, ?_, ?_, ?_, ?_⟩ <;> (unfold State.openQuote; (repeat' split) <;> simp)

@[simp] theorem State.placeHold_frame (s : State) (r : Reading) (q : Quote) :
    (s.placeHold r q).reader = s.reader ∧ (s.placeHold r q).adm = s.adm ∧ (s.placeHold r q).lanes = s.lanes ∧
    (s.placeHold r q).debounce = s.debounce ∧ (s.placeHold r q).load = s.load ∧ (s.placeHold r q).counts = s.counts ∧
    (s.placeHold r q).time = s.time ∧ (s.placeHold r q).supply = s.supply ∧ (s.placeHold r q).free = s.free ∧
    (s.placeHold r q).pending = s.pending := by
  refine ⟨?_, ?_, ?_, ?_, ?_, ?_, ?_, ?_, ?_, ?_⟩ <;> (unfold State.placeHold; (repeat' split) <;> simp)

@[simp] theorem State.settleWriteBack_frame (s : State) (ok : Bool) :
    (s.settleWriteBack ok).reader = s.reader ∧ (s.settleWriteBack ok).adm = s.adm ∧
    (s.settleWriteBack ok).lanes = s.lanes ∧ (s.settleWriteBack ok).debounce = s.debounce ∧
    (s.settleWriteBack ok).load = s.load ∧ (s.settleWriteBack ok).counts = s.counts ∧
    (s.settleWriteBack ok).time = s.time ∧ (s.settleWriteBack ok).supply = s.supply ∧
    (s.settleWriteBack ok).free = s.free ∧ (s.settleWriteBack ok).pending = s.pending := by
  refine ⟨?_, ?_, ?_, ?_, ?_, ?_, ?_, ?_, ?_, ?_⟩ <;> (unfold State.settleWriteBack; (repeat' split) <;> simp)

@[simp] theorem State.commitConfirmed_frame (s : State) (q : StandingQuote) (seq : Nat) :
    (s.commitConfirmed q seq).1.reader = s.reader ∧ (s.commitConfirmed q seq).1.adm = s.adm ∧
    (s.commitConfirmed q seq).1.lanes = s.lanes ∧ (s.commitConfirmed q seq).1.debounce = s.debounce ∧
    (s.commitConfirmed q seq).1.load = s.load ∧ (s.commitConfirmed q seq).1.time = s.time ∧
    (s.commitConfirmed q seq).1.supply = s.supply ∧ (s.commitConfirmed q seq).1.free = s.free ∧
    (s.commitConfirmed q seq).1.pending = s.pending := by
  refine ⟨?_, ?_, ?_, ?_, ?_, ?_, ?_, ?_, ?_⟩ <;> (unfold State.commitConfirmed; (repeat' split) <;> simp)

@[simp] theorem State.commitFailed_frame (s : State) (q : StandingQuote) (echoed : Option PassNo) :
    (s.commitFailed q echoed).1.reader = s.reader ∧ (s.commitFailed q echoed).1.adm = s.adm ∧
    (s.commitFailed q echoed).1.lanes = s.lanes ∧ (s.commitFailed q echoed).1.debounce = s.debounce ∧
    (s.commitFailed q echoed).1.load = s.load ∧ (s.commitFailed q echoed).1.counts = s.counts ∧
    (s.commitFailed q echoed).1.time = s.time ∧ (s.commitFailed q echoed).1.supply = s.supply ∧
    (s.commitFailed q echoed).1.free = s.free ∧ (s.commitFailed q echoed).1.pending = s.pending := by
  refine ⟨?_, ?_, ?_, ?_, ?_, ?_, ?_, ?_, ?_, ?_⟩ <;> (unfold State.commitFailed; (try dsimp only); (repeat' split) <;> simp)

@[simp] theorem State.settleCommit_frame (s : State) (ok : Bool) (echoed : Option PassNo) :
    (s.settleCommit ok echoed).1.reader = s.reader ∧ (s.settleCommit ok echoed).1.adm = s.adm ∧
    (s.settleCommit ok echoed).1.lanes = s.lanes ∧ (s.settleCommit ok echoed).1.debounce = s.debounce ∧
    (s.settleCommit ok echoed).1.load = s.load ∧ (s.settleCommit ok echoed).1.time = s.time ∧
    (s.settleCommit ok echoed).1.supply = s.supply ∧ (s.settleCommit ok echoed).1.free = s.free ∧
    (s.settleCommit ok echoed).1.pending = s.pending := by
  refine ⟨?_, ?_, ?_, ?_, ?_, ?_, ?_, ?_, ?_⟩ <;> (unfold State.settleCommit; (try dsimp only); (repeat' split) <;> simp)

@[simp] theorem State.settleCommitLong_frame (s : State) (ok : Bool) (echoed : Option PassNo) :
    (s.settleCommitLong ok echoed).reader = s.reader ∧ (s.settleCommitLong ok echoed).adm = s.adm ∧
    (s.settleCommitLong ok echoed).lanes = s.lanes ∧ (s.settleCommitLong ok echoed).debounce = s.debounce ∧
    (s.settleCommitLong ok echoed).load = s.load ∧ (s.settleCommitLong ok echoed).time = s.time ∧
    (s.settleCommitLong ok echoed).supply = s.supply ∧ (s.settleCommitLong ok echoed).free = s.free ∧
    (s.settleCommitLong ok echoed).pending = s.pending := by
  refine ⟨?_, ?_, ?_, ?_, ?_, ?_, ?_, ?_, ?_⟩ <;> (have hf := State.settleCommit_frame s ok echoed; revert hf; unfold State.settleCommitLong; cases h : s.settleCommit ok echoed with
    | mk t a => cases a <;> (intro hf; simp at hf; simp [hf]))

@[simp] theorem State.settleService_frame (s : State) (r : StampReq) (ok : Bool) :
    (s.settleService r ok).reader = s.reader ∧ (s.settleService r ok).adm = s.adm ∧
    (s.settleService r ok).lanes = s.lanes ∧ (s.settleService r ok).debounce = s.debounce ∧
    (s.settleService r ok).load = s.load ∧ (s.settleService r ok).time = s.time ∧
    (s.settleService r ok).supply = s.supply ∧ (s.settleService r ok).free = s.free ∧
    (s.settleService r ok).pending = s.pending := by
  refine ⟨?_, ?_, ?_, ?_, ?_, ?_, ?_, ?_, ?_⟩ <;> (unfold State.settleService; (repeat' split) <;> simp)

@[simp] theorem State.endPendingWork_frame (s : State) (p : Position) :
    (s.endPendingWork p).adm = s.adm ∧ (s.endPendingWork p).lanes = s.lanes ∧
    (s.endPendingWork p).debounce = s.debounce ∧ (s.endPendingWork p).load = s.load ∧
    (s.endPendingWork p).time = s.time ∧ (s.endPendingWork p).supply = s.supply ∧
    (s.endPendingWork p).free = s.free ∧ (s.endPendingWork p).pending = s.pending := by
  refine ⟨?_, ?_, ?_, ?_, ?_, ?_, ?_, ?_⟩ <;> (unfold State.endPendingWork; (repeat' split) <;> simp)

@[simp] theorem State.endIfUnworkable_frame (s : State) (p : Position) :
    (s.endIfUnworkable p).adm = s.adm ∧ (s.endIfUnworkable p).lanes = s.lanes ∧
    (s.endIfUnworkable p).debounce = s.debounce ∧ (s.endIfUnworkable p).load = s.load ∧
    (s.endIfUnworkable p).time = s.time ∧ (s.endIfUnworkable p).supply = s.supply ∧
    (s.endIfUnworkable p).free = s.free ∧ (s.endIfUnworkable p).pending = s.pending := by
  refine ⟨?_, ?_, ?_, ?_, ?_, ?_, ?_, ?_⟩ <;> (unfold State.endIfUnworkable; (repeat' split) <;> simp)

@[simp] theorem State.requestWriteBackStamp_frame (s : State) (r : StampReq) :
    (s.requestWriteBackStamp r).adm = s.adm ∧ (s.requestWriteBackStamp r).lanes = s.lanes ∧
    (s.requestWriteBackStamp r).debounce = s.debounce ∧ (s.requestWriteBackStamp r).load = s.load ∧
    (s.requestWriteBackStamp r).counts = s.counts ∧ (s.requestWriteBackStamp r).time = s.time ∧
    (s.requestWriteBackStamp r).supply = s.supply ∧ (s.requestWriteBackStamp r).free = s.free ∧
    (s.requestWriteBackStamp r).pending = s.pending := by
  refine ⟨?_, ?_, ?_, ?_, ?_, ?_, ?_, ?_, ?_⟩ <;> (unfold State.requestWriteBackStamp; (repeat' split) <;> simp)

@[simp] theorem State.remapPosition_frame (s : State) (p : Position) :
    (s.remapPosition p).adm = s.adm ∧ (s.remapPosition p).lanes = s.lanes ∧
    (s.remapPosition p).debounce = s.debounce ∧ (s.remapPosition p).load = s.load ∧
    (s.remapPosition p).time = s.time ∧ (s.remapPosition p).supply = s.supply ∧ (s.remapPosition p).free = s.free ∧
    (s.remapPosition p).pending = s.pending := by
  refine ⟨?_, ?_, ?_, ?_, ?_, ?_, ?_, ?_⟩ <;> (unfold State.remapPosition; (repeat' split) <;> simp)

@[simp] theorem State.applyMap_frame (s : State) (changes : List (Position × Option Antenna)) :
    (s.applyMap changes).adm = s.adm ∧ (s.applyMap changes).lanes = s.lanes ∧
    (s.applyMap changes).debounce = s.debounce ∧ (s.applyMap changes).load = s.load ∧
    (s.applyMap changes).time = s.time ∧ (s.applyMap changes).supply = s.supply ∧
    (s.applyMap changes).free = s.free ∧ (s.applyMap changes).pending = s.pending := by
  refine ⟨?_, ?_, ?_, ?_, ?_, ?_, ?_, ?_⟩ <;> (unfold State.applyMap; refine (foldl_keeps _ _ (fun _ _ => by simp) _ _).trans ?_; simp)

@[simp] theorem State.applyDeferred_frame (s : State) :
    (s.applyDeferred).adm = s.adm ∧ (s.applyDeferred).lanes = s.lanes ∧ (s.applyDeferred).debounce = s.debounce ∧
    (s.applyDeferred).load = s.load ∧ (s.applyDeferred).time = s.time ∧ (s.applyDeferred).supply = s.supply ∧
    (s.applyDeferred).free = s.free ∧ (s.applyDeferred).pending = s.pending := by
  refine ⟨?_, ?_, ?_, ?_, ?_, ?_, ?_, ?_⟩ <;> (unfold State.applyDeferred; (repeat' split) <;> simp)

@[simp] theorem State.endVisit_frame (s : State) :
    (s.endVisit).adm = s.adm ∧ (s.endVisit).lanes = s.lanes ∧ (s.endVisit).debounce = s.debounce ∧
    (s.endVisit).load = s.load ∧ (s.endVisit).time = s.time ∧ (s.endVisit).supply = s.supply ∧
    (s.endVisit).free = s.free ∧ (s.endVisit).pending = s.pending := by
  refine ⟨?_, ?_, ?_, ?_, ?_, ?_, ?_, ?_⟩ <;> (unfold State.endVisit; (repeat' split) <;> simp)

@[simp] theorem State.clearBehind_frame (s : State) (q : StampReq) :
    (s.clearBehind q).reader = s.reader ∧ (s.clearBehind q).adm = s.adm ∧ (s.clearBehind q).lanes = s.lanes ∧
    (s.clearBehind q).debounce = s.debounce ∧ (s.clearBehind q).load = s.load ∧ (s.clearBehind q).counts = s.counts ∧
    (s.clearBehind q).refund = s.refund ∧ (s.clearBehind q).time = s.time ∧ (s.clearBehind q).ports = s.ports ∧
    (s.clearBehind q).supply = s.supply ∧ (s.clearBehind q).free = s.free ∧ (s.clearBehind q).pending = s.pending := by
  refine ⟨?_, ?_, ?_, ?_, ?_, ?_, ?_, ?_, ?_, ?_, ?_, ?_⟩ <;> (unfold State.clearBehind; (repeat' split) <;> simp)

@[simp] theorem State.learn_frame (s : State) (pos : Position) (p : PassNo) :
    (s.learn pos p).reader = s.reader ∧ (s.learn pos p).adm = s.adm ∧ (s.learn pos p).lanes = s.lanes ∧
    (s.learn pos p).debounce = s.debounce ∧ (s.learn pos p).load = s.load ∧ (s.learn pos p).refund = s.refund ∧
    (s.learn pos p).time = s.time ∧ (s.learn pos p).ports = s.ports ∧ (s.learn pos p).supply = s.supply ∧
    (s.learn pos p).free = s.free ∧ (s.learn pos p).pending = s.pending := by
  refine ⟨?_, ?_, ?_, ?_, ?_, ?_, ?_, ?_, ?_, ?_, ?_⟩ <;> (unfold State.learn; (repeat' split) <;> simp)

@[simp] theorem State.mergeCard_frame (s : State) (c : Card) (r : PassRecord) :
    (s.mergeCard c r).1.reader = s.reader ∧ (s.mergeCard c r).1.adm = s.adm ∧ (s.mergeCard c r).1.lanes = s.lanes ∧
    (s.mergeCard c r).1.debounce = s.debounce ∧ (s.mergeCard c r).1.load = s.load ∧
    (s.mergeCard c r).1.counts = s.counts ∧ (s.mergeCard c r).1.refund = s.refund ∧
    (s.mergeCard c r).1.time = s.time ∧ (s.mergeCard c r).1.ports = s.ports ∧ (s.mergeCard c r).1.supply = s.supply ∧
    (s.mergeCard c r).1.free = s.free ∧ (s.mergeCard c r).1.pending = s.pending := by
  refine ⟨?_, ?_, ?_, ?_, ?_, ?_, ?_, ?_, ?_, ?_, ?_, ?_⟩ <;> (unfold State.mergeCard; (repeat' split) <;> simp)

@[simp] theorem State.reachTable_frame (s : State) (n : Lane) (c : Card) :
    (s.reachTable n c).1.reader = s.reader ∧ (s.reachTable n c).1.adm = s.adm ∧
    (s.reachTable n c).1.lanes = s.lanes ∧ (s.reachTable n c).1.debounce = s.debounce ∧
    (s.reachTable n c).1.load = s.load ∧ (s.reachTable n c).1.refund = s.refund ∧
    (s.reachTable n c).1.time = s.time ∧ (s.reachTable n c).1.ports = s.ports ∧
    (s.reachTable n c).1.supply = s.supply ∧ (s.reachTable n c).1.free = s.free ∧
    (s.reachTable n c).1.pending = s.pending := by
  refine ⟨?_, ?_, ?_, ?_, ?_, ?_, ?_, ?_, ?_, ?_, ?_⟩ <;> (unfold State.reachTable; (try dsimp only); (repeat' split) <;> simp)

@[simp] theorem State.fillQuiet_frame (s : State) (n : Lane) (p : PassNo) :
    (s.fillQuiet n p).table = s.table ∧ (s.fillQuiet n p).reader = s.reader ∧ (s.fillQuiet n p).lanes = s.lanes ∧
    (s.fillQuiet n p).debounce = s.debounce ∧ (s.fillQuiet n p).load = s.load ∧ (s.fillQuiet n p).counts = s.counts ∧
    (s.fillQuiet n p).refund = s.refund ∧ (s.fillQuiet n p).time = s.time ∧ (s.fillQuiet n p).ports = s.ports ∧
    (s.fillQuiet n p).supply = s.supply ∧ (s.fillQuiet n p).free = s.free ∧ (s.fillQuiet n p).pending = s.pending := by
  refine ⟨?_, ?_, ?_, ?_, ?_, ?_, ?_, ?_, ?_, ?_, ?_, ?_⟩ <;> (unfold State.fillQuiet; (repeat' split) <;> simp)

@[simp] theorem State.refuse_frame (s : State) (n : Lane) (c : Card) (v : Verdict) (r : RefuseReason) :
    (s.refuse n c v r).table = s.table ∧ (s.refuse n c v r).reader = s.reader ∧
    (s.refuse n c v r).debounce = s.debounce ∧ (s.refuse n c v r).load = s.load ∧
    (s.refuse n c v r).refund = s.refund ∧ (s.refuse n c v r).time = s.time ∧ (s.refuse n c v r).supply = s.supply ∧
    (s.refuse n c v r).free = s.free ∧ (s.refuse n c v r).pending = s.pending := by
  refine ⟨?_, ?_, ?_, ?_, ?_, ?_, ?_, ?_, ?_⟩ <;> (unfold State.refuse; (repeat' split) <;> simp)

@[simp] theorem State.writeBack_frame (s : State) (n : Lane) (c : Card) (b : Basis) :
    (s.writeBack n c b).table = s.table ∧ (s.writeBack n c b).adm = s.adm ∧ (s.writeBack n c b).lanes = s.lanes ∧
    (s.writeBack n c b).debounce = s.debounce ∧ (s.writeBack n c b).load = s.load ∧
    (s.writeBack n c b).counts = s.counts ∧ (s.writeBack n c b).refund = s.refund ∧
    (s.writeBack n c b).time = s.time ∧ (s.writeBack n c b).ports = s.ports ∧ (s.writeBack n c b).supply = s.supply ∧
    (s.writeBack n c b).free = s.free ∧ (s.writeBack n c b).pending = s.pending := by
  refine ⟨?_, ?_, ?_, ?_, ?_, ?_, ?_, ?_, ?_, ?_, ?_, ?_⟩ <;> (unfold State.writeBack; (repeat' split) <;> simp)

@[simp] theorem State.admitCard_frame (s : State) (n : Lane) (c : Card) (b : Basis) (rule : LaneRule) :
    (s.admitCard n c b rule).debounce = s.debounce ∧ (s.admitCard n c b rule).refund = s.refund ∧
    (s.admitCard n c b rule).time = s.time ∧ (s.admitCard n c b rule).supply = s.supply ∧
    (s.admitCard n c b rule).free = s.free ∧ (s.admitCard n c b rule).pending = s.pending := by
  refine ⟨?_, ?_, ?_, ?_, ?_, ?_⟩ <;> (unfold State.admitCard; (repeat' split) <;> simp)

@[simp] theorem State.judge_frame (s : State) (n : Lane) (c : Card) (b : Basis) :
    (s.judge n c b).debounce = s.debounce ∧ (s.judge n c b).refund = s.refund ∧ (s.judge n c b).time = s.time ∧
    (s.judge n c b).supply = s.supply ∧ (s.judge n c b).free = s.free ∧ (s.judge n c b).pending = s.pending := by
  refine ⟨?_, ?_, ?_, ?_, ?_, ?_⟩ <;> (unfold State.judge; (try dsimp only); (repeat' split) <;> simp)

@[simp] theorem State.refuseCard_frame (s : State) (n : Lane) (c : Card) (r : RefuseReason) (product : Bool) (remaining : Nat) (unlearned : Bool) :
    (s.refuseCard n c r product remaining unlearned).table = s.table ∧
    (s.refuseCard n c r product remaining unlearned).reader = s.reader ∧
    (s.refuseCard n c r product remaining unlearned).debounce = s.debounce ∧
    (s.refuseCard n c r product remaining unlearned).load = s.load ∧
    (s.refuseCard n c r product remaining unlearned).refund = s.refund ∧
    (s.refuseCard n c r product remaining unlearned).time = s.time ∧
    (s.refuseCard n c r product remaining unlearned).supply = s.supply ∧
    (s.refuseCard n c r product remaining unlearned).free = s.free ∧
    (s.refuseCard n c r product remaining unlearned).pending = s.pending := by
  refine ⟨?_, ?_, ?_, ?_, ?_, ?_, ?_, ?_, ?_⟩ <;> (unfold State.refuseCard; (repeat' split) <;> simp)

@[simp] theorem State.admission_frame (s : State) (n : Lane) (c : Card) :
    (s.admission n c).debounce = s.debounce ∧ (s.admission n c).refund = s.refund ∧ (s.admission n c).time = s.time ∧
    (s.admission n c).supply = s.supply ∧ (s.admission n c).free = s.free ∧ (s.admission n c).pending = s.pending := by
  refine ⟨?_, ?_, ?_, ?_, ?_, ?_⟩ <;> (unfold State.admission; (try dsimp only); (repeat' split) <;> simp)

@[simp] theorem State.scanAnswer_frame (s : State) (n : Lane) (c : Card) :
    (s.scanAnswer n c).debounce = s.debounce ∧ (s.scanAnswer n c).refund = s.refund ∧
    (s.scanAnswer n c).time = s.time ∧ (s.scanAnswer n c).supply = s.supply ∧ (s.scanAnswer n c).free = s.free ∧
    (s.scanAnswer n c).pending = s.pending := by
  refine ⟨?_, ?_, ?_, ?_, ?_, ?_⟩ <;> (unfold State.scanAnswer; (repeat' split) <;> simp)

@[simp] theorem State.quoteRecord_frame (s : State) (rd : Reading) (c : Card) (b : Basis) (r : PassRecord) (t : Tariff) :
    (s.quoteRecord rd c b r t).adm = s.adm ∧ (s.quoteRecord rd c b r t).lanes = s.lanes ∧
    (s.quoteRecord rd c b r t).debounce = s.debounce ∧ (s.quoteRecord rd c b r t).load = s.load ∧
    (s.quoteRecord rd c b r t).counts = s.counts ∧ (s.quoteRecord rd c b r t).time = s.time ∧
    (s.quoteRecord rd c b r t).supply = s.supply ∧ (s.quoteRecord rd c b r t).free = s.free ∧
    (s.quoteRecord rd c b r t).pending = s.pending := by
  refine ⟨?_, ?_, ?_, ?_, ?_, ?_, ?_, ?_, ?_⟩ <;> (unfold State.quoteRecord; (repeat' split) <;> simp)

@[simp] theorem State.quoteAbsent_frame (s : State) (rd : Reading) (c : Card) (t : Tariff) :
    (s.quoteAbsent rd c t).adm = s.adm ∧ (s.quoteAbsent rd c t).lanes = s.lanes ∧
    (s.quoteAbsent rd c t).debounce = s.debounce ∧ (s.quoteAbsent rd c t).load = s.load ∧
    (s.quoteAbsent rd c t).time = s.time ∧ (s.quoteAbsent rd c t).supply = s.supply ∧
    (s.quoteAbsent rd c t).free = s.free ∧ (s.quoteAbsent rd c t).pending = s.pending := by
  refine ⟨?_, ?_, ?_, ?_, ?_, ?_, ?_, ?_⟩ <;> (unfold State.quoteAbsent; (try dsimp only); (repeat' split) <;> simp)

@[simp] theorem State.quoteCard_frame (s : State) (c : Card) :
    (s.quoteCard c).adm = s.adm ∧ (s.quoteCard c).lanes = s.lanes ∧ (s.quoteCard c).debounce = s.debounce ∧
    (s.quoteCard c).load = s.load ∧ (s.quoteCard c).time = s.time ∧ (s.quoteCard c).supply = s.supply ∧
    (s.quoteCard c).free = s.free ∧ (s.quoteCard c).pending = s.pending := by
  refine ⟨?_, ?_, ?_, ?_, ?_, ?_, ?_, ?_⟩ <;> (unfold State.quoteCard; (try dsimp only); (repeat' split) <;> simp)

@[simp] theorem State.expireGrant_frame (s : State) (n : Lane) :
    (s.expireGrant n).debounce = s.debounce ∧ (s.expireGrant n).refund = s.refund ∧ (s.expireGrant n).time = s.time ∧
    (s.expireGrant n).supply = s.supply ∧ (s.expireGrant n).free = s.free ∧ (s.expireGrant n).pending = s.pending := by
  refine ⟨?_, ?_, ?_, ?_, ?_, ?_⟩ <;> (unfold State.expireGrant; (repeat' split) <;> simp)

@[simp] theorem State.completeGrant_frame (s : State) (n : Lane) :
    (s.completeGrant n).reader = s.reader ∧ (s.completeGrant n).debounce = s.debounce ∧
    (s.completeGrant n).refund = s.refund ∧ (s.completeGrant n).time = s.time ∧
    (s.completeGrant n).supply = s.supply ∧ (s.completeGrant n).free = s.free ∧
    (s.completeGrant n).pending = s.pending := by
  refine ⟨?_, ?_, ?_, ?_, ?_, ?_, ?_⟩ <;> (unfold State.completeGrant; (try dsimp only); (repeat' split) <;> simp)

@[simp] theorem State.freePassage_frame (s : State) (n : Lane) :
    (s.freePassage n).table = s.table ∧ (s.freePassage n).reader = s.reader ∧ (s.freePassage n).adm = s.adm ∧
    (s.freePassage n).debounce = s.debounce ∧ (s.freePassage n).refund = s.refund ∧ (s.freePassage n).time = s.time ∧
    (s.freePassage n).supply = s.supply ∧ (s.freePassage n).free = s.free ∧ (s.freePassage n).pending = s.pending := by
  refine ⟨?_, ?_, ?_, ?_, ?_, ?_, ?_, ?_, ?_⟩ <;> (unfold State.freePassage; (repeat' split) <;> simp)

@[simp] theorem State.intrusion_frame (s : State) (n : Lane) :
    (s.intrusion n).table = s.table ∧ (s.intrusion n).reader = s.reader ∧ (s.intrusion n).adm = s.adm ∧
    (s.intrusion n).debounce = s.debounce ∧ (s.intrusion n).refund = s.refund ∧ (s.intrusion n).time = s.time ∧
    (s.intrusion n).supply = s.supply ∧ (s.intrusion n).free = s.free ∧ (s.intrusion n).pending = s.pending := by
  refine ⟨?_, ?_, ?_, ?_, ?_, ?_, ?_, ?_, ?_⟩ <;> (unfold State.intrusion; (repeat' split) <;> simp)

@[simp] theorem State.reversePassage_frame (s : State) (n : Lane) :
    (s.reversePassage n).debounce = s.debounce ∧ (s.reversePassage n).refund = s.refund ∧
    (s.reversePassage n).time = s.time ∧ (s.reversePassage n).supply = s.supply ∧
    (s.reversePassage n).free = s.free ∧ (s.reversePassage n).pending = s.pending := by
  refine ⟨?_, ?_, ?_, ?_, ?_, ?_⟩ <;> (unfold State.reversePassage; (repeat' split) <;> simp)

@[simp] theorem State.entryBegun_frame (s : State) (n : Lane) :
    (s.entryBegun n).table = s.table ∧ (s.entryBegun n).reader = s.reader ∧ (s.entryBegun n).adm = s.adm ∧
    (s.entryBegun n).debounce = s.debounce ∧ (s.entryBegun n).load = s.load ∧ (s.entryBegun n).counts = s.counts ∧
    (s.entryBegun n).refund = s.refund ∧ (s.entryBegun n).time = s.time ∧ (s.entryBegun n).ports = s.ports ∧
    (s.entryBegun n).supply = s.supply ∧ (s.entryBegun n).free = s.free ∧ (s.entryBegun n).pending = s.pending := by
  refine ⟨?_, ?_, ?_, ?_, ?_, ?_, ?_, ?_, ?_, ?_, ?_, ?_⟩ <;> (unfold State.entryBegun; (repeat' split) <;> simp)

@[simp] theorem State.forwardPassage_frame (s : State) (n : Lane) :
    (s.forwardPassage n).reader = s.reader ∧ (s.forwardPassage n).debounce = s.debounce ∧
    (s.forwardPassage n).refund = s.refund ∧ (s.forwardPassage n).time = s.time ∧
    (s.forwardPassage n).supply = s.supply ∧ (s.forwardPassage n).free = s.free ∧
    (s.forwardPassage n).pending = s.pending := by
  refine ⟨?_, ?_, ?_, ?_, ?_, ?_, ?_⟩ <;> (unfold State.forwardPassage; (repeat' split) <;> simp)

@[simp] theorem State.backOut_frame (s : State) (n : Lane) :
    (s.backOut n).debounce = s.debounce ∧ (s.backOut n).refund = s.refund ∧ (s.backOut n).time = s.time ∧
    (s.backOut n).supply = s.supply ∧ (s.backOut n).free = s.free ∧ (s.backOut n).pending = s.pending := by
  refine ⟨?_, ?_, ?_, ?_, ?_, ?_⟩ <;> (unfold State.backOut; (repeat' split) <;> simp)

@[simp] theorem State.handOver_frame (s : State) (n : Lane) (h : HandOver) :
    (s.handOver n h).debounce = s.debounce ∧ (s.handOver n h).refund = s.refund ∧ (s.handOver n h).time = s.time ∧
    (s.handOver n h).supply = s.supply ∧ (s.handOver n h).free = s.free ∧ (s.handOver n h).pending = s.pending := by
  refine ⟨?_, ?_, ?_, ?_, ?_, ?_⟩ <;> (unfold State.handOver; (repeat' split) <;> simp)

@[simp] theorem State.beamChanged_frame (s : State) (n : Lane) (b : Beam) :
    (s.beamChanged n b).debounce = s.debounce ∧ (s.beamChanged n b).refund = s.refund ∧
    (s.beamChanged n b).time = s.time ∧ (s.beamChanged n b).supply = s.supply ∧ (s.beamChanged n b).free = s.free ∧
    (s.beamChanged n b).pending = s.pending := by
  refine ⟨?_, ?_, ?_, ?_, ?_, ?_⟩ <;> (unfold State.beamChanged; (repeat' split) <;> simp)

@[simp] theorem State.beamIfDue_frame (s : State) (n : Lane) (b : Beam) :
    (s.beamIfDue n b).debounce = s.debounce ∧ (s.beamIfDue n b).refund = s.refund ∧ (s.beamIfDue n b).time = s.time ∧
    (s.beamIfDue n b).supply = s.supply ∧ (s.beamIfDue n b).free = s.free ∧ (s.beamIfDue n b).pending = s.pending := by
  refine ⟨?_, ?_, ?_, ?_, ?_, ?_⟩ <;> (unfold State.beamIfDue; (repeat' split) <;> simp)

@[simp] theorem State.boardPulse_frame (s : State) :
    (s.boardPulse).debounce = s.debounce ∧ (s.boardPulse).refund = s.refund ∧ (s.boardPulse).time = s.time ∧
    (s.boardPulse).supply = s.supply ∧ (s.boardPulse).free = s.free ∧ (s.boardPulse).pending = s.pending := by
  refine ⟨?_, ?_, ?_, ?_, ?_, ?_⟩ <;> (unfold State.boardPulse; (repeat' split) <;> simp)

@[simp] theorem State.boardChanged_frame (s : State) :
    (s.boardChanged).debounce = s.debounce ∧ (s.boardChanged).refund = s.refund ∧ (s.boardChanged).time = s.time ∧
    (s.boardChanged).supply = s.supply ∧ (s.boardChanged).free = s.free ∧ (s.boardChanged).pending = s.pending := by
  refine ⟨?_, ?_, ?_, ?_, ?_, ?_⟩ <;> (unfold State.boardChanged; (try dsimp only); (repeat' split) <;> simp)

@[simp] theorem State.boardIfDue_frame (s : State) :
    (s.boardIfDue).debounce = s.debounce ∧ (s.boardIfDue).refund = s.refund ∧ (s.boardIfDue).time = s.time ∧
    (s.boardIfDue).supply = s.supply ∧ (s.boardIfDue).free = s.free ∧ (s.boardIfDue).pending = s.pending := by
  refine ⟨?_, ?_, ?_, ?_, ?_, ?_⟩ <;> (unfold State.boardIfDue; (repeat' split) <;> simp)

@[simp] theorem State.settleInputs_frame (s : State) :
    (s.settleInputs).debounce = s.debounce ∧ (s.settleInputs).refund = s.refund ∧ (s.settleInputs).time = s.time ∧
    (s.settleInputs).supply = s.supply ∧ (s.settleInputs).free = s.free ∧ (s.settleInputs).pending = s.pending := by
  refine ⟨?_, ?_, ?_, ?_, ?_, ?_⟩ <;> (unfold State.settleInputs; simp [Lane.all])

@[simp] theorem State.handBlocked_frame (s : State) (p : PassNo) (st : Standing) :
    (s.handBlocked p st).table = s.table ∧ (s.handBlocked p st).reader = s.reader ∧
    (s.handBlocked p st).adm = s.adm ∧ (s.handBlocked p st).lanes = s.lanes ∧
    (s.handBlocked p st).debounce = s.debounce ∧ (s.handBlocked p st).counts = s.counts ∧
    (s.handBlocked p st).refund = s.refund ∧ (s.handBlocked p st).time = s.time ∧
    (s.handBlocked p st).ports = s.ports ∧ (s.handBlocked p st).supply = s.supply ∧
    (s.handBlocked p st).free = s.free ∧ (s.handBlocked p st).pending = s.pending := by
  refine ⟨?_, ?_, ?_, ?_, ?_, ?_, ?_, ?_, ?_, ?_, ?_, ?_⟩ <;> (unfold State.handBlocked; (repeat' split) <;> simp)

@[simp] theorem editPass_frame (p : PassNo) (st : Standing) (create : Bool) (s : State) :
    (editPass p st create s).state.reader = s.reader ∧ (editPass p st create s).state.adm = s.adm ∧
    (editPass p st create s).state.lanes = s.lanes ∧ (editPass p st create s).state.debounce = s.debounce ∧
    (editPass p st create s).state.counts = s.counts ∧ (editPass p st create s).state.refund = s.refund ∧
    (editPass p st create s).state.time = s.time ∧ (editPass p st create s).state.ports = s.ports ∧
    (editPass p st create s).state.supply = s.supply ∧ (editPass p st create s).state.free = s.free ∧
    (editPass p st create s).state.pending = s.pending := by
  refine ⟨?_, ?_, ?_, ?_, ?_, ?_, ?_, ?_, ?_, ?_, ?_⟩ <;> (unfold editPass; (repeat' split) <;> simp)

@[simp] theorem passPutBlock_frame (p : PassNo) (state : Byte) (s : State) :
    (passPutBlock p state s).state.reader = s.reader ∧ (passPutBlock p state s).state.adm = s.adm ∧
    (passPutBlock p state s).state.lanes = s.lanes ∧ (passPutBlock p state s).state.debounce = s.debounce ∧
    (passPutBlock p state s).state.counts = s.counts ∧ (passPutBlock p state s).state.refund = s.refund ∧
    (passPutBlock p state s).state.time = s.time ∧ (passPutBlock p state s).state.ports = s.ports ∧
    (passPutBlock p state s).state.supply = s.supply ∧ (passPutBlock p state s).state.free = s.free ∧
    (passPutBlock p state s).state.pending = s.pending := by
  refine ⟨?_, ?_, ?_, ?_, ?_, ?_, ?_, ?_, ?_, ?_, ?_⟩ <;> (unfold passPutBlock; (repeat' split) <;> simp)

@[simp] theorem orderPassPut_frame (port : Port) (pass : PassNo) (state : Byte) (s : State) :
    (orderPassPut port pass state s).reader = s.reader ∧ (orderPassPut port pass state s).adm = s.adm ∧
    (orderPassPut port pass state s).lanes = s.lanes ∧ (orderPassPut port pass state s).debounce = s.debounce ∧
    (orderPassPut port pass state s).counts = s.counts ∧ (orderPassPut port pass state s).refund = s.refund ∧
    (orderPassPut port pass state s).time = s.time ∧ (orderPassPut port pass state s).supply = s.supply ∧
    (orderPassPut port pass state s).free = s.free ∧ (orderPassPut port pass state s).pending = s.pending := by
  refine ⟨?_, ?_, ?_, ?_, ?_, ?_, ?_, ?_, ?_, ?_⟩ <;> exact takeOrder_keeps _ (fun _ _ _ => rfl) _ _ _ _ _ (fun _ => by simp) _

@[simp] theorem orderPassBlock_frame (port : Port) (pass : PassNo) (s : State) :
    (orderPassBlock port pass s).reader = s.reader ∧ (orderPassBlock port pass s).adm = s.adm ∧
    (orderPassBlock port pass s).lanes = s.lanes ∧ (orderPassBlock port pass s).debounce = s.debounce ∧
    (orderPassBlock port pass s).counts = s.counts ∧ (orderPassBlock port pass s).refund = s.refund ∧
    (orderPassBlock port pass s).time = s.time ∧ (orderPassBlock port pass s).supply = s.supply ∧
    (orderPassBlock port pass s).free = s.free ∧ (orderPassBlock port pass s).pending = s.pending := by
  refine ⟨?_, ?_, ?_, ?_, ?_, ?_, ?_, ?_, ?_, ?_⟩ <;> exact takeOrder_keeps _ (fun _ _ _ => rfl) _ _ _ _ _ (fun _ => by simp) _

@[simp] theorem orderPassUnblock_frame (port : Port) (pass : PassNo) (s : State) :
    (orderPassUnblock port pass s).reader = s.reader ∧ (orderPassUnblock port pass s).adm = s.adm ∧
    (orderPassUnblock port pass s).lanes = s.lanes ∧ (orderPassUnblock port pass s).debounce = s.debounce ∧
    (orderPassUnblock port pass s).counts = s.counts ∧ (orderPassUnblock port pass s).refund = s.refund ∧
    (orderPassUnblock port pass s).time = s.time ∧ (orderPassUnblock port pass s).supply = s.supply ∧
    (orderPassUnblock port pass s).free = s.free ∧ (orderPassUnblock port pass s).pending = s.pending := by
  refine ⟨?_, ?_, ?_, ?_, ?_, ?_, ?_, ?_, ?_, ?_⟩ <;> exact takeOrder_keeps _ (fun _ _ _ => rfl) _ _ _ _ _ (fun _ => by simp) _

@[simp] theorem passEraseBlock_frame (p : PassNo) (s : State) :
    (passEraseBlock p s).state.reader = s.reader ∧ (passEraseBlock p s).state.adm = s.adm ∧
    (passEraseBlock p s).state.lanes = s.lanes ∧ (passEraseBlock p s).state.debounce = s.debounce ∧
    (passEraseBlock p s).state.load = s.load ∧ (passEraseBlock p s).state.counts = s.counts ∧
    (passEraseBlock p s).state.refund = s.refund ∧ (passEraseBlock p s).state.time = s.time ∧
    (passEraseBlock p s).state.ports = s.ports ∧ (passEraseBlock p s).state.supply = s.supply ∧
    (passEraseBlock p s).state.free = s.free ∧ (passEraseBlock p s).state.pending = s.pending := by
  refine ⟨?_, ?_, ?_, ?_, ?_, ?_, ?_, ?_, ?_, ?_, ?_, ?_⟩ <;> (unfold passEraseBlock; (repeat' split) <;> simp)

@[simp] theorem orderPassErase_frame (port : Port) (pass : PassNo) (s : State) :
    (orderPassErase port pass s).reader = s.reader ∧ (orderPassErase port pass s).adm = s.adm ∧
    (orderPassErase port pass s).lanes = s.lanes ∧ (orderPassErase port pass s).debounce = s.debounce ∧
    (orderPassErase port pass s).load = s.load ∧ (orderPassErase port pass s).counts = s.counts ∧
    (orderPassErase port pass s).refund = s.refund ∧ (orderPassErase port pass s).time = s.time ∧
    (orderPassErase port pass s).supply = s.supply ∧ (orderPassErase port pass s).free = s.free ∧
    (orderPassErase port pass s).pending = s.pending := by
  refine ⟨?_, ?_, ?_, ?_, ?_, ?_, ?_, ?_, ?_, ?_, ?_⟩ <;> exact takeOrder_keeps _ (fun _ _ _ => rfl) _ _ _ _ _ (fun _ => by simp) _

@[simp] theorem clearLearnedBlock_frame (s : State) :
    (clearLearnedBlock s).state.reader = s.reader ∧ (clearLearnedBlock s).state.adm = s.adm ∧
    (clearLearnedBlock s).state.lanes = s.lanes ∧ (clearLearnedBlock s).state.debounce = s.debounce ∧
    (clearLearnedBlock s).state.load = s.load ∧ (clearLearnedBlock s).state.counts = s.counts ∧
    (clearLearnedBlock s).state.refund = s.refund ∧ (clearLearnedBlock s).state.time = s.time ∧
    (clearLearnedBlock s).state.ports = s.ports ∧ (clearLearnedBlock s).state.supply = s.supply ∧
    (clearLearnedBlock s).state.free = s.free ∧ (clearLearnedBlock s).state.pending = s.pending := by
  refine ⟨?_, ?_, ?_, ?_, ?_, ?_, ?_, ?_, ?_, ?_, ?_, ?_⟩ <;> (unfold clearLearnedBlock; (repeat' split) <;> simp)

@[simp] theorem orderPassClearLearned_frame (port : Port) (s : State) :
    (orderPassClearLearned port s).reader = s.reader ∧ (orderPassClearLearned port s).adm = s.adm ∧
    (orderPassClearLearned port s).lanes = s.lanes ∧ (orderPassClearLearned port s).debounce = s.debounce ∧
    (orderPassClearLearned port s).load = s.load ∧ (orderPassClearLearned port s).counts = s.counts ∧
    (orderPassClearLearned port s).refund = s.refund ∧ (orderPassClearLearned port s).time = s.time ∧
    (orderPassClearLearned port s).supply = s.supply ∧ (orderPassClearLearned port s).free = s.free ∧
    (orderPassClearLearned port s).pending = s.pending := by
  refine ⟨?_, ?_, ?_, ?_, ?_, ?_, ?_, ?_, ?_, ?_, ?_⟩ <;> exact takeOrder_keeps _ (fun _ _ _ => rfl) _ _ _ _ _ (fun _ => by simp) _

@[simp] theorem passQueryBlock_frame (p : PassNo) (s : State) :
    (passQueryBlock p s).state.table = s.table ∧ (passQueryBlock p s).state.reader = s.reader ∧
    (passQueryBlock p s).state.adm = s.adm ∧ (passQueryBlock p s).state.lanes = s.lanes ∧
    (passQueryBlock p s).state.debounce = s.debounce ∧ (passQueryBlock p s).state.load = s.load ∧
    (passQueryBlock p s).state.counts = s.counts ∧ (passQueryBlock p s).state.refund = s.refund ∧
    (passQueryBlock p s).state.time = s.time ∧ (passQueryBlock p s).state.ports = s.ports ∧
    (passQueryBlock p s).state.supply = s.supply ∧ (passQueryBlock p s).state.free = s.free ∧
    (passQueryBlock p s).state.pending = s.pending := by
  refine ⟨?_, ?_, ?_, ?_, ?_, ?_, ?_, ?_, ?_, ?_, ?_, ?_, ?_⟩ <;> (unfold passQueryBlock; (repeat' split) <;> simp)

@[simp] theorem orderPassQuery_frame (port : Port) (pass : PassNo) (s : State) :
    (orderPassQuery port pass s).table = s.table ∧ (orderPassQuery port pass s).reader = s.reader ∧
    (orderPassQuery port pass s).adm = s.adm ∧ (orderPassQuery port pass s).lanes = s.lanes ∧
    (orderPassQuery port pass s).debounce = s.debounce ∧ (orderPassQuery port pass s).load = s.load ∧
    (orderPassQuery port pass s).counts = s.counts ∧ (orderPassQuery port pass s).refund = s.refund ∧
    (orderPassQuery port pass s).time = s.time ∧ (orderPassQuery port pass s).supply = s.supply ∧
    (orderPassQuery port pass s).free = s.free ∧ (orderPassQuery port pass s).pending = s.pending := by
  refine ⟨?_, ?_, ?_, ?_, ?_, ?_, ?_, ?_, ?_, ?_, ?_, ?_⟩ <;> exact takeOrder_keeps _ (fun _ _ _ => rfl) _ _ _ _ _ (fun _ => by simp) _

@[simp] theorem tableStatusBlock_frame (s : State) :
    (tableStatusBlock s).state.table = s.table ∧ (tableStatusBlock s).state.reader = s.reader ∧
    (tableStatusBlock s).state.adm = s.adm ∧ (tableStatusBlock s).state.lanes = s.lanes ∧
    (tableStatusBlock s).state.debounce = s.debounce ∧ (tableStatusBlock s).state.load = s.load ∧
    (tableStatusBlock s).state.counts = s.counts ∧ (tableStatusBlock s).state.refund = s.refund ∧
    (tableStatusBlock s).state.time = s.time ∧ (tableStatusBlock s).state.ports = s.ports ∧
    (tableStatusBlock s).state.supply = s.supply ∧ (tableStatusBlock s).state.free = s.free ∧
    (tableStatusBlock s).state.pending = s.pending := by
  refine ⟨?_, ?_, ?_, ?_, ?_, ?_, ?_, ?_, ?_, ?_, ?_, ?_, ?_⟩ <;> (unfold tableStatusBlock; (repeat' split) <;> simp)

@[simp] theorem orderTableStatus_frame (port : Port) (s : State) :
    (orderTableStatus port s).table = s.table ∧ (orderTableStatus port s).reader = s.reader ∧
    (orderTableStatus port s).adm = s.adm ∧ (orderTableStatus port s).lanes = s.lanes ∧
    (orderTableStatus port s).debounce = s.debounce ∧ (orderTableStatus port s).load = s.load ∧
    (orderTableStatus port s).counts = s.counts ∧ (orderTableStatus port s).refund = s.refund ∧
    (orderTableStatus port s).time = s.time ∧ (orderTableStatus port s).supply = s.supply ∧
    (orderTableStatus port s).free = s.free ∧ (orderTableStatus port s).pending = s.pending := by
  refine ⟨?_, ?_, ?_, ?_, ?_, ?_, ?_, ?_, ?_, ?_, ?_, ?_⟩ <;> exact takeOrder_keeps _ (fun _ _ _ => rfl) _ _ _ _ _ (fun _ => by simp) _

@[simp] theorem readerSetBlock_frame (r : Option ReaderSettings) (s : State) :
    (readerSetBlock r s).state.table = s.table ∧ (readerSetBlock r s).state.adm = s.adm ∧
    (readerSetBlock r s).state.lanes = s.lanes ∧ (readerSetBlock r s).state.debounce = s.debounce ∧
    (readerSetBlock r s).state.load = s.load ∧ (readerSetBlock r s).state.counts = s.counts ∧
    (readerSetBlock r s).state.refund = s.refund ∧ (readerSetBlock r s).state.time = s.time ∧
    (readerSetBlock r s).state.ports = s.ports ∧ (readerSetBlock r s).state.supply = s.supply ∧
    (readerSetBlock r s).state.free = s.free ∧ (readerSetBlock r s).state.pending = s.pending := by
  refine ⟨?_, ?_, ?_, ?_, ?_, ?_, ?_, ?_, ?_, ?_, ?_, ?_⟩ <;> (unfold readerSetBlock; (repeat' split) <;> simp)

@[simp] theorem orderReaderSet_frame (port : Port) (attempts threshold coarse fine window : Byte) (target : BitVec 16) (s : State) :
    (orderReaderSet port attempts threshold coarse fine window target s).table = s.table ∧
    (orderReaderSet port attempts threshold coarse fine window target s).adm = s.adm ∧
    (orderReaderSet port attempts threshold coarse fine window target s).lanes = s.lanes ∧
    (orderReaderSet port attempts threshold coarse fine window target s).debounce = s.debounce ∧
    (orderReaderSet port attempts threshold coarse fine window target s).load = s.load ∧
    (orderReaderSet port attempts threshold coarse fine window target s).counts = s.counts ∧
    (orderReaderSet port attempts threshold coarse fine window target s).refund = s.refund ∧
    (orderReaderSet port attempts threshold coarse fine window target s).time = s.time ∧
    (orderReaderSet port attempts threshold coarse fine window target s).supply = s.supply ∧
    (orderReaderSet port attempts threshold coarse fine window target s).free = s.free ∧
    (orderReaderSet port attempts threshold coarse fine window target s).pending = s.pending := by
  refine ⟨?_, ?_, ?_, ?_, ?_, ?_, ?_, ?_, ?_, ?_, ?_⟩ <;> exact takeOrder_keeps _ (fun _ _ _ => rfl) _ _ _ _ _ (fun _ => by simp) _

@[simp] theorem State.installMap_frame (s : State) (new : PerPos (Option Antenna)) :
    (s.installMap new).adm = s.adm ∧ (s.installMap new).lanes = s.lanes ∧ (s.installMap new).debounce = s.debounce ∧
    (s.installMap new).load = s.load ∧ (s.installMap new).time = s.time ∧ (s.installMap new).supply = s.supply ∧
    (s.installMap new).free = s.free ∧ (s.installMap new).pending = s.pending := by
  refine ⟨?_, ?_, ?_, ?_, ?_, ?_, ?_, ?_⟩ <;> (unfold State.installMap; (repeat' split) <;> simp)

@[simp] theorem antennaMapBlock_frame (m : Option (PerPos (Option Antenna))) (s : State) :
    (antennaMapBlock m s).state.adm = s.adm ∧ (antennaMapBlock m s).state.lanes = s.lanes ∧
    (antennaMapBlock m s).state.debounce = s.debounce ∧ (antennaMapBlock m s).state.load = s.load ∧
    (antennaMapBlock m s).state.time = s.time ∧ (antennaMapBlock m s).state.supply = s.supply ∧
    (antennaMapBlock m s).state.free = s.free ∧ (antennaMapBlock m s).state.pending = s.pending := by
  refine ⟨?_, ?_, ?_, ?_, ?_, ?_, ?_, ?_⟩ <;> (unfold antennaMapBlock; (try dsimp only); (repeat' split) <;> simp)

@[simp] theorem orderAntennaMap_frame (port : Port) (p0 p1 p2 p3 ps : Byte) (s : State) :
    (orderAntennaMap port p0 p1 p2 p3 ps s).adm = s.adm ∧ (orderAntennaMap port p0 p1 p2 p3 ps s).lanes = s.lanes ∧
    (orderAntennaMap port p0 p1 p2 p3 ps s).debounce = s.debounce ∧
    (orderAntennaMap port p0 p1 p2 p3 ps s).load = s.load ∧ (orderAntennaMap port p0 p1 p2 p3 ps s).time = s.time ∧
    (orderAntennaMap port p0 p1 p2 p3 ps s).supply = s.supply ∧
    (orderAntennaMap port p0 p1 p2 p3 ps s).free = s.free ∧
    (orderAntennaMap port p0 p1 p2 p3 ps s).pending = s.pending := by
  refine ⟨?_, ?_, ?_, ?_, ?_, ?_, ?_, ?_⟩ <;> exact takeOrder_keeps _ (fun _ _ _ => rfl) _ _ _ _ _ (fun _ => by simp) _

@[simp] theorem antennaTuneBlock_frame (a : Option Antenna) (s : State) :
    (antennaTuneBlock a s).state.table = s.table ∧ (antennaTuneBlock a s).state.adm = s.adm ∧
    (antennaTuneBlock a s).state.lanes = s.lanes ∧ (antennaTuneBlock a s).state.debounce = s.debounce ∧
    (antennaTuneBlock a s).state.load = s.load ∧ (antennaTuneBlock a s).state.counts = s.counts ∧
    (antennaTuneBlock a s).state.refund = s.refund ∧ (antennaTuneBlock a s).state.time = s.time ∧
    (antennaTuneBlock a s).state.ports = s.ports ∧ (antennaTuneBlock a s).state.supply = s.supply ∧
    (antennaTuneBlock a s).state.free = s.free ∧ (antennaTuneBlock a s).state.pending = s.pending := by
  refine ⟨?_, ?_, ?_, ?_, ?_, ?_, ?_, ?_, ?_, ?_, ?_, ?_⟩ <;> (unfold antennaTuneBlock; (repeat' split) <;> simp)

@[simp] theorem orderAntennaTune_frame (port : Port) (antenna : Byte) (s : State) :
    (orderAntennaTune port antenna s).table = s.table ∧ (orderAntennaTune port antenna s).adm = s.adm ∧
    (orderAntennaTune port antenna s).lanes = s.lanes ∧ (orderAntennaTune port antenna s).debounce = s.debounce ∧
    (orderAntennaTune port antenna s).load = s.load ∧ (orderAntennaTune port antenna s).counts = s.counts ∧
    (orderAntennaTune port antenna s).refund = s.refund ∧ (orderAntennaTune port antenna s).time = s.time ∧
    (orderAntennaTune port antenna s).supply = s.supply ∧ (orderAntennaTune port antenna s).free = s.free ∧
    (orderAntennaTune port antenna s).pending = s.pending := by
  refine ⟨?_, ?_, ?_, ?_, ?_, ?_, ?_, ?_, ?_, ?_, ?_⟩ <;> exact takeOrder_keeps _ (fun _ _ _ => rfl) _ _ _ _ _ (fun _ => by simp) _

@[simp] theorem positionStatusBlock_frame (s : State) :
    (positionStatusBlock s).state.table = s.table ∧ (positionStatusBlock s).state.reader = s.reader ∧
    (positionStatusBlock s).state.adm = s.adm ∧ (positionStatusBlock s).state.lanes = s.lanes ∧
    (positionStatusBlock s).state.debounce = s.debounce ∧ (positionStatusBlock s).state.load = s.load ∧
    (positionStatusBlock s).state.counts = s.counts ∧ (positionStatusBlock s).state.refund = s.refund ∧
    (positionStatusBlock s).state.time = s.time ∧ (positionStatusBlock s).state.ports = s.ports ∧
    (positionStatusBlock s).state.supply = s.supply ∧ (positionStatusBlock s).state.free = s.free ∧
    (positionStatusBlock s).state.pending = s.pending := by
  refine ⟨?_, ?_, ?_, ?_, ?_, ?_, ?_, ?_, ?_, ?_, ?_, ?_, ?_⟩ <;> (unfold positionStatusBlock; (repeat' split) <;> simp)

@[simp] theorem orderPositionStatus_frame (port : Port) (s : State) :
    (orderPositionStatus port s).table = s.table ∧ (orderPositionStatus port s).reader = s.reader ∧
    (orderPositionStatus port s).adm = s.adm ∧ (orderPositionStatus port s).lanes = s.lanes ∧
    (orderPositionStatus port s).debounce = s.debounce ∧ (orderPositionStatus port s).load = s.load ∧
    (orderPositionStatus port s).counts = s.counts ∧ (orderPositionStatus port s).refund = s.refund ∧
    (orderPositionStatus port s).time = s.time ∧ (orderPositionStatus port s).supply = s.supply ∧
    (orderPositionStatus port s).free = s.free ∧ (orderPositionStatus port s).pending = s.pending := by
  refine ⟨?_, ?_, ?_, ?_, ?_, ?_, ?_, ?_, ?_, ?_, ?_, ?_⟩ <;> exact takeOrder_keeps _ (fun _ _ _ => rfl) _ _ _ _ _ (fun _ => by simp) _

@[simp] theorem State.serviceReadMissed_frame (s : State) :
    (s.serviceReadMissed).table = s.table ∧ (s.serviceReadMissed).adm = s.adm ∧
    (s.serviceReadMissed).lanes = s.lanes ∧ (s.serviceReadMissed).debounce = s.debounce ∧
    (s.serviceReadMissed).load = s.load ∧ (s.serviceReadMissed).counts = s.counts ∧
    (s.serviceReadMissed).time = s.time ∧ (s.serviceReadMissed).supply = s.supply ∧
    (s.serviceReadMissed).free = s.free ∧ (s.serviceReadMissed).pending = s.pending := by
  refine ⟨?_, ?_, ?_, ?_, ?_, ?_, ?_, ?_, ?_, ?_⟩ <;> (unfold State.serviceReadMissed; (repeat' split) <;> simp)

@[simp] theorem State.serviceReadAnswered_frame (s : State) (c : Card) :
    (s.serviceReadAnswered c).adm = s.adm ∧ (s.serviceReadAnswered c).lanes = s.lanes ∧
    (s.serviceReadAnswered c).debounce = s.debounce ∧ (s.serviceReadAnswered c).load = s.load ∧
    (s.serviceReadAnswered c).time = s.time ∧ (s.serviceReadAnswered c).supply = s.supply ∧
    (s.serviceReadAnswered c).free = s.free ∧ (s.serviceReadAnswered c).pending = s.pending := by
  refine ⟨?_, ?_, ?_, ?_, ?_, ?_, ?_, ?_⟩ <;> (unfold State.serviceReadAnswered; (repeat' split) <;> simp)

@[simp] theorem State.deliverRead_frame (s : State) (v : CardVisit) (o : VisitOutcome) (frame : List Byte) :
    (s.deliverRead v o frame).debounce = s.debounce ∧ (s.deliverRead v o frame).time = s.time ∧
    (s.deliverRead v o frame).supply = s.supply ∧ (s.deliverRead v o frame).free = s.free ∧
    (s.deliverRead v o frame).pending = s.pending := by
  refine ⟨?_, ?_, ?_, ?_, ?_⟩ <;> (unfold State.deliverRead; (repeat' split) <;> simp)

@[simp] theorem State.readCompleted_frame (s : State) (v : CardVisit) (r : Reception) :
    (s.readCompleted v r).debounce = s.debounce ∧ (s.readCompleted v r).time = s.time ∧
    (s.readCompleted v r).supply = s.supply ∧ (s.readCompleted v r).free = s.free ∧
    (s.readCompleted v r).pending = s.pending := by
  refine ⟨?_, ?_, ?_, ?_, ?_⟩ <;> (unfold State.readCompleted; (repeat' split) <;> simp)

@[simp] theorem State.readVisit_frame (s : State) (r : Reception) :
    (s.readVisit r).debounce = s.debounce ∧ (s.readVisit r).time = s.time ∧ (s.readVisit r).supply = s.supply ∧
    (s.readVisit r).free = s.free ∧ (s.readVisit r).pending = s.pending := by
  refine ⟨?_, ?_, ?_, ?_, ?_⟩ <;> (unfold State.readVisit; (repeat' split) <;> simp)

@[simp] theorem State.settleLaneStamp_frame (s : State) (n : Lane) (o : VisitOutcome) (frame : List Byte) :
    (s.settleLaneStamp n o frame).adm = s.adm ∧ (s.settleLaneStamp n o frame).lanes = s.lanes ∧
    (s.settleLaneStamp n o frame).debounce = s.debounce ∧ (s.settleLaneStamp n o frame).load = s.load ∧
    (s.settleLaneStamp n o frame).counts = s.counts ∧ (s.settleLaneStamp n o frame).refund = s.refund ∧
    (s.settleLaneStamp n o frame).time = s.time ∧ (s.settleLaneStamp n o frame).ports = s.ports ∧
    (s.settleLaneStamp n o frame).supply = s.supply ∧ (s.settleLaneStamp n o frame).free = s.free ∧
    (s.settleLaneStamp n o frame).pending = s.pending := by
  refine ⟨?_, ?_, ?_, ?_, ?_, ?_, ?_, ?_, ?_, ?_, ?_⟩ <;> (unfold State.settleLaneStamp; (repeat' split) <;> simp)

@[simp] theorem State.settleServiceStamp_frame (s : State) (o : VisitOutcome) (frame : List Byte) :
    (s.settleServiceStamp o frame).adm = s.adm ∧ (s.settleServiceStamp o frame).lanes = s.lanes ∧
    (s.settleServiceStamp o frame).debounce = s.debounce ∧ (s.settleServiceStamp o frame).load = s.load ∧
    (s.settleServiceStamp o frame).time = s.time ∧ (s.settleServiceStamp o frame).supply = s.supply ∧
    (s.settleServiceStamp o frame).free = s.free ∧ (s.settleServiceStamp o frame).pending = s.pending := by
  refine ⟨?_, ?_, ?_, ?_, ?_, ?_, ?_, ?_⟩ <;> (unfold State.settleServiceStamp; (repeat' split) <;> simp)

@[simp] theorem State.stampCompleted_frame (s : State) (v : CardVisit) (r : Reception) :
    (s.stampCompleted v r).adm = s.adm ∧ (s.stampCompleted v r).lanes = s.lanes ∧
    (s.stampCompleted v r).debounce = s.debounce ∧ (s.stampCompleted v r).load = s.load ∧
    (s.stampCompleted v r).time = s.time ∧ (s.stampCompleted v r).supply = s.supply ∧
    (s.stampCompleted v r).free = s.free ∧ (s.stampCompleted v r).pending = s.pending := by
  refine ⟨?_, ?_, ?_, ?_, ?_, ?_, ?_, ?_⟩ <;> (unfold State.stampCompleted; (repeat' split) <;> simp)

@[simp] theorem State.stampAttempt_frame (s : State) (r : Reception) :
    (s.stampAttempt r).adm = s.adm ∧ (s.stampAttempt r).lanes = s.lanes ∧ (s.stampAttempt r).debounce = s.debounce ∧
    (s.stampAttempt r).load = s.load ∧ (s.stampAttempt r).time = s.time ∧ (s.stampAttempt r).supply = s.supply ∧
    (s.stampAttempt r).free = s.free ∧ (s.stampAttempt r).pending = s.pending := by
  refine ⟨?_, ?_, ?_, ?_, ?_, ?_, ?_, ?_⟩ <;> (unfold State.stampAttempt; (repeat' split) <;> simp)

@[simp] theorem State.applyTune_frame (s : State) (p : Position) (res : TuneResult) :
    (s.applyTune p res).adm = s.adm ∧ (s.applyTune p res).lanes = s.lanes ∧
    (s.applyTune p res).debounce = s.debounce ∧ (s.applyTune p res).load = s.load ∧
    (s.applyTune p res).time = s.time ∧ (s.applyTune p res).supply = s.supply ∧ (s.applyTune p res).free = s.free ∧
    (s.applyTune p res).pending = s.pending := by
  refine ⟨?_, ?_, ?_, ?_, ?_, ?_, ?_, ?_⟩ <;> (unfold State.applyTune; (try dsimp only); (repeat' split) <;> simp)

@[simp] theorem State.tuneCompleted_frame (s : State) (a : Antenna) (target : Nat) (ordered : Bool) (i4 i12 : Nat) :
    (s.tuneCompleted a target ordered i4 i12).adm = s.adm ∧
    (s.tuneCompleted a target ordered i4 i12).lanes = s.lanes ∧
    (s.tuneCompleted a target ordered i4 i12).debounce = s.debounce ∧
    (s.tuneCompleted a target ordered i4 i12).load = s.load ∧
    (s.tuneCompleted a target ordered i4 i12).time = s.time ∧
    (s.tuneCompleted a target ordered i4 i12).supply = s.supply ∧
    (s.tuneCompleted a target ordered i4 i12).free = s.free ∧
    (s.tuneCompleted a target ordered i4 i12).pending = s.pending := by
  refine ⟨?_, ?_, ?_, ?_, ?_, ?_, ?_, ?_⟩ <;> (unfold State.tuneCompleted; (try dsimp only); (repeat' split) <;> simp)

@[simp] theorem State.tuneVisit_frame (s : State) (i4 i12 : Nat) :
    (s.tuneVisit i4 i12).adm = s.adm ∧ (s.tuneVisit i4 i12).lanes = s.lanes ∧
    (s.tuneVisit i4 i12).debounce = s.debounce ∧ (s.tuneVisit i4 i12).load = s.load ∧
    (s.tuneVisit i4 i12).time = s.time ∧ (s.tuneVisit i4 i12).supply = s.supply ∧
    (s.tuneVisit i4 i12).free = s.free ∧ (s.tuneVisit i4 i12).pending = s.pending := by
  refine ⟨?_, ?_, ?_, ?_, ?_, ?_, ?_, ?_⟩ <;> (unfold State.tuneVisit; (repeat' split) <;> simp)

@[simp] theorem admitSetBlock_frame (a : Option AdmSettings) (s : State) :
    (admitSetBlock a s).state.table = s.table ∧ (admitSetBlock a s).state.reader = s.reader ∧
    (admitSetBlock a s).state.lanes = s.lanes ∧ (admitSetBlock a s).state.debounce = s.debounce ∧
    (admitSetBlock a s).state.load = s.load ∧ (admitSetBlock a s).state.counts = s.counts ∧
    (admitSetBlock a s).state.refund = s.refund ∧ (admitSetBlock a s).state.time = s.time ∧
    (admitSetBlock a s).state.ports = s.ports ∧ (admitSetBlock a s).state.supply = s.supply ∧
    (admitSetBlock a s).state.free = s.free ∧ (admitSetBlock a s).state.pending = s.pending := by
  refine ⟨?_, ?_, ?_, ?_, ?_, ?_, ?_, ?_, ?_, ?_, ?_, ?_⟩ <;> (unfold admitSetBlock; (repeat' split) <;> simp)

@[simp] theorem orderAdmitSet_frame (port : Port) (resort lockout : BitVec 16) (quiet learnMask : Byte) (s : State) :
    (orderAdmitSet port resort lockout quiet learnMask s).table = s.table ∧
    (orderAdmitSet port resort lockout quiet learnMask s).reader = s.reader ∧
    (orderAdmitSet port resort lockout quiet learnMask s).lanes = s.lanes ∧
    (orderAdmitSet port resort lockout quiet learnMask s).debounce = s.debounce ∧
    (orderAdmitSet port resort lockout quiet learnMask s).load = s.load ∧
    (orderAdmitSet port resort lockout quiet learnMask s).counts = s.counts ∧
    (orderAdmitSet port resort lockout quiet learnMask s).refund = s.refund ∧
    (orderAdmitSet port resort lockout quiet learnMask s).time = s.time ∧
    (orderAdmitSet port resort lockout quiet learnMask s).supply = s.supply ∧
    (orderAdmitSet port resort lockout quiet learnMask s).free = s.free ∧
    (orderAdmitSet port resort lockout quiet learnMask s).pending = s.pending := by
  refine ⟨?_, ?_, ?_, ?_, ?_, ?_, ?_, ?_, ?_, ?_, ?_⟩ <;> exact takeOrder_keeps _ (fun _ _ _ => rfl) _ _ _ _ _ (fun _ => by simp) _

@[simp] theorem rulePutBlock_frame (index : Nat) (r : Option LaneRule) (s : State) :
    (rulePutBlock index r s).state.table = s.table ∧ (rulePutBlock index r s).state.reader = s.reader ∧
    (rulePutBlock index r s).state.lanes = s.lanes ∧ (rulePutBlock index r s).state.debounce = s.debounce ∧
    (rulePutBlock index r s).state.load = s.load ∧ (rulePutBlock index r s).state.counts = s.counts ∧
    (rulePutBlock index r s).state.refund = s.refund ∧ (rulePutBlock index r s).state.time = s.time ∧
    (rulePutBlock index r s).state.ports = s.ports ∧ (rulePutBlock index r s).state.supply = s.supply ∧
    (rulePutBlock index r s).state.free = s.free ∧ (rulePutBlock index r s).state.pending = s.pending := by
  refine ⟨?_, ?_, ?_, ?_, ?_, ?_, ?_, ?_, ?_, ?_, ?_, ?_⟩ <;> (unfold rulePutBlock; (repeat' split) <;> simp)

@[simp] theorem orderRulePut_frame (port : Port) (index enabled : Byte) (value mask : BitVec 16) (lanes : Byte) (start stop : BitVec 16) (cls charge : Byte) (s : State) :
    (orderRulePut port index enabled value mask lanes start stop cls charge s).table = s.table ∧
    (orderRulePut port index enabled value mask lanes start stop cls charge s).reader = s.reader ∧
    (orderRulePut port index enabled value mask lanes start stop cls charge s).lanes = s.lanes ∧
    (orderRulePut port index enabled value mask lanes start stop cls charge s).debounce = s.debounce ∧
    (orderRulePut port index enabled value mask lanes start stop cls charge s).load = s.load ∧
    (orderRulePut port index enabled value mask lanes start stop cls charge s).counts = s.counts ∧
    (orderRulePut port index enabled value mask lanes start stop cls charge s).refund = s.refund ∧
    (orderRulePut port index enabled value mask lanes start stop cls charge s).time = s.time ∧
    (orderRulePut port index enabled value mask lanes start stop cls charge s).supply = s.supply ∧
    (orderRulePut port index enabled value mask lanes start stop cls charge s).free = s.free ∧
    (orderRulePut port index enabled value mask lanes start stop cls charge s).pending = s.pending := by
  refine ⟨?_, ?_, ?_, ?_, ?_, ?_, ?_, ?_, ?_, ?_, ?_⟩ <;> exact takeOrder_keeps _ (fun _ _ _ => rfl) _ _ _ _ _ (fun _ => by simp) _

@[simp] theorem ruleQueryBlock_frame (selector : Byte) (value : Nat) (s : State) :
    (ruleQueryBlock selector value s).state.table = s.table ∧
    (ruleQueryBlock selector value s).state.reader = s.reader ∧ (ruleQueryBlock selector value s).state.adm = s.adm ∧
    (ruleQueryBlock selector value s).state.lanes = s.lanes ∧
    (ruleQueryBlock selector value s).state.debounce = s.debounce ∧
    (ruleQueryBlock selector value s).state.load = s.load ∧
    (ruleQueryBlock selector value s).state.counts = s.counts ∧
    (ruleQueryBlock selector value s).state.refund = s.refund ∧
    (ruleQueryBlock selector value s).state.time = s.time ∧ (ruleQueryBlock selector value s).state.ports = s.ports ∧
    (ruleQueryBlock selector value s).state.supply = s.supply ∧
    (ruleQueryBlock selector value s).state.free = s.free ∧
    (ruleQueryBlock selector value s).state.pending = s.pending := by
  refine ⟨?_, ?_, ?_, ?_, ?_, ?_, ?_, ?_, ?_, ?_, ?_, ?_, ?_⟩ <;> (unfold ruleQueryBlock; (repeat' split) <;> simp)

@[simp] theorem orderRuleQuery_frame (port : Port) (selector : Byte) (value : BitVec 16) (s : State) :
    (orderRuleQuery port selector value s).table = s.table ∧
    (orderRuleQuery port selector value s).reader = s.reader ∧ (orderRuleQuery port selector value s).adm = s.adm ∧
    (orderRuleQuery port selector value s).lanes = s.lanes ∧
    (orderRuleQuery port selector value s).debounce = s.debounce ∧
    (orderRuleQuery port selector value s).load = s.load ∧ (orderRuleQuery port selector value s).counts = s.counts ∧
    (orderRuleQuery port selector value s).refund = s.refund ∧ (orderRuleQuery port selector value s).time = s.time ∧
    (orderRuleQuery port selector value s).supply = s.supply ∧ (orderRuleQuery port selector value s).free = s.free ∧
    (orderRuleQuery port selector value s).pending = s.pending := by
  refine ⟨?_, ?_, ?_, ?_, ?_, ?_, ?_, ?_, ?_, ?_, ?_, ?_⟩ <;> exact takeOrder_keeps _ (fun _ _ _ => rfl) _ _ _ _ _ (fun _ => by simp) _

@[simp] theorem verdictFetchBlock_frame (lane : Byte) (s : State) :
    (verdictFetchBlock lane s).state.table = s.table ∧ (verdictFetchBlock lane s).state.reader = s.reader ∧
    (verdictFetchBlock lane s).state.adm = s.adm ∧ (verdictFetchBlock lane s).state.lanes = s.lanes ∧
    (verdictFetchBlock lane s).state.debounce = s.debounce ∧ (verdictFetchBlock lane s).state.load = s.load ∧
    (verdictFetchBlock lane s).state.counts = s.counts ∧ (verdictFetchBlock lane s).state.refund = s.refund ∧
    (verdictFetchBlock lane s).state.time = s.time ∧ (verdictFetchBlock lane s).state.ports = s.ports ∧
    (verdictFetchBlock lane s).state.supply = s.supply ∧ (verdictFetchBlock lane s).state.free = s.free ∧
    (verdictFetchBlock lane s).state.pending = s.pending := by
  refine ⟨?_, ?_, ?_, ?_, ?_, ?_, ?_, ?_, ?_, ?_, ?_, ?_, ?_⟩ <;> (unfold verdictFetchBlock; (repeat' split) <;> simp)

@[simp] theorem orderVerdictFetch_frame (port : Port) (lane : Byte) (s : State) :
    (orderVerdictFetch port lane s).table = s.table ∧ (orderVerdictFetch port lane s).reader = s.reader ∧
    (orderVerdictFetch port lane s).adm = s.adm ∧ (orderVerdictFetch port lane s).lanes = s.lanes ∧
    (orderVerdictFetch port lane s).debounce = s.debounce ∧ (orderVerdictFetch port lane s).load = s.load ∧
    (orderVerdictFetch port lane s).counts = s.counts ∧ (orderVerdictFetch port lane s).refund = s.refund ∧
    (orderVerdictFetch port lane s).time = s.time ∧ (orderVerdictFetch port lane s).supply = s.supply ∧
    (orderVerdictFetch port lane s).free = s.free ∧ (orderVerdictFetch port lane s).pending = s.pending := by
  refine ⟨?_, ?_, ?_, ?_, ?_, ?_, ?_, ?_, ?_, ?_, ?_, ?_⟩ <;> exact takeOrder_keeps _ (fun _ _ _ => rfl) _ _ _ _ _ (fun _ => by simp) _

@[simp] theorem State.changeMode_frame (s : State) (n : Lane) (m : Mode) (station : Bool) :
    (s.changeMode n m station).table = s.table ∧ (s.changeMode n m station).debounce = s.debounce ∧
    (s.changeMode n m station).counts = s.counts ∧ (s.changeMode n m station).refund = s.refund ∧
    (s.changeMode n m station).time = s.time ∧ (s.changeMode n m station).supply = s.supply ∧
    (s.changeMode n m station).free = s.free ∧ (s.changeMode n m station).pending = s.pending := by
  refine ⟨?_, ?_, ?_, ?_, ?_, ?_, ?_, ?_⟩ <;> (unfold State.changeMode; (try dsimp only); (repeat' split) <;> simp)

@[simp] theorem laneModeBlock_frame (station : Bool) (lane mode : Byte) (s : State) :
    (laneModeBlock station lane mode s).state.table = s.table ∧
    (laneModeBlock station lane mode s).state.debounce = s.debounce ∧
    (laneModeBlock station lane mode s).state.counts = s.counts ∧
    (laneModeBlock station lane mode s).state.refund = s.refund ∧
    (laneModeBlock station lane mode s).state.time = s.time ∧
    (laneModeBlock station lane mode s).state.supply = s.supply ∧
    (laneModeBlock station lane mode s).state.free = s.free ∧
    (laneModeBlock station lane mode s).state.pending = s.pending := by
  refine ⟨?_, ?_, ?_, ?_, ?_, ?_, ?_, ?_⟩ <;> (unfold laneModeBlock; (repeat' split) <;> simp)

@[simp] theorem orderLaneMode_frame (port : Port) (lane mode : Byte) (s : State) :
    (orderLaneMode port lane mode s).table = s.table ∧ (orderLaneMode port lane mode s).debounce = s.debounce ∧
    (orderLaneMode port lane mode s).counts = s.counts ∧ (orderLaneMode port lane mode s).refund = s.refund ∧
    (orderLaneMode port lane mode s).time = s.time ∧ (orderLaneMode port lane mode s).supply = s.supply ∧
    (orderLaneMode port lane mode s).free = s.free ∧ (orderLaneMode port lane mode s).pending = s.pending := by
  refine ⟨?_, ?_, ?_, ?_, ?_, ?_, ?_, ?_⟩ <;> exact takeOrder_keeps _ (fun _ _ _ => rfl) _ _ _ _ _ (fun _ => by simp) _

@[simp] theorem laneStatusBlock_frame (lane : Byte) (s : State) :
    (laneStatusBlock lane s).state.table = s.table ∧ (laneStatusBlock lane s).state.reader = s.reader ∧
    (laneStatusBlock lane s).state.adm = s.adm ∧ (laneStatusBlock lane s).state.lanes = s.lanes ∧
    (laneStatusBlock lane s).state.debounce = s.debounce ∧ (laneStatusBlock lane s).state.load = s.load ∧
    (laneStatusBlock lane s).state.counts = s.counts ∧ (laneStatusBlock lane s).state.refund = s.refund ∧
    (laneStatusBlock lane s).state.time = s.time ∧ (laneStatusBlock lane s).state.ports = s.ports ∧
    (laneStatusBlock lane s).state.supply = s.supply ∧ (laneStatusBlock lane s).state.free = s.free ∧
    (laneStatusBlock lane s).state.pending = s.pending := by
  refine ⟨?_, ?_, ?_, ?_, ?_, ?_, ?_, ?_, ?_, ?_, ?_, ?_, ?_⟩ <;> (unfold laneStatusBlock; (repeat' split) <;> simp)

@[simp] theorem orderLaneStatus_frame (port : Port) (lane : Byte) (s : State) :
    (orderLaneStatus port lane s).table = s.table ∧ (orderLaneStatus port lane s).reader = s.reader ∧
    (orderLaneStatus port lane s).adm = s.adm ∧ (orderLaneStatus port lane s).lanes = s.lanes ∧
    (orderLaneStatus port lane s).debounce = s.debounce ∧ (orderLaneStatus port lane s).load = s.load ∧
    (orderLaneStatus port lane s).counts = s.counts ∧ (orderLaneStatus port lane s).refund = s.refund ∧
    (orderLaneStatus port lane s).time = s.time ∧ (orderLaneStatus port lane s).supply = s.supply ∧
    (orderLaneStatus port lane s).free = s.free ∧ (orderLaneStatus port lane s).pending = s.pending := by
  refine ⟨?_, ?_, ?_, ?_, ?_, ?_, ?_, ?_, ?_, ?_, ?_, ?_⟩ <;> exact takeOrder_keeps _ (fun _ _ _ => rfl) _ _ _ _ _ (fun _ => by simp) _

@[simp] theorem State.setLane_frame (s : State) (n : Lane) (x : LaneSettings) :
    (s.setLane n x).table = s.table ∧ (s.setLane n x).reader = s.reader ∧ (s.setLane n x).adm = s.adm ∧
    (s.setLane n x).debounce = s.debounce ∧ (s.setLane n x).load = s.load ∧ (s.setLane n x).counts = s.counts ∧
    (s.setLane n x).refund = s.refund ∧ (s.setLane n x).time = s.time ∧ (s.setLane n x).ports = s.ports ∧
    (s.setLane n x).supply = s.supply ∧ (s.setLane n x).free = s.free ∧ (s.setLane n x).pending = s.pending := by
  refine ⟨?_, ?_, ?_, ?_, ?_, ?_, ?_, ?_, ?_, ?_, ?_, ?_⟩ <;> (unfold State.setLane; (repeat' split) <;> simp)

@[simp] theorem State.setLanes_frame (s : State) (ns : List Lane) (x : LaneSettings) (debounce : Nat) :
    (s.setLanes ns x debounce).refund = s.refund ∧ (s.setLanes ns x debounce).time = s.time ∧
    (s.setLanes ns x debounce).supply = s.supply ∧ (s.setLanes ns x debounce).free = s.free ∧
    (s.setLanes ns x debounce).pending = s.pending := by
  refine ⟨?_, ?_, ?_, ?_, ?_⟩ <;> (unfold State.setLanes; dsimp only; simp; try exact foldl_keeps _ _ (fun _ _ => by simp) _ _)

@[simp] theorem laneSetBlock_frame (ns : Option (List Lane)) (x : Option (LaneSettings × Nat)) (s : State) :
    (laneSetBlock ns x s).state.refund = s.refund ∧ (laneSetBlock ns x s).state.time = s.time ∧
    (laneSetBlock ns x s).state.supply = s.supply ∧ (laneSetBlock ns x s).state.free = s.free ∧
    (laneSetBlock ns x s).state.pending = s.pending := by
  refine ⟨?_, ?_, ?_, ?_, ?_⟩ <;> (unfold laneSetBlock; (repeat' split) <;> simp)

@[simp] theorem orderLaneSet_frame (port : Port) (lane window debounce high low mute : Byte) (s : State) :
    (orderLaneSet port lane window debounce high low mute s).refund = s.refund ∧
    (orderLaneSet port lane window debounce high low mute s).time = s.time ∧
    (orderLaneSet port lane window debounce high low mute s).supply = s.supply ∧
    (orderLaneSet port lane window debounce high low mute s).free = s.free ∧
    (orderLaneSet port lane window debounce high low mute s).pending = s.pending := by
  refine ⟨?_, ?_, ?_, ?_, ?_⟩ <;> exact takeOrder_keeps _ (fun _ _ _ => rfl) _ _ _ _ _ (fun _ => by simp) _

@[simp] theorem State.manualGrant_frame (s : State) (n : Lane) :
    (s.manualGrant n).debounce = s.debounce ∧ (s.manualGrant n).refund = s.refund ∧ (s.manualGrant n).time = s.time ∧
    (s.manualGrant n).supply = s.supply ∧ (s.manualGrant n).free = s.free ∧ (s.manualGrant n).pending = s.pending := by
  refine ⟨?_, ?_, ?_, ?_, ?_, ?_⟩ <;> (unfold State.manualGrant; (repeat' split) <;> simp)

@[simp] theorem manualGrantBlock_frame (lane : Byte) (s : State) :
    (manualGrantBlock lane s).state.debounce = s.debounce ∧ (manualGrantBlock lane s).state.refund = s.refund ∧
    (manualGrantBlock lane s).state.time = s.time ∧ (manualGrantBlock lane s).state.supply = s.supply ∧
    (manualGrantBlock lane s).state.free = s.free ∧ (manualGrantBlock lane s).state.pending = s.pending := by
  refine ⟨?_, ?_, ?_, ?_, ?_, ?_⟩ <;> (unfold manualGrantBlock; (repeat' split) <;> simp)

@[simp] theorem orderManualGrant_frame (port : Port) (lane : Byte) (s : State) :
    (orderManualGrant port lane s).debounce = s.debounce ∧ (orderManualGrant port lane s).refund = s.refund ∧
    (orderManualGrant port lane s).time = s.time ∧ (orderManualGrant port lane s).supply = s.supply ∧
    (orderManualGrant port lane s).free = s.free ∧ (orderManualGrant port lane s).pending = s.pending := by
  refine ⟨?_, ?_, ?_, ?_, ?_, ?_⟩ <;> exact takeOrder_keeps _ (fun _ _ _ => rfl) _ _ _ _ _ (fun _ => by simp) _

@[simp] theorem loadingSetBlock_frame (limit hold : Nat) (s : State) :
    (loadingSetBlock limit hold s).state.debounce = s.debounce ∧
    (loadingSetBlock limit hold s).state.refund = s.refund ∧ (loadingSetBlock limit hold s).state.time = s.time ∧
    (loadingSetBlock limit hold s).state.supply = s.supply ∧ (loadingSetBlock limit hold s).state.free = s.free ∧
    (loadingSetBlock limit hold s).state.pending = s.pending := by
  refine ⟨?_, ?_, ?_, ?_, ?_, ?_⟩ <;> (unfold loadingSetBlock; (repeat' split) <;> simp)

@[simp] theorem orderLoadingSet_frame (port : Port) (limit hold : Byte) (s : State) :
    (orderLoadingSet port limit hold s).debounce = s.debounce ∧
    (orderLoadingSet port limit hold s).refund = s.refund ∧ (orderLoadingSet port limit hold s).time = s.time ∧
    (orderLoadingSet port limit hold s).supply = s.supply ∧ (orderLoadingSet port limit hold s).free = s.free ∧
    (orderLoadingSet port limit hold s).pending = s.pending := by
  refine ⟨?_, ?_, ?_, ?_, ?_, ?_⟩ <;> exact takeOrder_keeps _ (fun _ _ _ => rfl) _ _ _ _ _ (fun _ => by simp) _

@[simp] theorem loadingStatusBlock_frame (s : State) :
    (loadingStatusBlock s).state.table = s.table ∧ (loadingStatusBlock s).state.reader = s.reader ∧
    (loadingStatusBlock s).state.adm = s.adm ∧ (loadingStatusBlock s).state.lanes = s.lanes ∧
    (loadingStatusBlock s).state.debounce = s.debounce ∧ (loadingStatusBlock s).state.load = s.load ∧
    (loadingStatusBlock s).state.counts = s.counts ∧ (loadingStatusBlock s).state.refund = s.refund ∧
    (loadingStatusBlock s).state.time = s.time ∧ (loadingStatusBlock s).state.ports = s.ports ∧
    (loadingStatusBlock s).state.supply = s.supply ∧ (loadingStatusBlock s).state.free = s.free ∧
    (loadingStatusBlock s).state.pending = s.pending := by
  refine ⟨?_, ?_, ?_, ?_, ?_, ?_, ?_, ?_, ?_, ?_, ?_, ?_, ?_⟩ <;> (unfold loadingStatusBlock; (repeat' split) <;> simp)

@[simp] theorem orderLoadingStatus_frame (port : Port) (s : State) :
    (orderLoadingStatus port s).table = s.table ∧ (orderLoadingStatus port s).reader = s.reader ∧
    (orderLoadingStatus port s).adm = s.adm ∧ (orderLoadingStatus port s).lanes = s.lanes ∧
    (orderLoadingStatus port s).debounce = s.debounce ∧ (orderLoadingStatus port s).load = s.load ∧
    (orderLoadingStatus port s).counts = s.counts ∧ (orderLoadingStatus port s).refund = s.refund ∧
    (orderLoadingStatus port s).time = s.time ∧ (orderLoadingStatus port s).supply = s.supply ∧
    (orderLoadingStatus port s).free = s.free ∧ (orderLoadingStatus port s).pending = s.pending := by
  refine ⟨?_, ?_, ?_, ?_, ?_, ?_, ?_, ?_, ?_, ?_, ?_, ?_⟩ <;> exact takeOrder_keeps _ (fun _ _ _ => rfl) _ _ _ _ _ (fun _ => by simp) _

@[simp] theorem binsBlock_frame (start number : Nat) (s : State) :
    (binsBlock start number s).state.table = s.table ∧ (binsBlock start number s).state.reader = s.reader ∧
    (binsBlock start number s).state.adm = s.adm ∧ (binsBlock start number s).state.lanes = s.lanes ∧
    (binsBlock start number s).state.debounce = s.debounce ∧ (binsBlock start number s).state.load = s.load ∧
    (binsBlock start number s).state.counts = s.counts ∧ (binsBlock start number s).state.refund = s.refund ∧
    (binsBlock start number s).state.time = s.time ∧ (binsBlock start number s).state.ports = s.ports ∧
    (binsBlock start number s).state.supply = s.supply ∧ (binsBlock start number s).state.free = s.free ∧
    (binsBlock start number s).state.pending = s.pending := by
  refine ⟨?_, ?_, ?_, ?_, ?_, ?_, ?_, ?_, ?_, ?_, ?_, ?_, ?_⟩ <;> (unfold binsBlock; (repeat' split) <;> simp)

@[simp] theorem countsReadBlock_frame (period part lane : Byte) (start number : Nat) (s : State) :
    (countsReadBlock period part lane start number s).state.table = s.table ∧
    (countsReadBlock period part lane start number s).state.reader = s.reader ∧
    (countsReadBlock period part lane start number s).state.adm = s.adm ∧
    (countsReadBlock period part lane start number s).state.lanes = s.lanes ∧
    (countsReadBlock period part lane start number s).state.debounce = s.debounce ∧
    (countsReadBlock period part lane start number s).state.load = s.load ∧
    (countsReadBlock period part lane start number s).state.counts = s.counts ∧
    (countsReadBlock period part lane start number s).state.refund = s.refund ∧
    (countsReadBlock period part lane start number s).state.time = s.time ∧
    (countsReadBlock period part lane start number s).state.ports = s.ports ∧
    (countsReadBlock period part lane start number s).state.supply = s.supply ∧
    (countsReadBlock period part lane start number s).state.free = s.free ∧
    (countsReadBlock period part lane start number s).state.pending = s.pending := by
  refine ⟨?_, ?_, ?_, ?_, ?_, ?_, ?_, ?_, ?_, ?_, ?_, ?_, ?_⟩ <;> (unfold countsReadBlock; (try dsimp only); (repeat' split) <;> simp)

@[simp] theorem orderCountsRead_frame (port : Port) (period part lane start number : Byte) (s : State) :
    (orderCountsRead port period part lane start number s).table = s.table ∧
    (orderCountsRead port period part lane start number s).reader = s.reader ∧
    (orderCountsRead port period part lane start number s).adm = s.adm ∧
    (orderCountsRead port period part lane start number s).lanes = s.lanes ∧
    (orderCountsRead port period part lane start number s).debounce = s.debounce ∧
    (orderCountsRead port period part lane start number s).load = s.load ∧
    (orderCountsRead port period part lane start number s).counts = s.counts ∧
    (orderCountsRead port period part lane start number s).refund = s.refund ∧
    (orderCountsRead port period part lane start number s).time = s.time ∧
    (orderCountsRead port period part lane start number s).supply = s.supply ∧
    (orderCountsRead port period part lane start number s).free = s.free ∧
    (orderCountsRead port period part lane start number s).pending = s.pending := by
  refine ⟨?_, ?_, ?_, ?_, ?_, ?_, ?_, ?_, ?_, ?_, ?_, ?_⟩ <;> exact takeOrder_keeps _ (fun _ _ _ => rfl) _ _ _ _ _ (fun _ => by simp) _

@[simp] theorem tariffPart1Block_frame (t : Option Staging) (s : State) :
    (tariffPart1Block t s).state.table = s.table ∧ (tariffPart1Block t s).state.reader = s.reader ∧
    (tariffPart1Block t s).state.adm = s.adm ∧ (tariffPart1Block t s).state.lanes = s.lanes ∧
    (tariffPart1Block t s).state.debounce = s.debounce ∧ (tariffPart1Block t s).state.load = s.load ∧
    (tariffPart1Block t s).state.counts = s.counts ∧ (tariffPart1Block t s).state.time = s.time ∧
    (tariffPart1Block t s).state.ports = s.ports ∧ (tariffPart1Block t s).state.supply = s.supply ∧
    (tariffPart1Block t s).state.free = s.free ∧ (tariffPart1Block t s).state.pending = s.pending := by
  refine ⟨?_, ?_, ?_, ?_, ?_, ?_, ?_, ?_, ?_, ?_, ?_, ?_⟩ <;> (unfold tariffPart1Block; (repeat' split) <;> simp)

@[simp] theorem orderTariffPutPart1_frame (port : Port) (product : BitVec 16) (prices : Vector (BitVec 24) 11) (fee : BitVec 16) (minDays : Byte) (unit minRefund : BitVec 16) (claim refundable : Byte) (s : State) :
    (orderTariffPutPart1 port product prices fee minDays unit minRefund claim refundable s).table = s.table ∧
    (orderTariffPutPart1 port product prices fee minDays unit minRefund claim refundable s).reader = s.reader ∧
    (orderTariffPutPart1 port product prices fee minDays unit minRefund claim refundable s).adm = s.adm ∧
    (orderTariffPutPart1 port product prices fee minDays unit minRefund claim refundable s).lanes = s.lanes ∧
    (orderTariffPutPart1 port product prices fee minDays unit minRefund claim refundable s).debounce = s.debounce ∧
    (orderTariffPutPart1 port product prices fee minDays unit minRefund claim refundable s).load = s.load ∧
    (orderTariffPutPart1 port product prices fee minDays unit minRefund claim refundable s).counts = s.counts ∧
    (orderTariffPutPart1 port product prices fee minDays unit minRefund claim refundable s).time = s.time ∧
    (orderTariffPutPart1 port product prices fee minDays unit minRefund claim refundable s).supply = s.supply ∧
    (orderTariffPutPart1 port product prices fee minDays unit minRefund claim refundable s).free = s.free ∧
    (orderTariffPutPart1 port product prices fee minDays unit minRefund claim refundable s).pending = s.pending := by
  refine ⟨?_, ?_, ?_, ?_, ?_, ?_, ?_, ?_, ?_, ?_, ?_⟩ <;> exact takeOrder_keeps _ (fun _ _ _ => rfl) _ _ _ _ _ (fun _ => by simp) _

@[simp] theorem tariffPart2Block_frame (product : Nat) (prices : List Nat) (s : State) :
    (tariffPart2Block product prices s).state.table = s.table ∧
    (tariffPart2Block product prices s).state.reader = s.reader ∧
    (tariffPart2Block product prices s).state.adm = s.adm ∧
    (tariffPart2Block product prices s).state.lanes = s.lanes ∧
    (tariffPart2Block product prices s).state.debounce = s.debounce ∧
    (tariffPart2Block product prices s).state.load = s.load ∧
    (tariffPart2Block product prices s).state.counts = s.counts ∧
    (tariffPart2Block product prices s).state.time = s.time ∧
    (tariffPart2Block product prices s).state.ports = s.ports ∧
    (tariffPart2Block product prices s).state.supply = s.supply ∧
    (tariffPart2Block product prices s).state.free = s.free ∧
    (tariffPart2Block product prices s).state.pending = s.pending := by
  refine ⟨?_, ?_, ?_, ?_, ?_, ?_, ?_, ?_, ?_, ?_, ?_, ?_⟩ <;> (unfold tariffPart2Block; (try dsimp only); (repeat' split) <;> simp)

@[simp] theorem orderTariffPutPart2_frame (port : Port) (product : BitVec 16) (prices : Vector (BitVec 24) 10) (s : State) :
    (orderTariffPutPart2 port product prices s).table = s.table ∧
    (orderTariffPutPart2 port product prices s).reader = s.reader ∧
    (orderTariffPutPart2 port product prices s).adm = s.adm ∧
    (orderTariffPutPart2 port product prices s).lanes = s.lanes ∧
    (orderTariffPutPart2 port product prices s).debounce = s.debounce ∧
    (orderTariffPutPart2 port product prices s).load = s.load ∧
    (orderTariffPutPart2 port product prices s).counts = s.counts ∧
    (orderTariffPutPart2 port product prices s).time = s.time ∧
    (orderTariffPutPart2 port product prices s).supply = s.supply ∧
    (orderTariffPutPart2 port product prices s).free = s.free ∧
    (orderTariffPutPart2 port product prices s).pending = s.pending := by
  refine ⟨?_, ?_, ?_, ?_, ?_, ?_, ?_, ?_, ?_, ?_, ?_⟩ <;> exact takeOrder_keeps _ (fun _ _ _ => rfl) _ _ _ _ _ (fun _ => by simp) _

@[simp] theorem orderTariffPutOther_frame (port : Port) (s : State) :
    (orderTariffPutOther port s).table = s.table ∧ (orderTariffPutOther port s).reader = s.reader ∧
    (orderTariffPutOther port s).adm = s.adm ∧ (orderTariffPutOther port s).lanes = s.lanes ∧
    (orderTariffPutOther port s).debounce = s.debounce ∧ (orderTariffPutOther port s).load = s.load ∧
    (orderTariffPutOther port s).counts = s.counts ∧ (orderTariffPutOther port s).refund = s.refund ∧
    (orderTariffPutOther port s).time = s.time ∧ (orderTariffPutOther port s).supply = s.supply ∧
    (orderTariffPutOther port s).free = s.free ∧ (orderTariffPutOther port s).pending = s.pending := by
  refine ⟨?_, ?_, ?_, ?_, ?_, ?_, ?_, ?_, ?_, ?_, ?_, ?_⟩ <;> exact takeOrder_keeps _ (fun _ _ _ => rfl) _ _ _ _ _ (fun _ => by simp) _

@[simp] theorem tariffQueryBlock_frame (selector : Byte) (value : Nat) (s : State) :
    (tariffQueryBlock selector value s).state.table = s.table ∧
    (tariffQueryBlock selector value s).state.reader = s.reader ∧
    (tariffQueryBlock selector value s).state.adm = s.adm ∧
    (tariffQueryBlock selector value s).state.lanes = s.lanes ∧
    (tariffQueryBlock selector value s).state.debounce = s.debounce ∧
    (tariffQueryBlock selector value s).state.load = s.load ∧
    (tariffQueryBlock selector value s).state.counts = s.counts ∧
    (tariffQueryBlock selector value s).state.refund = s.refund ∧
    (tariffQueryBlock selector value s).state.time = s.time ∧
    (tariffQueryBlock selector value s).state.ports = s.ports ∧
    (tariffQueryBlock selector value s).state.supply = s.supply ∧
    (tariffQueryBlock selector value s).state.free = s.free ∧
    (tariffQueryBlock selector value s).state.pending = s.pending := by
  refine ⟨?_, ?_, ?_, ?_, ?_, ?_, ?_, ?_, ?_, ?_, ?_, ?_, ?_⟩ <;> (unfold tariffQueryBlock; (try dsimp only); (repeat' split) <;> simp)

@[simp] theorem orderTariffQuery_frame (port : Port) (selector : Byte) (value : BitVec 16) (s : State) :
    (orderTariffQuery port selector value s).table = s.table ∧
    (orderTariffQuery port selector value s).reader = s.reader ∧
    (orderTariffQuery port selector value s).adm = s.adm ∧ (orderTariffQuery port selector value s).lanes = s.lanes ∧
    (orderTariffQuery port selector value s).debounce = s.debounce ∧
    (orderTariffQuery port selector value s).load = s.load ∧
    (orderTariffQuery port selector value s).counts = s.counts ∧
    (orderTariffQuery port selector value s).refund = s.refund ∧
    (orderTariffQuery port selector value s).time = s.time ∧
    (orderTariffQuery port selector value s).supply = s.supply ∧
    (orderTariffQuery port selector value s).free = s.free ∧
    (orderTariffQuery port selector value s).pending = s.pending := by
  refine ⟨?_, ?_, ?_, ?_, ?_, ?_, ?_, ?_, ?_, ?_, ?_, ?_⟩ <;> exact takeOrder_keeps _ (fun _ _ _ => rfl) _ _ _ _ _ (fun _ => by simp) _

@[simp] theorem tariffEraseBlock_frame (product : Nat) (s : State) :
    (tariffEraseBlock product s).state.table = s.table ∧ (tariffEraseBlock product s).state.reader = s.reader ∧
    (tariffEraseBlock product s).state.adm = s.adm ∧ (tariffEraseBlock product s).state.lanes = s.lanes ∧
    (tariffEraseBlock product s).state.debounce = s.debounce ∧ (tariffEraseBlock product s).state.load = s.load ∧
    (tariffEraseBlock product s).state.counts = s.counts ∧ (tariffEraseBlock product s).state.time = s.time ∧
    (tariffEraseBlock product s).state.ports = s.ports ∧ (tariffEraseBlock product s).state.supply = s.supply ∧
    (tariffEraseBlock product s).state.free = s.free ∧ (tariffEraseBlock product s).state.pending = s.pending := by
  refine ⟨?_, ?_, ?_, ?_, ?_, ?_, ?_, ?_, ?_, ?_, ?_, ?_⟩ <;> (unfold tariffEraseBlock; (repeat' split) <;> simp)

@[simp] theorem orderTariffErase_frame (port : Port) (product : BitVec 16) (s : State) :
    (orderTariffErase port product s).table = s.table ∧ (orderTariffErase port product s).reader = s.reader ∧
    (orderTariffErase port product s).adm = s.adm ∧ (orderTariffErase port product s).lanes = s.lanes ∧
    (orderTariffErase port product s).debounce = s.debounce ∧ (orderTariffErase port product s).load = s.load ∧
    (orderTariffErase port product s).counts = s.counts ∧ (orderTariffErase port product s).time = s.time ∧
    (orderTariffErase port product s).supply = s.supply ∧ (orderTariffErase port product s).free = s.free ∧
    (orderTariffErase port product s).pending = s.pending := by
  refine ⟨?_, ?_, ?_, ?_, ?_, ?_, ?_, ?_, ?_, ?_, ?_⟩ <;> exact takeOrder_keeps _ (fun _ _ _ => rfl) _ _ _ _ _ (fun _ => by simp) _

@[simp] theorem refundSetBlock_frame (hold : Nat) (s : State) :
    (refundSetBlock hold s).state.table = s.table ∧ (refundSetBlock hold s).state.reader = s.reader ∧
    (refundSetBlock hold s).state.adm = s.adm ∧ (refundSetBlock hold s).state.lanes = s.lanes ∧
    (refundSetBlock hold s).state.debounce = s.debounce ∧ (refundSetBlock hold s).state.load = s.load ∧
    (refundSetBlock hold s).state.counts = s.counts ∧ (refundSetBlock hold s).state.time = s.time ∧
    (refundSetBlock hold s).state.ports = s.ports ∧ (refundSetBlock hold s).state.supply = s.supply ∧
    (refundSetBlock hold s).state.free = s.free ∧ (refundSetBlock hold s).state.pending = s.pending := by
  refine ⟨?_, ?_, ?_, ?_, ?_, ?_, ?_, ?_, ?_, ?_, ?_, ?_⟩ <;> (unfold refundSetBlock; (repeat' split) <;> simp)

@[simp] theorem orderRefundSet_frame (port : Port) (hold : BitVec 16) (s : State) :
    (orderRefundSet port hold s).table = s.table ∧ (orderRefundSet port hold s).reader = s.reader ∧
    (orderRefundSet port hold s).adm = s.adm ∧ (orderRefundSet port hold s).lanes = s.lanes ∧
    (orderRefundSet port hold s).debounce = s.debounce ∧ (orderRefundSet port hold s).load = s.load ∧
    (orderRefundSet port hold s).counts = s.counts ∧ (orderRefundSet port hold s).time = s.time ∧
    (orderRefundSet port hold s).supply = s.supply ∧ (orderRefundSet port hold s).free = s.free ∧
    (orderRefundSet port hold s).pending = s.pending := by
  refine ⟨?_, ?_, ?_, ?_, ?_, ?_, ?_, ?_, ?_, ?_, ?_⟩ <;> exact takeOrder_keeps _ (fun _ _ _ => rfl) _ _ _ _ _ (fun _ => by simp) _

@[simp] theorem refundQuoteBlock_frame (s : State) :
    (refundQuoteBlock s).state.table = s.table ∧ (refundQuoteBlock s).state.adm = s.adm ∧
    (refundQuoteBlock s).state.lanes = s.lanes ∧ (refundQuoteBlock s).state.debounce = s.debounce ∧
    (refundQuoteBlock s).state.load = s.load ∧ (refundQuoteBlock s).state.counts = s.counts ∧
    (refundQuoteBlock s).state.time = s.time ∧ (refundQuoteBlock s).state.ports = s.ports ∧
    (refundQuoteBlock s).state.supply = s.supply ∧ (refundQuoteBlock s).state.free = s.free ∧
    (refundQuoteBlock s).state.pending = s.pending := by
  refine ⟨?_, ?_, ?_, ?_, ?_, ?_, ?_, ?_, ?_, ?_, ?_⟩ <;> (unfold refundQuoteBlock; (repeat' split) <;> simp)

@[simp] theorem orderRefundQuote_frame (port : Port) (s : State) :
    (orderRefundQuote port s).table = s.table ∧ (orderRefundQuote port s).adm = s.adm ∧
    (orderRefundQuote port s).lanes = s.lanes ∧ (orderRefundQuote port s).debounce = s.debounce ∧
    (orderRefundQuote port s).load = s.load ∧ (orderRefundQuote port s).counts = s.counts ∧
    (orderRefundQuote port s).time = s.time ∧ (orderRefundQuote port s).supply = s.supply ∧
    (orderRefundQuote port s).free = s.free ∧ (orderRefundQuote port s).pending = s.pending := by
  refine ⟨?_, ?_, ?_, ?_, ?_, ?_, ?_, ?_, ?_, ?_⟩ <;> exact takeOrder_keeps _ (fun _ _ _ => rfl) _ _ _ _ _ (fun _ => by simp) _

@[simp] theorem State.beginCommit_frame (s : State) (q : StandingQuote) :
    (s.beginCommit q).table = s.table ∧ (s.beginCommit q).reader = s.reader ∧ (s.beginCommit q).adm = s.adm ∧
    (s.beginCommit q).lanes = s.lanes ∧ (s.beginCommit q).debounce = s.debounce ∧ (s.beginCommit q).load = s.load ∧
    (s.beginCommit q).counts = s.counts ∧ (s.beginCommit q).time = s.time ∧ (s.beginCommit q).supply = s.supply ∧
    (s.beginCommit q).free = s.free ∧ (s.beginCommit q).pending = s.pending := by
  refine ⟨?_, ?_, ?_, ?_, ?_, ?_, ?_, ?_, ?_, ?_, ?_⟩ <;> (unfold State.beginCommit; (repeat' split) <;> simp)

@[simp] theorem State.commitStamp_frame (s : State) (q : StandingQuote) :
    (s.commitStamp q).state.adm = s.adm ∧ (s.commitStamp q).state.lanes = s.lanes ∧
    (s.commitStamp q).state.debounce = s.debounce ∧ (s.commitStamp q).state.load = s.load ∧
    (s.commitStamp q).state.time = s.time ∧ (s.commitStamp q).state.supply = s.supply ∧
    (s.commitStamp q).state.free = s.free ∧ (s.commitStamp q).state.pending = s.pending := by
  refine ⟨?_, ?_, ?_, ?_, ?_, ?_, ?_, ?_⟩ <;> (unfold State.commitStamp; (try dsimp only); (repeat' split) <;> simp)

@[simp] theorem refundCommitBlock_frame (quote : Nat) (s : State) :
    (refundCommitBlock quote s).state.adm = s.adm ∧ (refundCommitBlock quote s).state.lanes = s.lanes ∧
    (refundCommitBlock quote s).state.debounce = s.debounce ∧ (refundCommitBlock quote s).state.load = s.load ∧
    (refundCommitBlock quote s).state.time = s.time ∧ (refundCommitBlock quote s).state.supply = s.supply ∧
    (refundCommitBlock quote s).state.free = s.free ∧ (refundCommitBlock quote s).state.pending = s.pending := by
  refine ⟨?_, ?_, ?_, ?_, ?_, ?_, ?_, ?_⟩ <;> (unfold refundCommitBlock; (repeat' split) <;> simp)

@[simp] theorem orderRefundCommit_frame (port : Port) (quote : BitVec 16) (s : State) :
    (orderRefundCommit port quote s).adm = s.adm ∧ (orderRefundCommit port quote s).lanes = s.lanes ∧
    (orderRefundCommit port quote s).debounce = s.debounce ∧ (orderRefundCommit port quote s).load = s.load ∧
    (orderRefundCommit port quote s).time = s.time ∧ (orderRefundCommit port quote s).supply = s.supply ∧
    (orderRefundCommit port quote s).free = s.free ∧ (orderRefundCommit port quote s).pending = s.pending := by
  refine ⟨?_, ?_, ?_, ?_, ?_, ?_, ?_, ?_⟩ <;> exact takeOrder_keeps _ (fun _ _ _ => rfl) _ _ _ _ _ (fun _ => by simp) _

@[simp] theorem refundReleaseBlock_frame (quote : Nat) (s : State) :
    (refundReleaseBlock quote s).state.reader = s.reader ∧ (refundReleaseBlock quote s).state.adm = s.adm ∧
    (refundReleaseBlock quote s).state.lanes = s.lanes ∧ (refundReleaseBlock quote s).state.debounce = s.debounce ∧
    (refundReleaseBlock quote s).state.load = s.load ∧ (refundReleaseBlock quote s).state.counts = s.counts ∧
    (refundReleaseBlock quote s).state.time = s.time ∧ (refundReleaseBlock quote s).state.ports = s.ports ∧
    (refundReleaseBlock quote s).state.supply = s.supply ∧ (refundReleaseBlock quote s).state.free = s.free ∧
    (refundReleaseBlock quote s).state.pending = s.pending := by
  refine ⟨?_, ?_, ?_, ?_, ?_, ?_, ?_, ?_, ?_, ?_, ?_⟩ <;> (unfold refundReleaseBlock; (repeat' split) <;> simp)

@[simp] theorem orderRefundRelease_frame (port : Port) (quote : BitVec 16) (s : State) :
    (orderRefundRelease port quote s).reader = s.reader ∧ (orderRefundRelease port quote s).adm = s.adm ∧
    (orderRefundRelease port quote s).lanes = s.lanes ∧ (orderRefundRelease port quote s).debounce = s.debounce ∧
    (orderRefundRelease port quote s).load = s.load ∧ (orderRefundRelease port quote s).counts = s.counts ∧
    (orderRefundRelease port quote s).time = s.time ∧ (orderRefundRelease port quote s).supply = s.supply ∧
    (orderRefundRelease port quote s).free = s.free ∧ (orderRefundRelease port quote s).pending = s.pending := by
  refine ⟨?_, ?_, ?_, ?_, ?_, ?_, ?_, ?_, ?_, ?_⟩ <;> exact takeOrder_keeps _ (fun _ _ _ => rfl) _ _ _ _ _ (fun _ => by simp) _

@[simp] theorem refundStatusBlock_frame (s : State) :
    (refundStatusBlock s).state.table = s.table ∧ (refundStatusBlock s).state.reader = s.reader ∧
    (refundStatusBlock s).state.adm = s.adm ∧ (refundStatusBlock s).state.lanes = s.lanes ∧
    (refundStatusBlock s).state.debounce = s.debounce ∧ (refundStatusBlock s).state.load = s.load ∧
    (refundStatusBlock s).state.counts = s.counts ∧ (refundStatusBlock s).state.refund = s.refund ∧
    (refundStatusBlock s).state.time = s.time ∧ (refundStatusBlock s).state.ports = s.ports ∧
    (refundStatusBlock s).state.supply = s.supply ∧ (refundStatusBlock s).state.free = s.free ∧
    (refundStatusBlock s).state.pending = s.pending := by
  refine ⟨?_, ?_, ?_, ?_, ?_, ?_, ?_, ?_, ?_, ?_, ?_, ?_, ?_⟩ <;> (unfold refundStatusBlock; (repeat' split) <;> simp)

@[simp] theorem orderRefundStatus_frame (port : Port) (s : State) :
    (orderRefundStatus port s).table = s.table ∧ (orderRefundStatus port s).reader = s.reader ∧
    (orderRefundStatus port s).adm = s.adm ∧ (orderRefundStatus port s).lanes = s.lanes ∧
    (orderRefundStatus port s).debounce = s.debounce ∧ (orderRefundStatus port s).load = s.load ∧
    (orderRefundStatus port s).counts = s.counts ∧ (orderRefundStatus port s).refund = s.refund ∧
    (orderRefundStatus port s).time = s.time ∧ (orderRefundStatus port s).supply = s.supply ∧
    (orderRefundStatus port s).free = s.free ∧ (orderRefundStatus port s).pending = s.pending := by
  refine ⟨?_, ?_, ?_, ?_, ?_, ?_, ?_, ?_, ?_, ?_, ?_, ?_⟩ <;> exact takeOrder_keeps _ (fun _ _ _ => rfl) _ _ _ _ _ (fun _ => by simp) _

@[simp] theorem journalReadBlock_frame (count : Nat) (s : State) :
    (journalReadBlock count s).state.table = s.table ∧ (journalReadBlock count s).state.reader = s.reader ∧
    (journalReadBlock count s).state.adm = s.adm ∧ (journalReadBlock count s).state.lanes = s.lanes ∧
    (journalReadBlock count s).state.debounce = s.debounce ∧ (journalReadBlock count s).state.load = s.load ∧
    (journalReadBlock count s).state.counts = s.counts ∧ (journalReadBlock count s).state.refund = s.refund ∧
    (journalReadBlock count s).state.time = s.time ∧ (journalReadBlock count s).state.ports = s.ports ∧
    (journalReadBlock count s).state.supply = s.supply ∧ (journalReadBlock count s).state.free = s.free ∧
    (journalReadBlock count s).state.pending = s.pending := by
  refine ⟨?_, ?_, ?_, ?_, ?_, ?_, ?_, ?_, ?_, ?_, ?_, ?_, ?_⟩ <;> (unfold journalReadBlock; (repeat' split) <;> simp)

@[simp] theorem orderJournalRead_frame (port : Port) (count : Byte) (s : State) :
    (orderJournalRead port count s).table = s.table ∧ (orderJournalRead port count s).reader = s.reader ∧
    (orderJournalRead port count s).adm = s.adm ∧ (orderJournalRead port count s).lanes = s.lanes ∧
    (orderJournalRead port count s).debounce = s.debounce ∧ (orderJournalRead port count s).load = s.load ∧
    (orderJournalRead port count s).counts = s.counts ∧ (orderJournalRead port count s).refund = s.refund ∧
    (orderJournalRead port count s).time = s.time ∧ (orderJournalRead port count s).supply = s.supply ∧
    (orderJournalRead port count s).free = s.free ∧ (orderJournalRead port count s).pending = s.pending := by
  refine ⟨?_, ?_, ?_, ?_, ?_, ?_, ?_, ?_, ?_, ?_, ?_, ?_⟩ <;> exact takeOrder_keeps _ (fun _ _ _ => rfl) _ _ _ _ _ (fun _ => by simp) _

@[simp] theorem journalRemoveBlock_frame (seq : Nat) (s : State) :
    (journalRemoveBlock seq s).state.table = s.table ∧ (journalRemoveBlock seq s).state.reader = s.reader ∧
    (journalRemoveBlock seq s).state.adm = s.adm ∧ (journalRemoveBlock seq s).state.lanes = s.lanes ∧
    (journalRemoveBlock seq s).state.debounce = s.debounce ∧ (journalRemoveBlock seq s).state.load = s.load ∧
    (journalRemoveBlock seq s).state.counts = s.counts ∧ (journalRemoveBlock seq s).state.time = s.time ∧
    (journalRemoveBlock seq s).state.ports = s.ports ∧ (journalRemoveBlock seq s).state.supply = s.supply ∧
    (journalRemoveBlock seq s).state.free = s.free ∧ (journalRemoveBlock seq s).state.pending = s.pending := by
  refine ⟨?_, ?_, ?_, ?_, ?_, ?_, ?_, ?_, ?_, ?_, ?_, ?_⟩ <;> (unfold journalRemoveBlock; (repeat' split) <;> simp)

@[simp] theorem orderJournalRemove_frame (port : Port) (seq : BitVec 16) (s : State) :
    (orderJournalRemove port seq s).table = s.table ∧ (orderJournalRemove port seq s).reader = s.reader ∧
    (orderJournalRemove port seq s).adm = s.adm ∧ (orderJournalRemove port seq s).lanes = s.lanes ∧
    (orderJournalRemove port seq s).debounce = s.debounce ∧ (orderJournalRemove port seq s).load = s.load ∧
    (orderJournalRemove port seq s).counts = s.counts ∧ (orderJournalRemove port seq s).time = s.time ∧
    (orderJournalRemove port seq s).supply = s.supply ∧ (orderJournalRemove port seq s).free = s.free ∧
    (orderJournalRemove port seq s).pending = s.pending := by
  refine ⟨?_, ?_, ?_, ?_, ?_, ?_, ?_, ?_, ?_, ?_, ?_⟩ <;> exact takeOrder_keeps _ (fun _ _ _ => rfl) _ _ _ _ _ (fun _ => by simp) _

@[simp] theorem State.rollover_frame (s : State) (day : Nat) :
    (s.rollover day).table = s.table ∧ (s.rollover day).reader = s.reader ∧ (s.rollover day).lanes = s.lanes ∧
    (s.rollover day).debounce = s.debounce ∧ (s.rollover day).load = s.load ∧ (s.rollover day).refund = s.refund ∧
    (s.rollover day).supply = s.supply ∧ (s.rollover day).free = s.free ∧ (s.rollover day).pending = s.pending := by
  refine ⟨?_, ?_, ?_, ?_, ?_, ?_, ?_, ?_, ?_⟩ <;> (unfold State.rollover; (repeat' split) <;> simp)

@[simp] theorem State.dayBoundary_frame (s : State) :
    (s.dayBoundary).table = s.table ∧ (s.dayBoundary).reader = s.reader ∧ (s.dayBoundary).lanes = s.lanes ∧
    (s.dayBoundary).debounce = s.debounce ∧ (s.dayBoundary).load = s.load ∧ (s.dayBoundary).refund = s.refund ∧
    (s.dayBoundary).supply = s.supply ∧ (s.dayBoundary).free = s.free ∧ (s.dayBoundary).pending = s.pending := by
  refine ⟨?_, ?_, ?_, ?_, ?_, ?_, ?_, ?_, ?_⟩ <;> (unfold State.dayBoundary; (repeat' split) <;> simp)

@[simp] theorem State.advanceTod_frame (s : State) (tod : Nat) :
    (s.advanceTod tod).table = s.table ∧ (s.advanceTod tod).reader = s.reader ∧ (s.advanceTod tod).lanes = s.lanes ∧
    (s.advanceTod tod).debounce = s.debounce ∧ (s.advanceTod tod).load = s.load ∧
    (s.advanceTod tod).refund = s.refund ∧ (s.advanceTod tod).supply = s.supply ∧ (s.advanceTod tod).free = s.free ∧
    (s.advanceTod tod).pending = s.pending := by
  refine ⟨?_, ?_, ?_, ?_, ?_, ?_, ?_, ?_, ?_⟩ <;> (unfold State.advanceTod; (try dsimp only); (repeat' split) <;> simp)

@[simp] theorem State.secondBoundary_frame (s : State) :
    (s.secondBoundary).table = s.table ∧ (s.secondBoundary).reader = s.reader ∧ (s.secondBoundary).lanes = s.lanes ∧
    (s.secondBoundary).debounce = s.debounce ∧ (s.secondBoundary).load = s.load ∧
    (s.secondBoundary).refund = s.refund ∧ (s.secondBoundary).supply = s.supply ∧ (s.secondBoundary).free = s.free ∧
    (s.secondBoundary).pending = s.pending := by
  refine ⟨?_, ?_, ?_, ?_, ?_, ?_, ?_, ?_, ?_⟩ <;> (unfold State.secondBoundary; (try dsimp only); (repeat' split) <;> simp)

@[simp] theorem State.setClock_frame (s : State) (day tod hour : Nat) :
    (s.setClock day tod hour).table = s.table ∧ (s.setClock day tod hour).reader = s.reader ∧
    (s.setClock day tod hour).lanes = s.lanes ∧ (s.setClock day tod hour).debounce = s.debounce ∧
    (s.setClock day tod hour).load = s.load ∧ (s.setClock day tod hour).refund = s.refund ∧
    (s.setClock day tod hour).supply = s.supply ∧ (s.setClock day tod hour).free = s.free ∧
    (s.setClock day tod hour).pending = s.pending := by
  refine ⟨?_, ?_, ?_, ?_, ?_, ?_, ?_, ?_, ?_⟩ <;> (unfold State.setClock; (try dsimp only); (repeat' split) <;> simp)

@[simp] theorem clockSetBlock_frame (day tod hour : Nat) (s : State) :
    (clockSetBlock day tod hour s).state.table = s.table ∧ (clockSetBlock day tod hour s).state.reader = s.reader ∧
    (clockSetBlock day tod hour s).state.lanes = s.lanes ∧
    (clockSetBlock day tod hour s).state.debounce = s.debounce ∧ (clockSetBlock day tod hour s).state.load = s.load ∧
    (clockSetBlock day tod hour s).state.refund = s.refund ∧ (clockSetBlock day tod hour s).state.supply = s.supply ∧
    (clockSetBlock day tod hour s).state.free = s.free ∧ (clockSetBlock day tod hour s).state.pending = s.pending := by
  refine ⟨?_, ?_, ?_, ?_, ?_, ?_, ?_, ?_, ?_⟩ <;> (unfold clockSetBlock; (repeat' split) <;> simp)

@[simp] theorem orderClockSet_frame (port : Port) (day : BitVec 16) (time : BitVec 24) (hour : Byte) (s : State) :
    (orderClockSet port day time hour s).table = s.table ∧ (orderClockSet port day time hour s).reader = s.reader ∧
    (orderClockSet port day time hour s).lanes = s.lanes ∧
    (orderClockSet port day time hour s).debounce = s.debounce ∧ (orderClockSet port day time hour s).load = s.load ∧
    (orderClockSet port day time hour s).refund = s.refund ∧ (orderClockSet port day time hour s).supply = s.supply ∧
    (orderClockSet port day time hour s).free = s.free ∧ (orderClockSet port day time hour s).pending = s.pending := by
  refine ⟨?_, ?_, ?_, ?_, ?_, ?_, ?_, ?_, ?_⟩ <;> exact takeOrder_keeps _ (fun _ _ _ => rfl) _ _ _ _ _ (fun _ => by simp) _

@[simp] theorem clockSyncBlock_frame (x : Option (SyncMode × Nat)) (s : State) :
    (clockSyncBlock x s).state.table = s.table ∧ (clockSyncBlock x s).state.reader = s.reader ∧
    (clockSyncBlock x s).state.adm = s.adm ∧ (clockSyncBlock x s).state.lanes = s.lanes ∧
    (clockSyncBlock x s).state.debounce = s.debounce ∧ (clockSyncBlock x s).state.load = s.load ∧
    (clockSyncBlock x s).state.counts = s.counts ∧ (clockSyncBlock x s).state.refund = s.refund ∧
    (clockSyncBlock x s).state.ports = s.ports ∧ (clockSyncBlock x s).state.supply = s.supply ∧
    (clockSyncBlock x s).state.free = s.free ∧ (clockSyncBlock x s).state.pending = s.pending := by
  refine ⟨?_, ?_, ?_, ?_, ?_, ?_, ?_, ?_, ?_, ?_, ?_, ?_⟩ <;> (unfold clockSyncBlock; (repeat' split) <;> simp)

@[simp] theorem orderClockSync_frame (port : Port) (mode window arm : Byte) (s : State) :
    (orderClockSync port mode window arm s).table = s.table ∧
    (orderClockSync port mode window arm s).reader = s.reader ∧ (orderClockSync port mode window arm s).adm = s.adm ∧
    (orderClockSync port mode window arm s).lanes = s.lanes ∧
    (orderClockSync port mode window arm s).debounce = s.debounce ∧
    (orderClockSync port mode window arm s).load = s.load ∧
    (orderClockSync port mode window arm s).counts = s.counts ∧
    (orderClockSync port mode window arm s).refund = s.refund ∧
    (orderClockSync port mode window arm s).supply = s.supply ∧
    (orderClockSync port mode window arm s).free = s.free ∧
    (orderClockSync port mode window arm s).pending = s.pending := by
  refine ⟨?_, ?_, ?_, ?_, ?_, ?_, ?_, ?_, ?_, ?_, ?_⟩ <;> exact takeOrder_keeps _ (fun _ _ _ => rfl) _ _ _ _ _ (fun _ => by simp) _

@[simp] theorem clockStatusBlock_frame (s : State) :
    (clockStatusBlock s).state.table = s.table ∧ (clockStatusBlock s).state.reader = s.reader ∧
    (clockStatusBlock s).state.adm = s.adm ∧ (clockStatusBlock s).state.lanes = s.lanes ∧
    (clockStatusBlock s).state.debounce = s.debounce ∧ (clockStatusBlock s).state.load = s.load ∧
    (clockStatusBlock s).state.counts = s.counts ∧ (clockStatusBlock s).state.refund = s.refund ∧
    (clockStatusBlock s).state.time = s.time ∧ (clockStatusBlock s).state.ports = s.ports ∧
    (clockStatusBlock s).state.supply = s.supply ∧ (clockStatusBlock s).state.free = s.free ∧
    (clockStatusBlock s).state.pending = s.pending := by
  refine ⟨?_, ?_, ?_, ?_, ?_, ?_, ?_, ?_, ?_, ?_, ?_, ?_, ?_⟩ <;> (unfold clockStatusBlock; (repeat' split) <;> simp)

@[simp] theorem orderClockStatus_frame (port : Port) (s : State) :
    (orderClockStatus port s).table = s.table ∧ (orderClockStatus port s).reader = s.reader ∧
    (orderClockStatus port s).adm = s.adm ∧ (orderClockStatus port s).lanes = s.lanes ∧
    (orderClockStatus port s).debounce = s.debounce ∧ (orderClockStatus port s).load = s.load ∧
    (orderClockStatus port s).counts = s.counts ∧ (orderClockStatus port s).refund = s.refund ∧
    (orderClockStatus port s).time = s.time ∧ (orderClockStatus port s).supply = s.supply ∧
    (orderClockStatus port s).free = s.free ∧ (orderClockStatus port s).pending = s.pending := by
  refine ⟨?_, ?_, ?_, ?_, ?_, ?_, ?_, ?_, ?_, ?_, ?_, ?_⟩ <;> exact takeOrder_keeps _ (fun _ _ _ => rfl) _ _ _ _ _ (fun _ => by simp) _

@[simp] theorem State.countDrift_frame (s : State) (e : Int) :
    (s.countDrift e).table = s.table ∧ (s.countDrift e).reader = s.reader ∧ (s.countDrift e).adm = s.adm ∧
    (s.countDrift e).lanes = s.lanes ∧ (s.countDrift e).debounce = s.debounce ∧ (s.countDrift e).load = s.load ∧
    (s.countDrift e).counts = s.counts ∧ (s.countDrift e).refund = s.refund ∧ (s.countDrift e).supply = s.supply ∧
    (s.countDrift e).free = s.free ∧ (s.countDrift e).pending = s.pending := by
  refine ⟨?_, ?_, ?_, ?_, ?_, ?_, ?_, ?_, ?_, ?_, ?_⟩ <;> (unfold State.countDrift; (repeat' split) <;> simp)

@[simp] theorem State.actOnPulse_frame (s : State) (e : Int) :
    (s.actOnPulse e).table = s.table ∧ (s.actOnPulse e).reader = s.reader ∧ (s.actOnPulse e).adm = s.adm ∧
    (s.actOnPulse e).lanes = s.lanes ∧ (s.actOnPulse e).debounce = s.debounce ∧ (s.actOnPulse e).load = s.load ∧
    (s.actOnPulse e).counts = s.counts ∧ (s.actOnPulse e).refund = s.refund ∧ (s.actOnPulse e).supply = s.supply ∧
    (s.actOnPulse e).free = s.free ∧ (s.actOnPulse e).pending = s.pending := by
  refine ⟨?_, ?_, ?_, ?_, ?_, ?_, ?_, ?_, ?_, ?_, ?_⟩ <;> (unfold State.actOnPulse; (repeat' split) <;> simp)

@[simp] theorem State.countedPulse_frame (s : State) :
    (s.countedPulse).table = s.table ∧ (s.countedPulse).reader = s.reader ∧ (s.countedPulse).adm = s.adm ∧
    (s.countedPulse).lanes = s.lanes ∧ (s.countedPulse).debounce = s.debounce ∧ (s.countedPulse).load = s.load ∧
    (s.countedPulse).counts = s.counts ∧ (s.countedPulse).refund = s.refund ∧ (s.countedPulse).supply = s.supply ∧
    (s.countedPulse).free = s.free ∧ (s.countedPulse).pending = s.pending := by
  refine ⟨?_, ?_, ?_, ?_, ?_, ?_, ?_, ?_, ?_, ?_, ?_⟩ <;> (unfold State.countedPulse; (repeat' split) <;> simp)

@[simp] theorem supplyStatusBlock_frame (s : State) :
    (supplyStatusBlock s).state.table = s.table ∧ (supplyStatusBlock s).state.reader = s.reader ∧
    (supplyStatusBlock s).state.adm = s.adm ∧ (supplyStatusBlock s).state.lanes = s.lanes ∧
    (supplyStatusBlock s).state.debounce = s.debounce ∧ (supplyStatusBlock s).state.load = s.load ∧
    (supplyStatusBlock s).state.counts = s.counts ∧ (supplyStatusBlock s).state.refund = s.refund ∧
    (supplyStatusBlock s).state.time = s.time ∧ (supplyStatusBlock s).state.ports = s.ports ∧
    (supplyStatusBlock s).state.supply = s.supply ∧ (supplyStatusBlock s).state.free = s.free ∧
    (supplyStatusBlock s).state.pending = s.pending := by
  refine ⟨?_, ?_, ?_, ?_, ?_, ?_, ?_, ?_, ?_, ?_, ?_, ?_, ?_⟩ <;> (unfold supplyStatusBlock; (repeat' split) <;> simp)

@[simp] theorem orderSupplyStatus_frame (port : Port) (s : State) :
    (orderSupplyStatus port s).table = s.table ∧ (orderSupplyStatus port s).reader = s.reader ∧
    (orderSupplyStatus port s).adm = s.adm ∧ (orderSupplyStatus port s).lanes = s.lanes ∧
    (orderSupplyStatus port s).debounce = s.debounce ∧ (orderSupplyStatus port s).load = s.load ∧
    (orderSupplyStatus port s).counts = s.counts ∧ (orderSupplyStatus port s).refund = s.refund ∧
    (orderSupplyStatus port s).time = s.time ∧ (orderSupplyStatus port s).supply = s.supply ∧
    (orderSupplyStatus port s).free = s.free ∧ (orderSupplyStatus port s).pending = s.pending := by
  refine ⟨?_, ?_, ?_, ?_, ?_, ?_, ?_, ?_, ?_, ?_, ?_, ?_⟩ <;> exact takeOrder_keeps _ (fun _ _ _ => rfl) _ _ _ _ _ (fun _ => by simp) _

@[simp] theorem State.enterLow_frame (s : State) :
    (s.enterLow).debounce = s.debounce ∧ (s.enterLow).refund = s.refund ∧ (s.enterLow).time = s.time ∧
    (s.enterLow).free = s.free ∧ (s.enterLow).pending = s.pending := by
  refine ⟨?_, ?_, ?_, ?_, ?_⟩ <;> (unfold State.enterLow; (repeat' split) <;> simp)

@[simp] theorem State.enterDown_frame (s : State) :
    (s.enterDown).debounce = s.debounce ∧ (s.enterDown).refund = s.refund ∧ (s.enterDown).time = s.time ∧
    (s.enterDown).free = s.free ∧ (s.enterDown).pending = s.pending := by
  refine ⟨?_, ?_, ?_, ?_, ?_⟩ <;> (unfold State.enterDown; (repeat' split) <;> simp)

@[simp] theorem State.monitorRunning_frame (s : State) :
    (s.monitorRunning).debounce = s.debounce ∧ (s.monitorRunning).refund = s.refund ∧
    (s.monitorRunning).time = s.time ∧ (s.monitorRunning).free = s.free ∧ (s.monitorRunning).pending = s.pending := by
  refine ⟨?_, ?_, ?_, ?_, ?_⟩ <;> (unfold State.monitorRunning; (repeat' split) <;> simp)

@[simp] theorem State.enterRun_frame (s : State) :
    (s.enterRun).debounce = s.debounce ∧ (s.enterRun).refund = s.refund ∧ (s.enterRun).time = s.time ∧
    (s.enterRun).free = s.free ∧ (s.enterRun).pending = s.pending := by
  refine ⟨?_, ?_, ?_, ?_, ?_⟩ <;> (unfold State.enterRun; (repeat' split) <;> simp)

@[simp] theorem State.clearNotices_frame (s : State) (p : Port) :
    (s.clearNotices p).table = s.table ∧ (s.clearNotices p).reader = s.reader ∧ (s.clearNotices p).adm = s.adm ∧
    (s.clearNotices p).lanes = s.lanes ∧ (s.clearNotices p).debounce = s.debounce ∧
    (s.clearNotices p).load = s.load ∧ (s.clearNotices p).counts = s.counts ∧ (s.clearNotices p).refund = s.refund ∧
    (s.clearNotices p).time = s.time ∧ (s.clearNotices p).supply = s.supply ∧ (s.clearNotices p).free = s.free ∧
    (s.clearNotices p).pending = s.pending := by
  refine ⟨?_, ?_, ?_, ?_, ?_, ?_, ?_, ?_, ?_, ?_, ?_, ?_⟩ <;> (unfold State.clearNotices; (repeat' split) <;> simp)

@[simp] theorem State.raiseJournalAgain_frame (s : State) (p : Port) :
    (s.raiseJournalAgain p).table = s.table ∧ (s.raiseJournalAgain p).reader = s.reader ∧
    (s.raiseJournalAgain p).adm = s.adm ∧ (s.raiseJournalAgain p).lanes = s.lanes ∧
    (s.raiseJournalAgain p).debounce = s.debounce ∧ (s.raiseJournalAgain p).load = s.load ∧
    (s.raiseJournalAgain p).counts = s.counts ∧ (s.raiseJournalAgain p).refund = s.refund ∧
    (s.raiseJournalAgain p).time = s.time ∧ (s.raiseJournalAgain p).supply = s.supply ∧
    (s.raiseJournalAgain p).free = s.free ∧ (s.raiseJournalAgain p).pending = s.pending := by
  refine ⟨?_, ?_, ?_, ?_, ?_, ?_, ?_, ?_, ?_, ?_, ?_, ?_⟩ <;> (unfold State.raiseJournalAgain; (repeat' split) <;> simp)

@[simp] theorem noticeFetchBlock_frame (p : Port) (s : State) :
    (noticeFetchBlock p s).state.table = s.table ∧ (noticeFetchBlock p s).state.reader = s.reader ∧
    (noticeFetchBlock p s).state.adm = s.adm ∧ (noticeFetchBlock p s).state.lanes = s.lanes ∧
    (noticeFetchBlock p s).state.debounce = s.debounce ∧ (noticeFetchBlock p s).state.load = s.load ∧
    (noticeFetchBlock p s).state.counts = s.counts ∧ (noticeFetchBlock p s).state.refund = s.refund ∧
    (noticeFetchBlock p s).state.time = s.time ∧ (noticeFetchBlock p s).state.supply = s.supply ∧
    (noticeFetchBlock p s).state.free = s.free ∧ (noticeFetchBlock p s).state.pending = s.pending := by
  refine ⟨?_, ?_, ?_, ?_, ?_, ?_, ?_, ?_, ?_, ?_, ?_, ?_⟩ <;> (unfold noticeFetchBlock; (repeat' split) <;> simp)

@[simp] theorem orderNoticeFetch_frame (port : Port) (s : State) :
    (orderNoticeFetch port s).table = s.table ∧ (orderNoticeFetch port s).reader = s.reader ∧
    (orderNoticeFetch port s).adm = s.adm ∧ (orderNoticeFetch port s).lanes = s.lanes ∧
    (orderNoticeFetch port s).debounce = s.debounce ∧ (orderNoticeFetch port s).load = s.load ∧
    (orderNoticeFetch port s).counts = s.counts ∧ (orderNoticeFetch port s).refund = s.refund ∧
    (orderNoticeFetch port s).time = s.time ∧ (orderNoticeFetch port s).supply = s.supply ∧
    (orderNoticeFetch port s).free = s.free ∧ (orderNoticeFetch port s).pending = s.pending := by
  refine ⟨?_, ?_, ?_, ?_, ?_, ?_, ?_, ?_, ?_, ?_, ?_, ?_⟩ <;> exact takeOrder_keeps _ (fun _ _ _ => rfl) _ _ _ _ _ (fun _ => by simp) _

@[simp] theorem noticeMaskBlock_frame (p : Port) (mask : BitVec 16) (s : State) :
    (noticeMaskBlock p mask s).state.table = s.table ∧ (noticeMaskBlock p mask s).state.reader = s.reader ∧
    (noticeMaskBlock p mask s).state.adm = s.adm ∧ (noticeMaskBlock p mask s).state.lanes = s.lanes ∧
    (noticeMaskBlock p mask s).state.debounce = s.debounce ∧ (noticeMaskBlock p mask s).state.load = s.load ∧
    (noticeMaskBlock p mask s).state.counts = s.counts ∧ (noticeMaskBlock p mask s).state.refund = s.refund ∧
    (noticeMaskBlock p mask s).state.time = s.time ∧ (noticeMaskBlock p mask s).state.supply = s.supply ∧
    (noticeMaskBlock p mask s).state.free = s.free ∧ (noticeMaskBlock p mask s).state.pending = s.pending := by
  refine ⟨?_, ?_, ?_, ?_, ?_, ?_, ?_, ?_, ?_, ?_, ?_, ?_⟩ <;> (unfold noticeMaskBlock; (repeat' split) <;> simp)

@[simp] theorem orderNoticeMask_frame (port : Port) (mask : BitVec 16) (s : State) :
    (orderNoticeMask port mask s).table = s.table ∧ (orderNoticeMask port mask s).reader = s.reader ∧
    (orderNoticeMask port mask s).adm = s.adm ∧ (orderNoticeMask port mask s).lanes = s.lanes ∧
    (orderNoticeMask port mask s).debounce = s.debounce ∧ (orderNoticeMask port mask s).load = s.load ∧
    (orderNoticeMask port mask s).counts = s.counts ∧ (orderNoticeMask port mask s).refund = s.refund ∧
    (orderNoticeMask port mask s).time = s.time ∧ (orderNoticeMask port mask s).supply = s.supply ∧
    (orderNoticeMask port mask s).free = s.free ∧ (orderNoticeMask port mask s).pending = s.pending := by
  refine ⟨?_, ?_, ?_, ?_, ?_, ?_, ?_, ?_, ?_, ?_, ?_, ?_⟩ <;> exact takeOrder_keeps _ (fun _ _ _ => rfl) _ _ _ _ _ (fun _ => by simp) _

@[simp] theorem identBlock_frame (p : Port) (s : State) :
    (identBlock p s).state.table = s.table ∧ (identBlock p s).state.reader = s.reader ∧
    (identBlock p s).state.adm = s.adm ∧ (identBlock p s).state.lanes = s.lanes ∧
    (identBlock p s).state.debounce = s.debounce ∧ (identBlock p s).state.load = s.load ∧
    (identBlock p s).state.counts = s.counts ∧ (identBlock p s).state.refund = s.refund ∧
    (identBlock p s).state.time = s.time ∧ (identBlock p s).state.ports = s.ports ∧
    (identBlock p s).state.supply = s.supply ∧ (identBlock p s).state.free = s.free ∧
    (identBlock p s).state.pending = s.pending := by
  refine ⟨?_, ?_, ?_, ?_, ?_, ?_, ?_, ?_, ?_, ?_, ?_, ?_, ?_⟩ <;> (unfold identBlock; (repeat' split) <;> simp)

@[simp] theorem orderIdent_frame (port : Port) (s : State) :
    (orderIdent port s).table = s.table ∧ (orderIdent port s).reader = s.reader ∧ (orderIdent port s).adm = s.adm ∧
    (orderIdent port s).lanes = s.lanes ∧ (orderIdent port s).debounce = s.debounce ∧
    (orderIdent port s).load = s.load ∧ (orderIdent port s).counts = s.counts ∧
    (orderIdent port s).refund = s.refund ∧ (orderIdent port s).time = s.time ∧
    (orderIdent port s).supply = s.supply ∧ (orderIdent port s).free = s.free ∧
    (orderIdent port s).pending = s.pending := by
  refine ⟨?_, ?_, ?_, ?_, ?_, ?_, ?_, ?_, ?_, ?_, ?_, ?_⟩ <;> exact takeOrder_keeps _ (fun _ _ _ => rfl) _ _ _ _ _ (fun _ => by simp) _

@[simp] theorem orderEffect_frame (i : Instr) (s : State) :
    (orderEffect i s).supply = s.supply ∧ (orderEffect i s).free = s.free ∧ (orderEffect i s).pending = s.pending := by
  refine ⟨?_, ?_, ?_⟩ <;> (unfold orderEffect; (repeat' split) <;> simp)

@[simp] theorem State.refuseFrame_frame (s : State) (p : Port) (code : Byte) (res : Result) :
    (s.refuseFrame p code res).table = s.table ∧ (s.refuseFrame p code res).reader = s.reader ∧
    (s.refuseFrame p code res).adm = s.adm ∧ (s.refuseFrame p code res).lanes = s.lanes ∧
    (s.refuseFrame p code res).debounce = s.debounce ∧ (s.refuseFrame p code res).load = s.load ∧
    (s.refuseFrame p code res).counts = s.counts ∧ (s.refuseFrame p code res).refund = s.refund ∧
    (s.refuseFrame p code res).time = s.time ∧ (s.refuseFrame p code res).supply = s.supply ∧
    (s.refuseFrame p code res).free = s.free ∧ (s.refuseFrame p code res).pending = s.pending := by
  refine ⟨?_, ?_, ?_, ?_, ?_, ?_, ?_, ?_, ?_, ?_, ?_, ?_⟩ <;> (unfold State.refuseFrame; (repeat' split) <;> simp)

@[simp] theorem orderEffectOf_frame (p : Port) (code : Byte) (body : List Byte) (s : State) :
    (orderEffectOf p code body s).supply = s.supply ∧ (orderEffectOf p code body s).free = s.free ∧
    (orderEffectOf p code body s).pending = s.pending := by
  refine ⟨?_, ?_, ?_⟩ <;> (unfold orderEffectOf; (repeat' split) <;> simp)

@[simp] theorem checkFrame_frame (p : Port) (code : Byte) (bytes : List Byte) (insideByte : Bool) (s : State) :
    (checkFrame p code bytes insideByte s).supply = s.supply ∧ (checkFrame p code bytes insideByte s).free = s.free ∧
    (checkFrame p code bytes insideByte s).pending = s.pending := by
  refine ⟨?_, ?_, ?_⟩ <;> (unfold checkFrame; (repeat' split) <;> simp)

@[simp] theorem State.takeFrame_frame (s : State) (p : Port) (bytes : List Byte) (insideByte : Bool) :
    (s.takeFrame p bytes insideByte).supply = s.supply ∧ (s.takeFrame p bytes insideByte).pending = s.pending := by
  refine ⟨?_, ?_⟩ <;> (unfold State.takeFrame; (repeat' split) <;> simp)

@[simp] theorem State.tick_frame (s : State) :
    (s.tick).table = s.table ∧ (s.tick).reader = s.reader ∧ (s.tick).adm = s.adm ∧ (s.tick).lanes = s.lanes ∧
    (s.tick).debounce = s.debounce ∧ (s.tick).load = s.load ∧ (s.tick).counts = s.counts ∧
    (s.tick).refund = s.refund ∧ (s.tick).ports = s.ports ∧ (s.tick).pending = s.pending := by
  refine ⟨?_, ?_, ?_, ?_, ?_, ?_, ?_, ?_, ?_, ?_⟩ <;> (unfold State.tick; (repeat' split) <;> simp)

end Sys2Proof.Machine
end

