-- ==== Sys2Proof/Laws/Views.lean ====
section
/-! SUPPORT. What the shared operations leave of the views of the state that statements use: a port, a lane, the record of a
pass, and whether the part is stopped. Each follows from the operation's frame (Sys2Proof/Laws/Frames.lean). -/

namespace Sys2Proof.Machine

@[simp] theorem State.raiseBits_views (s : State) (p : Port) (m : BitVec 16) :
    (∀ n : Lane, (s.raiseBits p m).lane n = s.lane n) ∧ (∀ q : PassNo, (s.raiseBits p m).record q = s.record q) ∧
    (s.raiseBits p m).stopped = s.stopped :=
  ⟨fun _ => by simp [State.lane], fun _ => by simp [State.record], by simp [State.stopped]⟩

@[simp] theorem State.raiseLane_views (s : State) (n : Lane) (x : LaneNotice) :
    (∀ m : Lane, (s.raiseLane n x).lane m = s.lane m) ∧ (∀ p : PassNo, (s.raiseLane n x).record p = s.record p) ∧
    (s.raiseLane n x).stopped = s.stopped :=
  ⟨fun _ => by simp [State.lane], fun _ => by simp [State.record], by simp [State.stopped]⟩

@[simp] theorem State.raiseStation_views (s : State) (x : StationNotice) :
    (∀ n : Lane, (s.raiseStation x).lane n = s.lane n) ∧ (∀ p : PassNo, (s.raiseStation x).record p = s.record p) ∧
    (s.raiseStation x).stopped = s.stopped :=
  ⟨fun _ => by simp [State.lane], fun _ => by simp [State.record], by simp [State.stopped]⟩

@[simp] theorem State.raiseAt_views (s : State) (pos : Position) (x : LaneNotice) :
    (∀ n : Lane, (s.raiseAt pos x).lane n = s.lane n) ∧ (∀ p : PassNo, (s.raiseAt pos x).record p = s.record p) ∧
    (s.raiseAt pos x).stopped = s.stopped :=
  ⟨fun _ => by simp [State.lane], fun _ => by simp [State.record], by simp [State.stopped]⟩

@[simp] theorem State.replyNow_views (s : State) (p : Port) (code : Byte) (done : DoneNotice) (res : Result) (body : Body) :
    (∀ n : Lane, (s.replyNow p code done res body).lane n = s.lane n) ∧
    (∀ q : PassNo, (s.replyNow p code done res body).record q = s.record q) ∧
    (s.replyNow p code done res body).stopped = s.stopped :=
  ⟨fun _ => by simp [State.lane], fun _ => by simp [State.record], by simp [State.stopped]⟩

@[simp] theorem State.completeLong_views (s : State) (res : Result) (body : Body) :
    (∀ n : Lane, (s.completeLong res body).lane n = s.lane n) ∧
    (∀ p : PassNo, (s.completeLong res body).record p = s.record p) ∧ (s.completeLong res body).stopped = s.stopped :=
  ⟨fun _ => by simp [State.lane], fun _ => by simp [State.record], by simp [State.stopped]⟩

@[simp] theorem State.updateRecord_views (s : State) (p : PassNo) (f : PassRecord → PassRecord) :
    (∀ q : Port, (s.updateRecord p f).port q = s.port q) ∧ (∀ n : Lane, (s.updateRecord p f).lane n = s.lane n) ∧
    (s.updateRecord p f).stopped = s.stopped :=
  ⟨fun _ => by simp [State.port], fun _ => by simp [State.lane], by simp [State.stopped]⟩

@[simp] theorem State.seeRecord_views (s : State) (p : PassNo) :
    (∀ q : Port, (s.seeRecord p).port q = s.port q) ∧ (∀ n : Lane, (s.seeRecord p).lane n = s.lane n) ∧
    (s.seeRecord p).stopped = s.stopped :=
  ⟨fun _ => by simp [State.port], fun _ => by simp [State.lane], by simp [State.stopped]⟩

@[simp] theorem State.countLane_views (s : State) (n : Lane) (f : LaneCounts → LaneCounts) :
    (∀ p : Port, (s.countLane n f).port p = s.port p) ∧ (∀ m : Lane, (s.countLane n f).lane m = s.lane m) ∧
    (∀ p : PassNo, (s.countLane n f).record p = s.record p) ∧ (s.countLane n f).stopped = s.stopped :=
  ⟨fun _ => by simp [State.port], fun _ => by simp [State.lane], fun _ => by simp [State.record], by simp [State.stopped]⟩

@[simp] theorem State.countLift_views (s : State) (f : LiftCounts → LiftCounts) :
    (∀ p : Port, (s.countLift f).port p = s.port p) ∧ (∀ n : Lane, (s.countLift f).lane n = s.lane n) ∧
    (∀ p : PassNo, (s.countLift f).record p = s.record p) ∧ (s.countLift f).stopped = s.stopped :=
  ⟨fun _ => by simp [State.port], fun _ => by simp [State.lane], fun _ => by simp [State.record], by simp [State.stopped]⟩

@[simp] theorem State.countRefusal_views (s : State) (n : Lane) (r : RefuseReason) :
    (∀ p : Port, (s.countRefusal n r).port p = s.port p) ∧ (∀ m : Lane, (s.countRefusal n r).lane m = s.lane m) ∧
    (∀ p : PassNo, (s.countRefusal n r).record p = s.record p) ∧ (s.countRefusal n r).stopped = s.stopped :=
  ⟨fun _ => by simp [State.port], fun _ => by simp [State.lane], fun _ => by simp [State.record], by simp [State.stopped]⟩

@[simp] theorem State.countPassage_views (s : State) (n : Lane) (f : LaneCounts → LaneCounts) :
    (∀ p : Port, (s.countPassage n f).port p = s.port p) ∧ (∀ m : Lane, (s.countPassage n f).lane m = s.lane m) ∧
    (∀ p : PassNo, (s.countPassage n f).record p = s.record p) ∧ (s.countPassage n f).stopped = s.stopped :=
  ⟨fun _ => by simp [State.port], fun _ => by simp [State.lane], fun _ => by simp [State.record], by simp [State.stopped]⟩

@[simp] theorem State.occupancyUp_views (s : State) :
    (∀ p : Port, (s.occupancyUp).port p = s.port p) ∧ (∀ n : Lane, (s.occupancyUp).lane n = s.lane n) ∧
    (∀ p : PassNo, (s.occupancyUp).record p = s.record p) ∧ (s.occupancyUp).stopped = s.stopped :=
  ⟨fun _ => by simp [State.port], fun _ => by simp [State.lane], fun _ => by simp [State.record], by simp [State.stopped]⟩

@[simp] theorem State.occupancyDown_views (s : State) :
    (∀ p : Port, (s.occupancyDown).port p = s.port p) ∧ (∀ n : Lane, (s.occupancyDown).lane n = s.lane n) ∧
    (∀ p : PassNo, (s.occupancyDown).record p = s.record p) ∧ (s.occupancyDown).stopped = s.stopped :=
  ⟨fun _ => by simp [State.port], fun _ => by simp [State.lane], fun _ => by simp [State.record], by simp [State.stopped]⟩

@[simp] theorem State.startVisit_views (s : State) (v : Visit) :
    (∀ p : Port, (s.startVisit v).port p = s.port p) ∧ (∀ n : Lane, (s.startVisit v).lane n = s.lane n) ∧
    (∀ p : PassNo, (s.startVisit v).record p = s.record p) ∧ (s.startVisit v).stopped = s.stopped :=
  ⟨fun _ => by simp [State.port], fun _ => by simp [State.lane], fun _ => by simp [State.record], by simp [State.stopped]⟩

@[simp] theorem State.startScan_views (s : State) (n : Lane) :
    (∀ p : Port, (s.startScan n).port p = s.port p) ∧ (∀ m : Lane, (s.startScan n).lane m = s.lane m) ∧
    (∀ p : PassNo, (s.startScan n).record p = s.record p) ∧ (s.startScan n).stopped = s.stopped :=
  ⟨fun _ => by simp [State.port], fun _ => by simp [State.lane], fun _ => by simp [State.record], by simp [State.stopped]⟩

@[simp] theorem State.arbiter_views (s : State) :
    (∀ p : Port, (s.arbiter).port p = s.port p) ∧ (∀ n : Lane, (s.arbiter).lane n = s.lane n) ∧
    (∀ p : PassNo, (s.arbiter).record p = s.record p) ∧ (s.arbiter).stopped = s.stopped :=
  ⟨fun _ => by simp [State.port], fun _ => by simp [State.lane], fun _ => by simp [State.record], by simp [State.stopped]⟩

@[simp] theorem State.requestLaneStamp_views (s : State) (r : StampReq) :
    (∀ p : Port, (s.requestLaneStamp r).port p = s.port p) ∧ (∀ n : Lane, (s.requestLaneStamp r).lane n = s.lane n) ∧
    (∀ p : PassNo, (s.requestLaneStamp r).record p = s.record p) ∧ (s.requestLaneStamp r).stopped = s.stopped :=
  ⟨fun _ => by simp [State.port], fun _ => by simp [State.lane], fun _ => by simp [State.record], by simp [State.stopped]⟩

@[simp] theorem State.requestTune_views (s : State) (a : Antenna) :
    (∀ p : Port, (s.requestTune a).port p = s.port p) ∧ (∀ n : Lane, (s.requestTune a).lane n = s.lane n) ∧
    (∀ p : PassNo, (s.requestTune a).record p = s.record p) ∧ (s.requestTune a).stopped = s.stopped :=
  ⟨fun _ => by simp [State.port], fun _ => by simp [State.lane], fun _ => by simp [State.record], by simp [State.stopped]⟩

@[simp] theorem State.orderTune_views (s : State) (a : Antenna) :
    (∀ p : Port, (s.orderTune a).port p = s.port p) ∧ (∀ n : Lane, (s.orderTune a).lane n = s.lane n) ∧
    (∀ p : PassNo, (s.orderTune a).record p = s.record p) ∧ (s.orderTune a).stopped = s.stopped :=
  ⟨fun _ => by simp [State.port], fun _ => by simp [State.lane], fun _ => by simp [State.record], by simp [State.stopped]⟩

@[simp] theorem State.applyCollide_views (s : State) (p : Position) (o : VisitOutcome) :
    (∀ n : Lane, (s.applyCollide p o).lane n = s.lane n) ∧
    (∀ q : PassNo, (s.applyCollide p o).record q = s.record q) ∧ (s.applyCollide p o).stopped = s.stopped :=
  ⟨fun _ => by simp [State.lane], fun _ => by simp [State.record], by simp [State.stopped]⟩

@[simp] theorem State.applyFaults_views (s : State) (p : Position) (a : Antenna) (o : VisitOutcome) :
    (∀ n : Lane, (s.applyFaults p a o).lane n = s.lane n) ∧
    (∀ q : PassNo, (s.applyFaults p a o).record q = s.record q) ∧ (s.applyFaults p a o).stopped = s.stopped :=
  ⟨fun _ => by simp [State.lane], fun _ => by simp [State.record], by simp [State.stopped]⟩

@[simp] theorem State.applyClip_views (s : State) (a : Antenna) (o : VisitOutcome) :
    (∀ p : Port, (s.applyClip a o).port p = s.port p) ∧ (∀ n : Lane, (s.applyClip a o).lane n = s.lane n) ∧
    (∀ p : PassNo, (s.applyClip a o).record p = s.record p) ∧ (s.applyClip a o).stopped = s.stopped :=
  ⟨fun _ => by simp [State.port], fun _ => by simp [State.lane], fun _ => by simp [State.record], by simp [State.stopped]⟩

@[simp] theorem State.applyOutcome_views (s : State) (p : Position) (a : Antenna) (o : VisitOutcome) :
    (∀ n : Lane, (s.applyOutcome p a o).lane n = s.lane n) ∧
    (∀ q : PassNo, (s.applyOutcome p a o).record q = s.record q) ∧ (s.applyOutcome p a o).stopped = s.stopped :=
  ⟨fun _ => by simp [State.lane], fun _ => by simp [State.record], by simp [State.stopped]⟩

@[simp] theorem State.startSignal_views (s : State) (n : Lane) (k : SignalKind) :
    (∀ p : Port, (s.startSignal n k).port p = s.port p) ∧ (∀ p : PassNo, (s.startSignal n k).record p = s.record p) ∧
    (s.startSignal n k).stopped = s.stopped :=
  ⟨fun _ => by simp [State.port], fun _ => by simp [State.record], by simp [State.stopped]⟩

@[simp] theorem State.startTone_views (s : State) (n : Lane) (p : Pattern) :
    (∀ q : Port, (s.startTone n p).port q = s.port q) ∧ (∀ q : PassNo, (s.startTone n p).record q = s.record q) ∧
    (s.startTone n p).stopped = s.stopped :=
  ⟨fun _ => by simp [State.port], fun _ => by simp [State.record], by simp [State.stopped]⟩

@[simp] theorem State.putVerdict_views (s : State) (n : Lane) (v : Verdict) :
    (∀ p : PassNo, (s.putVerdict n v).record p = s.record p) ∧ (s.putVerdict n v).stopped = s.stopped :=
  ⟨fun _ => by simp [State.record], by simp [State.stopped]⟩

@[simp] theorem State.putReport_views (s : State) (n : Lane) (k : ReportKind) (p : PassNo) :
    (∀ q : PassNo, (s.putReport n k p).record q = s.record q) ∧ (s.putReport n k p).stopped = s.stopped :=
  ⟨fun _ => by simp [State.record], by simp [State.stopped]⟩

@[simp] theorem State.unpin_views (s : State) (n : Lane) (p : PassNo) :
    (∀ q : Port, (s.unpin n p).port q = s.port q) ∧ (∀ m : Lane, (s.unpin n p).lane m = s.lane m) ∧
    (s.unpin n p).stopped = s.stopped :=
  ⟨fun _ => by simp [State.port], fun _ => by simp [State.lane], by simp [State.stopped]⟩

@[simp] theorem State.beginContext_views (s : State) (n : Lane) (c : Context) (note : Note) :
    (∀ p : Port, (s.beginContext n c note).port p = s.port p) ∧
    (∀ p : PassNo, (s.beginContext n c note).record p = s.record p) ∧ (s.beginContext n c note).stopped = s.stopped :=
  ⟨fun _ => by simp [State.port], fun _ => by simp [State.record], by simp [State.stopped]⟩

@[simp] theorem State.endContext_views (s : State) (n : Lane) :
    (∀ p : Port, (s.endContext n).port p = s.port p) ∧ (s.endContext n).stopped = s.stopped :=
  ⟨fun _ => by simp [State.port], by simp [State.stopped]⟩

@[simp] theorem State.grantLane_views (s : State) (n : Lane) :
    (∀ p : Port, (s.grantLane n).port p = s.port p) ∧ (∀ p : PassNo, (s.grantLane n).record p = s.record p) ∧
    (s.grantLane n).stopped = s.stopped :=
  ⟨fun _ => by simp [State.port], fun _ => by simp [State.record], by simp [State.stopped]⟩

@[simp] theorem State.grantActions_views (s : State) (n : Lane) (p : PassNo) (d : NoteData) :
    (∀ q : Port, (s.grantActions n p d).port q = s.port q) ∧ (∀ m : Lane, (s.grantActions n p d).lane m = s.lane m) ∧
    (s.grantActions n p d).stopped = s.stopped :=
  ⟨fun _ => by simp [State.port], fun _ => by simp [State.lane], by simp [State.stopped]⟩

@[simp] theorem State.grant_views (s : State) (n : Lane) :
    (∀ p : Port, (s.grant n).port p = s.port p) ∧ (s.grant n).stopped = s.stopped :=
  ⟨fun _ => by simp [State.port], by simp [State.stopped]⟩

@[simp] theorem State.requestRelease_views (s : State) (n : Lane) (p : PassNo) (cls : Nat) :
    (∀ q : Port, (s.requestRelease n p cls).port q = s.port q) ∧ (s.requestRelease n p cls).stopped = s.stopped :=
  ⟨fun _ => by simp [State.port], by simp [State.stopped]⟩

@[simp] theorem State.grantHead_views (s : State) (n : Lane) :
    (s.grantHead n).stopped = s.stopped :=
  by simp [State.stopped]

@[simp] theorem State.serviceStep_views (s : State) :
    (s.serviceStep).stopped = s.stopped :=
  by simp [State.stopped]

@[simp] theorem State.withdraw_views (s : State) (n : Lane) (r : WithdrawReason) :
    (s.withdraw n r).stopped = s.stopped :=
  by simp [State.stopped]

@[simp] theorem State.withdrawAll_views (s : State) :
    (s.withdrawAll).stopped = s.stopped :=
  by simp [State.stopped]

@[simp] theorem State.handWithdrawal_views (s : State) (n : Lane) (r : WithdrawReason) :
    (∀ p : Port, (s.handWithdrawal n r).port p = s.port p) ∧ (∀ m : Lane, (s.handWithdrawal n r).lane m = s.lane m) ∧
    (∀ p : PassNo, (s.handWithdrawal n r).record p = s.record p) ∧ (s.handWithdrawal n r).stopped = s.stopped :=
  ⟨fun _ => by simp [State.port], fun _ => by simp [State.lane], fun _ => by simp [State.record], by simp [State.stopped]⟩

@[simp] theorem State.withCtx_views (s : State) (c : RefundCtx) :
    (∀ p : Port, (s.withCtx c).port p = s.port p) ∧ (∀ n : Lane, (s.withCtx c).lane n = s.lane n) ∧
    (∀ p : PassNo, (s.withCtx c).record p = s.record p) ∧ (s.withCtx c).stopped = s.stopped :=
  ⟨fun _ => by simp [State.port], fun _ => by simp [State.lane], fun _ => by simp [State.record], by simp [State.stopped]⟩

@[simp] theorem State.endQuote_views (s : State) (e : QuoteEnd) :
    (∀ p : Port, (s.endQuote e).port p = s.port p) ∧ (∀ n : Lane, (s.endQuote e).lane n = s.lane n) ∧
    (∀ p : PassNo, (s.endQuote e).record p = s.record p) ∧ (s.endQuote e).stopped = s.stopped :=
  ⟨fun _ => by simp [State.port], fun _ => by simp [State.lane], fun _ => by simp [State.record], by simp [State.stopped]⟩

@[simp] theorem State.endHold_views (s : State) (q : StandingQuote) (e : QuoteEnd) :
    (∀ p : Port, (s.endHold q e).port p = s.port p) ∧ (∀ n : Lane, (s.endHold q e).lane n = s.lane n) ∧
    (s.endHold q e).stopped = s.stopped :=
  ⟨fun _ => by simp [State.port], fun _ => by simp [State.lane], by simp [State.stopped]⟩

@[simp] theorem State.expireHold_views (s : State) (q : StandingQuote) :
    (∀ n : Lane, (s.expireHold q).lane n = s.lane n) ∧ (s.expireHold q).stopped = s.stopped :=
  ⟨fun _ => by simp [State.lane], by simp [State.stopped]⟩

@[simp] theorem State.refuseQuote_views (s : State) (res : Result) (b : Body) :
    (∀ n : Lane, (s.refuseQuote res b).lane n = s.lane n) ∧
    (∀ p : PassNo, (s.refuseQuote res b).record p = s.record p) ∧ (s.refuseQuote res b).stopped = s.stopped :=
  ⟨fun _ => by simp [State.lane], fun _ => by simp [State.record], by simp [State.stopped]⟩

@[simp] theorem State.openQuote_views (s : State) (r : Reading) (q : Quote) :
    (∀ n : Lane, (s.openQuote r q).lane n = s.lane n) ∧ (s.openQuote r q).stopped = s.stopped :=
  ⟨fun _ => by simp [State.lane], by simp [State.stopped]⟩

@[simp] theorem State.placeHold_views (s : State) (r : Reading) (q : Quote) :
    (∀ n : Lane, (s.placeHold r q).lane n = s.lane n) ∧ (s.placeHold r q).stopped = s.stopped :=
  ⟨fun _ => by simp [State.lane], by simp [State.stopped]⟩

@[simp] theorem State.settleWriteBack_views (s : State) (ok : Bool) :
    (∀ n : Lane, (s.settleWriteBack ok).lane n = s.lane n) ∧ (s.settleWriteBack ok).stopped = s.stopped :=
  ⟨fun _ => by simp [State.lane], by simp [State.stopped]⟩

@[simp] theorem State.settleCommitLong_views (s : State) (ok : Bool) (echoed : Option PassNo) :
    (∀ n : Lane, (s.settleCommitLong ok echoed).lane n = s.lane n) ∧
    (s.settleCommitLong ok echoed).stopped = s.stopped :=
  ⟨fun _ => by simp [State.lane], by simp [State.stopped]⟩

@[simp] theorem State.settleService_views (s : State) (r : StampReq) (ok : Bool) :
    (∀ n : Lane, (s.settleService r ok).lane n = s.lane n) ∧ (s.settleService r ok).stopped = s.stopped :=
  ⟨fun _ => by simp [State.lane], by simp [State.stopped]⟩

@[simp] theorem State.endPendingWork_views (s : State) (p : Position) :
    (∀ n : Lane, (s.endPendingWork p).lane n = s.lane n) ∧ (s.endPendingWork p).stopped = s.stopped :=
  ⟨fun _ => by simp [State.lane], by simp [State.stopped]⟩

@[simp] theorem State.endIfUnworkable_views (s : State) (p : Position) :
    (∀ n : Lane, (s.endIfUnworkable p).lane n = s.lane n) ∧ (s.endIfUnworkable p).stopped = s.stopped :=
  ⟨fun _ => by simp [State.lane], by simp [State.stopped]⟩

@[simp] theorem State.requestWriteBackStamp_views (s : State) (r : StampReq) :
    (∀ n : Lane, (s.requestWriteBackStamp r).lane n = s.lane n) ∧ (s.requestWriteBackStamp r).stopped = s.stopped :=
  ⟨fun _ => by simp [State.lane], by simp [State.stopped]⟩

@[simp] theorem State.remapPosition_views (s : State) (p : Position) :
    (∀ n : Lane, (s.remapPosition p).lane n = s.lane n) ∧ (s.remapPosition p).stopped = s.stopped :=
  ⟨fun _ => by simp [State.lane], by simp [State.stopped]⟩

@[simp] theorem State.applyDeferred_views (s : State) :
    (∀ n : Lane, (s.applyDeferred).lane n = s.lane n) ∧ (s.applyDeferred).stopped = s.stopped :=
  ⟨fun _ => by simp [State.lane], by simp [State.stopped]⟩

@[simp] theorem State.endVisit_views (s : State) :
    (∀ n : Lane, (s.endVisit).lane n = s.lane n) ∧ (s.endVisit).stopped = s.stopped :=
  ⟨fun _ => by simp [State.lane], by simp [State.stopped]⟩

@[simp] theorem State.clearBehind_views (s : State) (q : StampReq) :
    (∀ p : Port, (s.clearBehind q).port p = s.port p) ∧ (∀ n : Lane, (s.clearBehind q).lane n = s.lane n) ∧
    (s.clearBehind q).stopped = s.stopped :=
  ⟨fun _ => by simp [State.port], fun _ => by simp [State.lane], by simp [State.stopped]⟩

@[simp] theorem State.learn_views (s : State) (pos : Position) (p : PassNo) :
    (∀ q : Port, (s.learn pos p).port q = s.port q) ∧ (∀ n : Lane, (s.learn pos p).lane n = s.lane n) ∧
    (s.learn pos p).stopped = s.stopped :=
  ⟨fun _ => by simp [State.port], fun _ => by simp [State.lane], by simp [State.stopped]⟩

@[simp] theorem State.fillQuiet_views (s : State) (n : Lane) (p : PassNo) :
    (∀ q : Port, (s.fillQuiet n p).port q = s.port q) ∧ (∀ m : Lane, (s.fillQuiet n p).lane m = s.lane m) ∧
    (∀ q : PassNo, (s.fillQuiet n p).record q = s.record q) ∧ (s.fillQuiet n p).stopped = s.stopped :=
  ⟨fun _ => by simp [State.port], fun _ => by simp [State.lane], fun _ => by simp [State.record], by simp [State.stopped]⟩

@[simp] theorem State.refuse_views (s : State) (n : Lane) (c : Card) (v : Verdict) (r : RefuseReason) :
    (∀ p : PassNo, (s.refuse n c v r).record p = s.record p) ∧ (s.refuse n c v r).stopped = s.stopped :=
  ⟨fun _ => by simp [State.record], by simp [State.stopped]⟩

@[simp] theorem State.writeBack_views (s : State) (n : Lane) (c : Card) (b : Basis) :
    (∀ p : Port, (s.writeBack n c b).port p = s.port p) ∧ (∀ m : Lane, (s.writeBack n c b).lane m = s.lane m) ∧
    (∀ p : PassNo, (s.writeBack n c b).record p = s.record p) ∧ (s.writeBack n c b).stopped = s.stopped :=
  ⟨fun _ => by simp [State.port], fun _ => by simp [State.lane], fun _ => by simp [State.record], by simp [State.stopped]⟩

@[simp] theorem State.admitCard_views (s : State) (n : Lane) (c : Card) (b : Basis) (rule : LaneRule) :
    (s.admitCard n c b rule).stopped = s.stopped :=
  by simp [State.stopped]

@[simp] theorem State.judge_views (s : State) (n : Lane) (c : Card) (b : Basis) :
    (s.judge n c b).stopped = s.stopped :=
  by simp [State.stopped]

@[simp] theorem State.refuseCard_views (s : State) (n : Lane) (c : Card) (r : RefuseReason) (product : Bool) (remaining : Nat) (unlearned : Bool) :
    (∀ p : PassNo, (s.refuseCard n c r product remaining unlearned).record p = s.record p) ∧
    (s.refuseCard n c r product remaining unlearned).stopped = s.stopped :=
  ⟨fun _ => by simp [State.record], by simp [State.stopped]⟩

@[simp] theorem State.admission_views (s : State) (n : Lane) (c : Card) :
    (s.admission n c).stopped = s.stopped :=
  by simp [State.stopped]

@[simp] theorem State.scanAnswer_views (s : State) (n : Lane) (c : Card) :
    (s.scanAnswer n c).stopped = s.stopped :=
  by simp [State.stopped]

@[simp] theorem State.quoteRecord_views (s : State) (rd : Reading) (c : Card) (b : Basis) (r : PassRecord) (t : Tariff) :
    (∀ n : Lane, (s.quoteRecord rd c b r t).lane n = s.lane n) ∧ (s.quoteRecord rd c b r t).stopped = s.stopped :=
  ⟨fun _ => by simp [State.lane], by simp [State.stopped]⟩

@[simp] theorem State.quoteAbsent_views (s : State) (rd : Reading) (c : Card) (t : Tariff) :
    (∀ n : Lane, (s.quoteAbsent rd c t).lane n = s.lane n) ∧ (s.quoteAbsent rd c t).stopped = s.stopped :=
  ⟨fun _ => by simp [State.lane], by simp [State.stopped]⟩

@[simp] theorem State.quoteCard_views (s : State) (c : Card) :
    (∀ n : Lane, (s.quoteCard c).lane n = s.lane n) ∧ (s.quoteCard c).stopped = s.stopped :=
  ⟨fun _ => by simp [State.lane], by simp [State.stopped]⟩

@[simp] theorem State.expireGrant_views (s : State) (n : Lane) :
    (s.expireGrant n).stopped = s.stopped :=
  by simp [State.stopped]

@[simp] theorem State.completeGrant_views (s : State) (n : Lane) :
    (s.completeGrant n).stopped = s.stopped :=
  by simp [State.stopped]

@[simp] theorem State.freePassage_views (s : State) (n : Lane) :
    (∀ p : PassNo, (s.freePassage n).record p = s.record p) ∧ (s.freePassage n).stopped = s.stopped :=
  ⟨fun _ => by simp [State.record], by simp [State.stopped]⟩

@[simp] theorem State.intrusion_views (s : State) (n : Lane) :
    (∀ p : PassNo, (s.intrusion n).record p = s.record p) ∧ (s.intrusion n).stopped = s.stopped :=
  ⟨fun _ => by simp [State.record], by simp [State.stopped]⟩

@[simp] theorem State.reversePassage_views (s : State) (n : Lane) :
    (s.reversePassage n).stopped = s.stopped :=
  by simp [State.stopped]

@[simp] theorem State.entryBegun_views (s : State) (n : Lane) :
    (∀ p : Port, (s.entryBegun n).port p = s.port p) ∧ (∀ p : PassNo, (s.entryBegun n).record p = s.record p) ∧
    (s.entryBegun n).stopped = s.stopped :=
  ⟨fun _ => by simp [State.port], fun _ => by simp [State.record], by simp [State.stopped]⟩

@[simp] theorem State.forwardPassage_views (s : State) (n : Lane) :
    (s.forwardPassage n).stopped = s.stopped :=
  by simp [State.stopped]

@[simp] theorem State.backOut_views (s : State) (n : Lane) :
    (s.backOut n).stopped = s.stopped :=
  by simp [State.stopped]

@[simp] theorem State.handOver_views (s : State) (n : Lane) (h : HandOver) :
    (s.handOver n h).stopped = s.stopped :=
  by simp [State.stopped]

@[simp] theorem State.beamChanged_views (s : State) (n : Lane) (b : Beam) :
    (s.beamChanged n b).stopped = s.stopped :=
  by simp [State.stopped]

@[simp] theorem State.beamIfDue_views (s : State) (n : Lane) (b : Beam) :
    (s.beamIfDue n b).stopped = s.stopped :=
  by simp [State.stopped]

@[simp] theorem State.boardPulse_views (s : State) :
    (s.boardPulse).stopped = s.stopped :=
  by simp [State.stopped]

@[simp] theorem State.boardChanged_views (s : State) :
    (s.boardChanged).stopped = s.stopped :=
  by simp [State.stopped]

@[simp] theorem State.boardIfDue_views (s : State) :
    (s.boardIfDue).stopped = s.stopped :=
  by simp [State.stopped]

@[simp] theorem State.settleInputs_views (s : State) :
    (s.settleInputs).stopped = s.stopped :=
  by simp [State.stopped]

@[simp] theorem State.handBlocked_views (s : State) (p : PassNo) (st : Standing) :
    (∀ q : Port, (s.handBlocked p st).port q = s.port q) ∧ (∀ n : Lane, (s.handBlocked p st).lane n = s.lane n) ∧
    (∀ q : PassNo, (s.handBlocked p st).record q = s.record q) ∧ (s.handBlocked p st).stopped = s.stopped :=
  ⟨fun _ => by simp [State.port], fun _ => by simp [State.lane], fun _ => by simp [State.record], by simp [State.stopped]⟩

@[simp] theorem State.serviceReadMissed_views (s : State) :
    (∀ n : Lane, (s.serviceReadMissed).lane n = s.lane n) ∧
    (∀ p : PassNo, (s.serviceReadMissed).record p = s.record p) ∧ (s.serviceReadMissed).stopped = s.stopped :=
  ⟨fun _ => by simp [State.lane], fun _ => by simp [State.record], by simp [State.stopped]⟩

@[simp] theorem State.serviceReadAnswered_views (s : State) (c : Card) :
    (∀ n : Lane, (s.serviceReadAnswered c).lane n = s.lane n) ∧ (s.serviceReadAnswered c).stopped = s.stopped :=
  ⟨fun _ => by simp [State.lane], by simp [State.stopped]⟩

@[simp] theorem State.deliverRead_views (s : State) (v : CardVisit) (o : VisitOutcome) (frame : List Byte) :
    (s.deliverRead v o frame).stopped = s.stopped :=
  by simp [State.stopped]

@[simp] theorem State.readCompleted_views (s : State) (v : CardVisit) (r : Reception) :
    (s.readCompleted v r).stopped = s.stopped :=
  by simp [State.stopped]

@[simp] theorem State.readVisit_views (s : State) (r : Reception) :
    (s.readVisit r).stopped = s.stopped :=
  by simp [State.stopped]

@[simp] theorem State.settleLaneStamp_views (s : State) (n : Lane) (o : VisitOutcome) (frame : List Byte) :
    (∀ p : Port, (s.settleLaneStamp n o frame).port p = s.port p) ∧
    (∀ m : Lane, (s.settleLaneStamp n o frame).lane m = s.lane m) ∧
    (s.settleLaneStamp n o frame).stopped = s.stopped :=
  ⟨fun _ => by simp [State.port], fun _ => by simp [State.lane], by simp [State.stopped]⟩

@[simp] theorem State.settleServiceStamp_views (s : State) (o : VisitOutcome) (frame : List Byte) :
    (∀ n : Lane, (s.settleServiceStamp o frame).lane n = s.lane n) ∧
    (s.settleServiceStamp o frame).stopped = s.stopped :=
  ⟨fun _ => by simp [State.lane], by simp [State.stopped]⟩

@[simp] theorem State.stampCompleted_views (s : State) (v : CardVisit) (r : Reception) :
    (∀ n : Lane, (s.stampCompleted v r).lane n = s.lane n) ∧ (s.stampCompleted v r).stopped = s.stopped :=
  ⟨fun _ => by simp [State.lane], by simp [State.stopped]⟩

@[simp] theorem State.stampAttempt_views (s : State) (r : Reception) :
    (∀ n : Lane, (s.stampAttempt r).lane n = s.lane n) ∧ (s.stampAttempt r).stopped = s.stopped :=
  ⟨fun _ => by simp [State.lane], by simp [State.stopped]⟩

@[simp] theorem State.applyTune_views (s : State) (p : Position) (res : TuneResult) :
    (∀ n : Lane, (s.applyTune p res).lane n = s.lane n) ∧ (s.applyTune p res).stopped = s.stopped :=
  ⟨fun _ => by simp [State.lane], by simp [State.stopped]⟩

@[simp] theorem State.tuneCompleted_views (s : State) (a : Antenna) (target : Nat) (ordered : Bool) (i4 i12 : Nat) :
    (∀ n : Lane, (s.tuneCompleted a target ordered i4 i12).lane n = s.lane n) ∧
    (s.tuneCompleted a target ordered i4 i12).stopped = s.stopped :=
  ⟨fun _ => by simp [State.lane], by simp [State.stopped]⟩

@[simp] theorem State.tuneVisit_views (s : State) (i4 i12 : Nat) :
    (∀ n : Lane, (s.tuneVisit i4 i12).lane n = s.lane n) ∧ (s.tuneVisit i4 i12).stopped = s.stopped :=
  ⟨fun _ => by simp [State.lane], by simp [State.stopped]⟩

@[simp] theorem State.changeMode_views (s : State) (n : Lane) (m : Mode) (station : Bool) :
    (∀ p : PassNo, (s.changeMode n m station).record p = s.record p) ∧
    (s.changeMode n m station).stopped = s.stopped :=
  ⟨fun _ => by simp [State.record], by simp [State.stopped]⟩

@[simp] theorem State.setLane_views (s : State) (n : Lane) (x : LaneSettings) :
    (∀ p : Port, (s.setLane n x).port p = s.port p) ∧ (∀ p : PassNo, (s.setLane n x).record p = s.record p) ∧
    (s.setLane n x).stopped = s.stopped :=
  ⟨fun _ => by simp [State.port], fun _ => by simp [State.record], by simp [State.stopped]⟩

@[simp] theorem State.setLanes_views (s : State) (ns : List Lane) (x : LaneSettings) (debounce : Nat) :
    (s.setLanes ns x debounce).stopped = s.stopped :=
  by simp [State.stopped]

@[simp] theorem State.manualGrant_views (s : State) (n : Lane) :
    (s.manualGrant n).stopped = s.stopped :=
  by simp [State.stopped]

@[simp] theorem State.beginCommit_views (s : State) (q : StandingQuote) :
    (∀ n : Lane, (s.beginCommit q).lane n = s.lane n) ∧ (∀ p : PassNo, (s.beginCommit q).record p = s.record p) ∧
    (s.beginCommit q).stopped = s.stopped :=
  ⟨fun _ => by simp [State.lane], fun _ => by simp [State.record], by simp [State.stopped]⟩

@[simp] theorem State.rollover_views (s : State) (day : Nat) :
    (∀ n : Lane, (s.rollover day).lane n = s.lane n) ∧ (∀ p : PassNo, (s.rollover day).record p = s.record p) ∧
    (s.rollover day).stopped = s.stopped :=
  ⟨fun _ => by simp [State.lane], fun _ => by simp [State.record], by simp [State.stopped]⟩

@[simp] theorem State.dayBoundary_views (s : State) :
    (∀ n : Lane, (s.dayBoundary).lane n = s.lane n) ∧ (∀ p : PassNo, (s.dayBoundary).record p = s.record p) ∧
    (s.dayBoundary).stopped = s.stopped :=
  ⟨fun _ => by simp [State.lane], fun _ => by simp [State.record], by simp [State.stopped]⟩

@[simp] theorem State.advanceTod_views (s : State) (tod : Nat) :
    (∀ n : Lane, (s.advanceTod tod).lane n = s.lane n) ∧ (∀ p : PassNo, (s.advanceTod tod).record p = s.record p) ∧
    (s.advanceTod tod).stopped = s.stopped :=
  ⟨fun _ => by simp [State.lane], fun _ => by simp [State.record], by simp [State.stopped]⟩

@[simp] theorem State.secondBoundary_views (s : State) :
    (∀ n : Lane, (s.secondBoundary).lane n = s.lane n) ∧ (∀ p : PassNo, (s.secondBoundary).record p = s.record p) ∧
    (s.secondBoundary).stopped = s.stopped :=
  ⟨fun _ => by simp [State.lane], fun _ => by simp [State.record], by simp [State.stopped]⟩

@[simp] theorem State.setClock_views (s : State) (day tod hour : Nat) :
    (∀ n : Lane, (s.setClock day tod hour).lane n = s.lane n) ∧
    (∀ p : PassNo, (s.setClock day tod hour).record p = s.record p) ∧ (s.setClock day tod hour).stopped = s.stopped :=
  ⟨fun _ => by simp [State.lane], fun _ => by simp [State.record], by simp [State.stopped]⟩

@[simp] theorem State.countDrift_views (s : State) (e : Int) :
    (∀ n : Lane, (s.countDrift e).lane n = s.lane n) ∧ (∀ p : PassNo, (s.countDrift e).record p = s.record p) ∧
    (s.countDrift e).stopped = s.stopped :=
  ⟨fun _ => by simp [State.lane], fun _ => by simp [State.record], by simp [State.stopped]⟩

@[simp] theorem State.actOnPulse_views (s : State) (e : Int) :
    (∀ n : Lane, (s.actOnPulse e).lane n = s.lane n) ∧ (∀ p : PassNo, (s.actOnPulse e).record p = s.record p) ∧
    (s.actOnPulse e).stopped = s.stopped :=
  ⟨fun _ => by simp [State.lane], fun _ => by simp [State.record], by simp [State.stopped]⟩

@[simp] theorem State.countedPulse_views (s : State) :
    (∀ n : Lane, (s.countedPulse).lane n = s.lane n) ∧ (∀ p : PassNo, (s.countedPulse).record p = s.record p) ∧
    (s.countedPulse).stopped = s.stopped :=
  ⟨fun _ => by simp [State.lane], fun _ => by simp [State.record], by simp [State.stopped]⟩

@[simp] theorem State.clearNotices_views (s : State) (p : Port) :
    (∀ n : Lane, (s.clearNotices p).lane n = s.lane n) ∧ (∀ q : PassNo, (s.clearNotices p).record q = s.record q) ∧
    (s.clearNotices p).stopped = s.stopped :=
  ⟨fun _ => by simp [State.lane], fun _ => by simp [State.record], by simp [State.stopped]⟩

@[simp] theorem State.raiseJournalAgain_views (s : State) (p : Port) :
    (∀ n : Lane, (s.raiseJournalAgain p).lane n = s.lane n) ∧
    (∀ q : PassNo, (s.raiseJournalAgain p).record q = s.record q) ∧ (s.raiseJournalAgain p).stopped = s.stopped :=
  ⟨fun _ => by simp [State.lane], fun _ => by simp [State.record], by simp [State.stopped]⟩

@[simp] theorem State.refuseFrame_views (s : State) (p : Port) (code : Byte) (res : Result) :
    (∀ n : Lane, (s.refuseFrame p code res).lane n = s.lane n) ∧
    (∀ q : PassNo, (s.refuseFrame p code res).record q = s.record q) ∧
    (s.refuseFrame p code res).stopped = s.stopped :=
  ⟨fun _ => by simp [State.lane], fun _ => by simp [State.record], by simp [State.stopped]⟩

@[simp] theorem State.takeFrame_views (s : State) (p : Port) (bytes : List Byte) (insideByte : Bool) :
    (s.takeFrame p bytes insideByte).stopped = s.stopped :=
  by simp [State.stopped]

@[simp] theorem State.tick_views (s : State) :
    (∀ p : Port, (s.tick).port p = s.port p) ∧ (∀ n : Lane, (s.tick).lane n = s.lane n) ∧
    (∀ p : PassNo, (s.tick).record p = s.record p) :=
  ⟨fun _ => by simp [State.port], fun _ => by simp [State.lane], fun _ => by simp [State.record]⟩

end Sys2Proof.Machine
end

