-- ==== Sys2Proof/Laws/Lanes.lean ====
section
/-! SUPPORT. Lanes: what the updates of other blocks leave of them, and what the shared operations of a lane do to that lane
and to the others (chapter 4). -/

namespace Sys2Proof.Machine

/-! ## Updates of other blocks -/

@[simp] theorem State.withReader_views (s : State) (f : Reader → Reader) :
    (∀ n : Lane, (s.withReader f).lane n = s.lane n) ∧
    (∀ n : Lane, (s.withReader f).ctxPass n = s.ctxPass n) ∧
    (∀ p : PassNo, (s.withReader f).record p = s.record p) ∧
    (s.withReader f).stopped = s.stopped :=
  ⟨fun _ => rfl, fun _ => rfl, fun _ => rfl, rfl⟩

@[simp] theorem State.withAdm_views (s : State) (f : Admission → Admission) :
    (∀ n : Lane, (s.withAdm f).lane n = s.lane n) ∧
    (∀ n : Lane, (s.withAdm f).ctxPass n = s.ctxPass n) ∧
    (∀ p : PassNo, (s.withAdm f).record p = s.record p) ∧
    (s.withAdm f).stopped = s.stopped :=
  ⟨fun _ => rfl, fun _ => rfl, fun _ => rfl, rfl⟩

@[simp] theorem State.withLoad_views (s : State) (f : Loading → Loading) :
    (∀ n : Lane, (s.withLoad f).lane n = s.lane n) ∧
    (∀ n : Lane, (s.withLoad f).ctxPass n = s.ctxPass n) ∧
    (∀ p : PassNo, (s.withLoad f).record p = s.record p) ∧
    (s.withLoad f).stopped = s.stopped :=
  ⟨fun _ => rfl, fun _ => rfl, fun _ => rfl, rfl⟩

@[simp] theorem State.withCounts_views (s : State) (f : Counts → Counts) :
    (∀ n : Lane, (s.withCounts f).lane n = s.lane n) ∧
    (∀ n : Lane, (s.withCounts f).ctxPass n = s.ctxPass n) ∧
    (∀ p : PassNo, (s.withCounts f).record p = s.record p) ∧
    (s.withCounts f).stopped = s.stopped :=
  ⟨fun _ => rfl, fun _ => rfl, fun _ => rfl, rfl⟩

@[simp] theorem State.withRefund_views (s : State) (f : RefundEngine → RefundEngine) :
    (∀ n : Lane, (s.withRefund f).lane n = s.lane n) ∧
    (∀ n : Lane, (s.withRefund f).ctxPass n = s.ctxPass n) ∧
    (∀ p : PassNo, (s.withRefund f).record p = s.record p) ∧
    (s.withRefund f).stopped = s.stopped :=
  ⟨fun _ => rfl, fun _ => rfl, fun _ => rfl, rfl⟩

@[simp] theorem State.withTime_views (s : State) (f : TimeUnit → TimeUnit) :
    (∀ n : Lane, (s.withTime f).lane n = s.lane n) ∧
    (∀ n : Lane, (s.withTime f).ctxPass n = s.ctxPass n) ∧
    (∀ p : PassNo, (s.withTime f).record p = s.record p) ∧
    (s.withTime f).stopped = s.stopped :=
  ⟨fun _ => rfl, fun _ => rfl, fun _ => rfl, rfl⟩

@[simp] theorem State.withSupply_views (s : State) (f : Supply → Supply) :
    (∀ n : Lane, (s.withSupply f).lane n = s.lane n) ∧
    (∀ n : Lane, (s.withSupply f).ctxPass n = s.ctxPass n) ∧
    (∀ p : PassNo, (s.withSupply f).record p = s.record p) :=
  ⟨fun _ => rfl, fun _ => rfl, fun _ => rfl⟩

@[simp] theorem State.withTable_views (s : State) (f : PassTable → PassTable) :
    (∀ n : Lane, (s.withTable f).lane n = s.lane n) ∧
    (∀ n : Lane, (s.withTable f).ctxPass n = s.ctxPass n) ∧
    (s.withTable f).stopped = s.stopped :=
  ⟨fun _ => rfl, fun _ => rfl, rfl⟩

@[simp] theorem State.withPort_views (s : State) (p : Port) (f : PortCtx → PortCtx) :
    (∀ n : Lane, (s.withPort p f).lane n = s.lane n) ∧ (∀ n : Lane, (s.withPort p f).ctxPass n = s.ctxPass n) ∧
    (∀ q : PassNo, (s.withPort p f).record q = s.record q) ∧ (s.withPort p f).stopped = s.stopped :=
  ⟨fun _ => rfl, fun _ => rfl, fun _ => rfl, rfl⟩

@[simp] theorem State.withLane_views (s : State) (n : Lane) (f : LaneUnit → LaneUnit) :
    (∀ p : PassNo, (s.withLane n f).record p = s.record p) ∧ (s.withLane n f).stopped = s.stopped :=
  ⟨fun _ => rfl, rfl⟩

/-! ## A lane's own operations, at the lane -/

@[simp] theorem State.startSignal_lane_same (s : State) (n : Lane) (k : SignalKind) :
    (s.startSignal n k).lane n =
      ({ s.lane n with signal := some { kind := k, endAt := s.time.ms + signalTime k } } : LaneUnit).settleLamp s.time.ms := by
  simp [State.startSignal]

@[simp] theorem State.startTone_lane_same (s : State) (n : Lane) (p : Pattern) :
    (s.startTone n p).lane n =
      ({ s.lane n with tone := newTone s.time.ms (s.lane n).settings p } : LaneUnit).settleLamp s.time.ms := by
  simp [State.startTone]

@[simp] theorem State.putVerdict_lane_same (s : State) (n : Lane) (v : Verdict) :
    (s.putVerdict n v).lane n =
      ({ s.lane n with signal := signalAfterVerdict (s.lane n).signal } : LaneUnit).settleLamp s.time.ms := by
  simp [State.putVerdict]

/-- A verdict is put into its lane's record with the next sequence and the passage state of the moment (R78). -/
@[simp] theorem State.putVerdict_verdict_same (s : State) (n : Lane) (v : Verdict) :
    (s.putVerdict n v).adm.verdicts.get n =
      some { v with seq := nextSeq (s.adm.verdicts.get n), passage := (s.lane n).passage } := by
  simp [State.putVerdict]

theorem State.putVerdict_verdict_other (s : State) (n m : Lane) (v : Verdict) (h : m ≠ n) :
    (s.putVerdict n v).adm.verdicts.get m = s.adm.verdicts.get m := by
  simp [State.putVerdict, PerLane.get_set_other _ _ _ _ h]

@[simp] theorem State.putVerdict_quiet_same (s : State) (n : Lane) (v : Verdict) :
    (s.putVerdict n v).adm.quiet.get n = quietAfterVerdict v.kind (s.adm.quiet.get n) := by
  simp [State.putVerdict]

@[simp] theorem State.putReport_lane_same (s : State) (n : Lane) (k : ReportKind) (p : PassNo) :
    (s.putReport n k p).lane n =
      ({ s.lane n with report := some { kind := k, pass := p, second := s.time.runSec,
                                        seq := nextReportSeq (s.lane n).report } } : LaneUnit).settleLamp s.time.ms := by
  simp [State.putReport]

@[simp] theorem State.beginContext_lane_same (s : State) (n : Lane) (c : Context) (note : Note) :
    (s.beginContext n c note).lane n = ({ s.lane n with ctx := some c } : LaneUnit).settleLamp s.time.ms := by
  simp [State.beginContext]

@[simp] theorem State.beginContext_note_same (s : State) (n : Lane) (c : Context) (note : Note) :
    (s.beginContext n c note).note n = note := by
  simp [State.beginContext, State.note]

/-- The end of a context leaves its lane IDLE without a context (R87). -/
@[simp] theorem State.endContext_lane_same (s : State) (n : Lane) :
    (s.endContext n).lane n =
      ({ s.lane n with passage := .idle, ctx := none } : LaneUnit).settleLamp s.time.ms := by
  unfold State.endContext
  split <;> simp

/-! ## A lane's own operations, at the other lanes -/

theorem State.startSignal_lane_other (s : State) (n m : Lane) (k : SignalKind) (h : m ≠ n) :
    (s.startSignal n k).lane m = s.lane m := by
  simp [State.startSignal, State.withLane_lane_other _ _ _ _ h]

theorem State.startTone_lane_other (s : State) (n m : Lane) (p : Pattern) (h : m ≠ n) :
    (s.startTone n p).lane m = s.lane m := by
  simp [State.startTone, State.withLane_lane_other _ _ _ _ h]

theorem State.putVerdict_lane_other (s : State) (n m : Lane) (v : Verdict) (h : m ≠ n) :
    (s.putVerdict n v).lane m = s.lane m := by
  simp [State.putVerdict, State.withLane_lane_other _ _ _ _ h]

theorem State.putReport_lane_other (s : State) (n m : Lane) (k : ReportKind) (p : PassNo) (h : m ≠ n) :
    (s.putReport n k p).lane m = s.lane m := by
  simp [State.putReport, State.withLane_lane_other _ _ _ _ h]

theorem State.beginContext_lane_other (s : State) (n m : Lane) (c : Context) (note : Note) (h : m ≠ n) :
    (s.beginContext n c note).lane m = s.lane m := by
  simp [State.beginContext, State.withLane_lane_other _ _ _ _ h]

theorem State.setLane_lane_other (s : State) (n m : Lane) (x : LaneSettings) (h : m ≠ n) :
    (s.setLane n x).lane m = s.lane m := by
  simp [State.setLane, State.withLane_lane_other _ _ _ _ h]

theorem State.endContext_lane_other (s : State) (n m : Lane) (h : m ≠ n) : (s.endContext n).lane m = s.lane m := by
  unfold State.endContext
  split <;> simp [State.withLane_lane_other _ _ _ _ h]

theorem State.grantLane_lane_other (s : State) (n m : Lane) (h : m ≠ n) : (s.grantLane n).lane m = s.lane m := by
  simp [State.grantLane, State.startTone_lane_other _ _ _ _ h, State.withLane_lane_other _ _ _ _ h]

theorem State.entryBegun_lane_other (s : State) (n m : Lane) (h : m ≠ n) : (s.entryBegun n).lane m = s.lane m := by
  unfold State.entryBegun
  split <;> simp [State.withLane_lane_other _ _ _ _ h]

/-! ## Counts of a lane -/

@[simp] theorem State.countLane_same (s : State) (n : Lane) (f : LaneCounts → LaneCounts) :
    (s.countLane n f).counts.current.lanes.get n = f (s.counts.current.lanes.get n) := by
  simp [State.countLane]

theorem State.countLane_other (s : State) (n m : Lane) (f : LaneCounts → LaneCounts) (h : m ≠ n) :
    (s.countLane n f).counts.current.lanes.get m = s.counts.current.lanes.get m := by
  simp [State.countLane, PerLane.get_set_other _ _ _ _ h]

@[simp] theorem State.countLane_lift (s : State) (n : Lane) (f : LaneCounts → LaneCounts) :
    (s.countLane n f).counts.current.lift = s.counts.current.lift := rfl

@[simp] theorem State.countLift_lift (s : State) (f : LiftCounts → LiftCounts) :
    (s.countLift f).counts.current.lift = f s.counts.current.lift := rfl

@[simp] theorem State.countLift_lanes (s : State) (f : LiftCounts → LiftCounts) :
    (s.countLift f).counts.current.lanes = s.counts.current.lanes := rfl

/-! ## The start-up -/

@[simp] theorem State.startUp_pending (s : State) (cause : StartCause) (selected : PerPort Bool) :
    (s.startUp cause selected).pending = s.pending := by
  unfold State.startUp
  split <;> simp [State.warmContent, State.coldContent]

end Sys2Proof.Machine
end

