-- ==== Sys2Proof/Laws/Orders.lean ====
section
/-! SUPPORT. Everything the taking of an order can do, one lemma for each case of R167, R170, R171 and R183. -/

namespace Sys2Proof.Machine

/-! ## The port of an order -/

@[simp] theorem State.replyNow_raised (s : State) (p : Port) (code : Byte) (res : Result) (body : Body) :
    s.replyNow p code .raised res body = s.answered p code res body := by
  simp [State.replyNow, State.answered, State.raiseBits, State.withPort]

@[simp] theorem State.replyNow_silent (s : State) (p : Port) (code : Byte) (res : Result) (body : Body) :
    s.replyNow p code .silent res body = s.answeredSilently p code res body := rfl

/-- An open port: the part runs, the port awaits no release, and no long order is in progress on it. -/
theorem State.portOpen_iff (s : State) (p : Port) :
    s.portOpen p = true ↔
      s.stopped = false ∧ (s.port p).awaitRelease = false ∧ ∀ code, (s.port p).slot ≠ .inProgress code := by
  unfold State.portOpen
  cases (s.port p).slot <;> simp

/-! ## The cases of the taking -/

theorem takeOrder_stopped (p : Port) (code : Byte) (done : DoneNotice) (rights : Rights) (block : State → Answer)
    (s : State) (h : s.stopped = true) : takeOrder p code done rights block s = s := by
  simp [takeOrder, State.running, h]

theorem takeOrder_awaiting (p : Port) (code : Byte) (done : DoneNotice) (rights : Rights) (block : State → Answer)
    (s : State) (h : s.stopped = false) (ha : (s.port p).awaitRelease = true) :
    takeOrder p code done rights block s = s.withPort p fun c => { c with awaitRelease := false } := by
  simp [takeOrder, State.running, h, ha]

theorem takeOrder_busy (p : Port) (code c : Byte) (done : DoneNotice) (rights : Rights) (block : State → Answer)
    (s : State) (h : s.stopped = false) (ha : (s.port p).awaitRelease = false) (hs : (s.port p).slot = .inProgress c) :
    takeOrder p code done rights block s = s.withPort p fun x => { x with lost := true, sent := [] } := by
  simp [takeOrder, State.running, h, ha, hs]

theorem takeOrder_open (p : Port) (code : Byte) (done : DoneNotice) (rights : Rights) (block : State → Answer)
    (s : State) (h : s.portOpen p = true) :
    takeOrder p code done rights block s =
      if rights then
        match (block (s.taken p)).reply with
        | some (res, body) => (block (s.taken p)).state.replyNow p code done res body
        | none => (block (s.taken p)).state.inProgress p code
      else (s.taken p).replyNow p code done .denied .none := by
  obtain ⟨h1, h2, h3⟩ := (s.portOpen_iff p).mp h
  unfold takeOrder State.running
  simp only [h1, h2, Bool.false_eq_true, if_false]
  split
  · rename_i c hc; exact absurd hc (h3 c)
  · rfl
  · rfl

theorem takeOrder_denied (p : Port) (code : Byte) (done : DoneNotice) (rights : Rights) (block : State → Answer)
    (s : State) (h : s.portOpen p = true) (hr : rights = false) :
    takeOrder p code done rights block s = (s.taken p).replyNow p code done .denied .none := by
  rw [takeOrder_open _ _ _ _ _ _ h]; simp [hr]

/-- An order that its block answers at the taking. -/
theorem takeOrder_replied (p : Port) (code : Byte) (done : DoneNotice) (rights : Rights) (block : State → Answer)
    (s t : State) (res : Result) (body : Body) (h : s.portOpen p = true) (hr : rights = true)
    (hb : block (s.taken p) = ⟨t, some (res, body)⟩) :
    takeOrder p code done rights block s = t.replyNow p code done res body := by
  rw [takeOrder_open _ _ _ _ _ _ h]; simp [hr, hb]

/-- A long order that its block takes up. -/
theorem takeOrder_long (p : Port) (code : Byte) (done : DoneNotice) (rights : Rights) (block : State → Answer)
    (s t : State) (h : s.portOpen p = true) (hr : rights = true) (hb : block (s.taken p) = ⟨t, none⟩) :
    takeOrder p code done rights block s = t.inProgress p code := by
  rw [takeOrder_open _ _ _ _ _ _ h]; simp [hr, hb]

/-! ## What the taking leaves of the state -/

theorem State.portOpen_running (s : State) (p : Port) (h : s.portOpen p = true) : s.stopped = false :=
  ((s.portOpen_iff p).mp h).1

@[simp] theorem State.taken_frame (s : State) (p : Port) :
    (s.taken p).table = s.table ∧ (s.taken p).reader = s.reader ∧ (s.taken p).adm = s.adm ∧
    (s.taken p).lanes = s.lanes ∧ (s.taken p).debounce = s.debounce ∧ (s.taken p).load = s.load ∧
    (s.taken p).counts = s.counts ∧ (s.taken p).refund = s.refund ∧ (s.taken p).time = s.time ∧
    (s.taken p).supply = s.supply ∧ (s.taken p).free = s.free ∧ (s.taken p).pending = s.pending :=
  ⟨rfl, rfl, rfl, rfl, rfl, rfl, rfl, rfl, rfl, rfl, rfl, rfl⟩

@[simp] theorem State.taken_lane (s : State) (p : Port) (n : Lane) : (s.taken p).lane n = s.lane n := rfl

@[simp] theorem State.taken_stopped (s : State) (p : Port) : (s.taken p).stopped = s.stopped := rfl

@[simp] theorem State.answered_frame (s : State) (p : Port) (code : Byte) (res : Result) (body : Body) :
    (s.answered p code res body).table = s.table ∧ (s.answered p code res body).reader = s.reader ∧
    (s.answered p code res body).adm = s.adm ∧ (s.answered p code res body).lanes = s.lanes ∧
    (s.answered p code res body).debounce = s.debounce ∧ (s.answered p code res body).load = s.load ∧
    (s.answered p code res body).counts = s.counts ∧ (s.answered p code res body).refund = s.refund ∧
    (s.answered p code res body).time = s.time ∧ (s.answered p code res body).supply = s.supply ∧
    (s.answered p code res body).free = s.free ∧ (s.answered p code res body).pending = s.pending :=
  ⟨rfl, rfl, rfl, rfl, rfl, rfl, rfl, rfl, rfl, rfl, rfl, rfl⟩

/-! ## What operations leave of a port -/

@[simp] theorem State.withReader_port (s : State) (f : Reader → Reader) (p : Port) : (s.withReader f).port p = s.port p := rfl
@[simp] theorem State.withAdm_port (s : State) (f : Admission → Admission) (p : Port) : (s.withAdm f).port p = s.port p := rfl
@[simp] theorem State.withLoad_port (s : State) (f : Loading → Loading) (p : Port) : (s.withLoad f).port p = s.port p := rfl
@[simp] theorem State.withCounts_port (s : State) (f : Counts → Counts) (p : Port) : (s.withCounts f).port p = s.port p := rfl
@[simp] theorem State.withRefund_port (s : State) (f : RefundEngine → RefundEngine) (p : Port) : (s.withRefund f).port p = s.port p := rfl
@[simp] theorem State.withTime_port (s : State) (f : TimeUnit → TimeUnit) (p : Port) : (s.withTime f).port p = s.port p := rfl
@[simp] theorem State.withSupply_port (s : State) (f : Supply → Supply) (p : Port) : (s.withSupply f).port p = s.port p := rfl
@[simp] theorem State.withTable_port (s : State) (f : PassTable → PassTable) (p : Port) : (s.withTable f).port p = s.port p := rfl
@[simp] theorem State.withLane_port (s : State) (n : Lane) (f : LaneUnit → LaneUnit) (p : Port) :
    (s.withLane n f).port p = s.port p := rfl

theorem State.raiseBits_port (s : State) (p q : Port) (m : BitVec 16) :
    (s.raiseBits p m).port q =
      if q = p then { s.port p with notices := (s.port p).notices ||| m } else s.port q := by
  simp only [State.raiseBits, State.withPort_port]

@[simp] theorem State.raiseBits_port_same (s : State) (p : Port) (m : BitVec 16) :
    (s.raiseBits p m).port p = { s.port p with notices := (s.port p).notices ||| m } := by
  simp [State.raiseBits_port]

@[simp] theorem State.raiseLane_port_same (s : State) (n : Lane) (x : LaneNotice) :
    (s.raiseLane n x).port (.lp n) = { s.port (.lp n) with notices := (s.port (.lp n)).notices ||| x.mask } := by
  simp [State.raiseLane]

@[simp] theorem State.raiseLane_port_station (s : State) (n : Lane) (x : LaneNotice) :
    (s.raiseLane n x).port .sp = s.port .sp := by
  simp [State.raiseLane, State.raiseBits_port]

@[simp] theorem State.raiseStation_port_same (s : State) (x : StationNotice) :
    (s.raiseStation x).port .sp = { s.port .sp with notices := (s.port .sp).notices ||| x.mask } := by
  simp [State.raiseStation]

@[simp] theorem State.raiseStation_port_lane (s : State) (x : StationNotice) (n : Lane) :
    (s.raiseStation x).port (.lp n) = s.port (.lp n) := by
  simp [State.raiseStation, State.raiseBits_port]

@[simp] theorem State.taken_port_same (s : State) (p : Port) :
    (s.taken p).port p = { s.port p with slot := .empty, delivered := false, sent := [] } := by
  simp [State.taken]

theorem State.taken_port_other (s : State) (p q : Port) (h : q ≠ p) : (s.taken p).port q = s.port q := by
  simp [State.taken, State.withPort_port, h]

@[simp] theorem State.answered_port_same (s : State) (p : Port) (code : Byte) (res : Result) (body : Body) :
    (s.answered p code res body).port p =
      { s.port p with slot := .ready { code := code, result := res, lost := false, body := body }
                      notices := (s.port p).notices ||| orderDoneBit p } := by
  simp [State.answered]

theorem State.answered_port_other (s : State) (p q : Port) (code : Byte) (res : Result) (body : Body) (h : q ≠ p) :
    (s.answered p code res body).port q = s.port q := by
  simp [State.answered, State.withPort_port, h]

@[simp] theorem State.answeredSilently_port_same (s : State) (p : Port) (code : Byte) (res : Result) (body : Body) :
    (s.answeredSilently p code res body).port p =
      { s.port p with slot := .ready { code := code, result := res, lost := false, body := body } } := by
  simp [State.answeredSilently]

end Sys2Proof.Machine
end

