-- ==== Sys2Proof/Laws/Release.lean ====
section
/-! SUPPORT. The release queue: what the withdrawal of an entry does, and how the head of the queue is served
(chapter 5). -/

namespace Sys2Proof.Machine

/-! ## The withdrawal of an entry (R113) -/

/-- A withdrawn entry leaves the queue, and what was handed over for its lane ends with it. -/
@[simp] theorem State.dropEntry_load (s : State) (n : Lane) (r : WithdrawReason) :
    (s.dropEntry n r).load =
      { s.load with queue := s.load.queue.filter fun e => e.lane != n
                    handed := s.load.handed.filter fun h => h.lane != n } := by
  simp [State.dropEntry]

/-- The end of a context leaves every verdict record (R87). -/
theorem State.endContext_verdicts (s : State) (n : Lane) : (s.endContext n).adm.verdicts = s.adm.verdicts := by
  unfold State.endContext
  split <;> rfl

/-- The verdict record shows the withdrawal, with the next sequence. -/
theorem State.dropEntry_verdict (s : State) (n : Lane) (r : WithdrawReason) :
    ∃ v, (s.dropEntry n r).adm.verdicts.get n = some v ∧ v.kind = .withdrawn r ∧
      v.seq = nextSeq (s.adm.verdicts.get n) := by
  simp only [State.dropEntry, State.countLane_frame, State.startTone_frame, State.startSignal_frame,
    State.putVerdict_verdict_same]
  refine ⟨_, rfl, ?_, ?_⟩
  · unfold withdrawVerdict manualVerdict
    split <;> rfl
  · rw [State.endContext_verdicts]
    rfl

theorem State.dropEntry_lane_other (s : State) (n m : Lane) (r : WithdrawReason) (h : m ≠ n) :
    (s.dropEntry n r).lane m = s.lane m := by
  simp [State.dropEntry, State.startTone_lane_other _ _ _ _ h, State.startSignal_lane_other _ _ _ _ h,
    State.putVerdict_lane_other _ _ _ _ h, State.endContext_lane_other _ _ _ h]

/-! ## The head of the queue (R112, R23, R83) -/

/-- A lane has no handed reason where nothing was handed over for it. -/
theorem State.handedReason_none (s : State) (n : Lane) :
    s.handedReason n = none ↔ ∀ h ∈ s.load.handed, h.lane ≠ n := by
  simp [State.handedReason]

theorem State.serveHead_granted (s : State) (n : Lane) (h : ∀ x ∈ s.load.handed, x.lane ≠ n) :
    s.serveHead n = s.grantHead n := by
  simp [State.serveHead, (s.handedReason_none n).2 h]

theorem State.serveHead_withdrawn (s : State) (n : Lane) (r : WithdrawReason) (h : s.handedReason n = some r) :
    s.serveHead n = s.dropEntry n r := by
  simp [State.serveHead, h]

/-! ## The service step (R112) -/

theorem State.serviceStep_empty (s : State) (h : s.load.queue = []) : s.serviceStep = s := by
  simp [State.serviceStep, h, serviceRounds]

theorem State.serviceStep_without_room (s : State) (h : s.room = false) : s.serviceStep = s := by
  unfold State.serviceStep
  cases hq : s.load.queue with
  | nil => simp [serviceRounds]
  | cons e q => simp [serviceRounds, hq, h]

/-- Outside RUN no room exists (R109), so a withdrawal takes its entry alone. -/
theorem State.withdraw_outside_run (s : State) (n : Lane) (r : WithdrawReason) (h : s.supply.state ≠ .run) :
    s.withdraw n r = if s.inQueue n then s.dropEntry n r else s := by
  unfold State.withdraw
  split
  · exact State.serviceStep_without_room _ (by simp [State.room, h])
  · rfl

end Sys2Proof.Machine
end

