-- ==== Sys2Proof/Laws/Supply.lean ====
section
/-! SUPPORT. The check of the retained region (R184): it is valid where the stored value equals the computed one, and a
loss of the content leaves it invalid. -/

namespace Sys2Proof.Machine

/-- The check is valid exactly where the stored check value is the content's (R184). -/
theorem State.checkValid_iff (s : State) : s.supply.checkValid = true ↔ s.storedCheck = s.checkValue := by
  simp [Supply.checkValid, State.storedCheck]

/-- The distance after a loss is not 0, whatever the free value. -/
theorem lostSkew_ne_zero (free : Nat) : lostSkew free ≠ 0 := by
  intro h
  have := congrArg BitVec.toNat h
  simp [lostSkew] at this
  omega

/-- A loss of the content leaves the check invalid. -/
theorem Supply.lost_not_valid (u : Supply) (free : Nat) :
    ({ u with checkSkew := lostSkew free } : Supply).checkValid = false := by
  simp [Supply.checkValid]
  exact lostSkew_ne_zero free

/-- After either start the stored check value is the content's (R186, R187). -/
@[simp] theorem Supply.start_checkValid (kind : StartKind) (cause : StartCause) (u : Supply) :
    (Supply.start kind cause u).checkValid = true := rfl

end Sys2Proof.Machine
end

