-- ==== Sys2Proof/Laws/Table.lean ====
section
/-! SUPPORT. The pass table: what a lookup finds, and what each change of the table leaves of the other records and of the
table's form (R4 to R8). -/

namespace Sys2Proof.Machine

/-! ## Lookups -/

theorem isRecordOf_iff (p : PassNo) (e : Nat × PassRecord) :
    isRecordOf p e = true ↔ e.1 / 4 = bucketOf p ∧ e.2.pass = p := by
  simp [isRecordOf]

/-- What a lookup finds stands in the table, in the pass's bucket, with the pass's number (R6). -/
theorem findPass_spec {t : PassTable} {p : PassNo} {k : Nat} {r : PassRecord} (h : findPass t p = some (k, r)) :
    (k, r) ∈ t ∧ k / 4 = bucketOf p ∧ r.pass = p :=
  ⟨List.mem_of_find?_eq_some h, (isRecordOf_iff p (k, r)).mp (List.find?_some h)⟩

theorem findPass_none_iff (t : PassTable) (p : PassNo) :
    findPass t p = none ↔ ∀ e ∈ t, ¬(e.1 / 4 = bucketOf p ∧ e.2.pass = p) := by
  simp only [findPass, List.find?_eq_none, isRecordOf_iff]

/-- In a table of its form a lookup misses a pass exactly where no record has its number. -/
theorem findPass_none_of_form {t : PassTable} (ht : TableForm t) (p : PassNo) :
    findPass t p = none ↔ ∀ e ∈ t, e.2.pass ≠ p := by
  rw [findPass_none_iff]
  constructor
  · intro h e he hp
    exact h e he ⟨hp ▸ (ht.2.1 e he).2.1, hp⟩
  · intro h e he hh
    exact h e he hh.2

/-- In a table of its form a lookup of a record's own pass finds that record. -/
theorem findPass_of_mem {t : PassTable} (ht : TableForm t) {e : Nat × PassRecord} (he : e ∈ t) :
    findPass t e.2.pass = some e := by
  cases h : findPass t e.2.pass with
  | none => exact absurd rfl ((findPass_none_of_form ht _).mp h e he)
  | some x =>
    obtain ⟨k, r⟩ := x
    have hs := findPass_spec h
    exact congrArg some (List.inj_on_of_nodup_map ht.2.2 hs.1 he hs.2.2)

theorem findRecord_of_mem {t : PassTable} (ht : TableForm t) {e : Nat × PassRecord} (he : e ∈ t) :
    findRecord t e.2.pass = some e.2 := by
  simp [findRecord, findPass_of_mem ht he]

theorem findRecord_mem {t : PassTable} {p : PassNo} {r : PassRecord} (h : findRecord t p = some r) :
    ∃ k, (k, r) ∈ t ∧ r.pass = p := by
  simp only [findRecord, Option.map_eq_some_iff] at h
  obtain ⟨⟨k, x⟩, hx, rfl⟩ := h
  exact ⟨k, (findPass_spec hx).1, (findPass_spec hx).2.2⟩

/-! ## A change of one record -/

/-- A change of the record of one pass that keeps its number is seen by a lookup of that pass. -/
theorem findPass_updateRecord_same (t : PassTable) (p : PassNo) (f : PassRecord → PassRecord)
    (hf : ∀ r, (f r).pass = r.pass) :
    findPass (updateRecord t p f) p = (findPass t p).map fun e => (e.1, f e.2) := by
  induction t with
  | nil => rfl
  | cons e t ih =>
    by_cases h : isRecordOf p e = true
    · have h' : isRecordOf p (e.1, f e.2) = true := by
        rw [isRecordOf_iff] at h ⊢
        exact ⟨h.1, (hf e.2).trans h.2⟩
      simp [updateRecord, findPass, h, h']
    · have h2 : updateRecord (e :: t) p f = e :: updateRecord t p f := by simp [updateRecord, h]
      rw [h2]
      simpa [findPass, h] using ih

/-- A change of the record of one pass that keeps its number leaves the lookup of every other pass. -/
theorem findPass_updateRecord_other (t : PassTable) (p q : PassNo) (f : PassRecord → PassRecord)
    (hf : ∀ r, (f r).pass = r.pass) (hq : q ≠ p) : findPass (updateRecord t p f) q = findPass t q := by
  induction t with
  | nil => rfl
  | cons e t ih =>
    by_cases h : isRecordOf p e = true
    · have hp := ((isRecordOf_iff p e).mp h).2
      have h1 : isRecordOf q e = false := by
        apply Bool.eq_false_iff.mpr
        intro hh
        exact hq (((isRecordOf_iff q e).mp hh).2.symm.trans hp)
      have h2 : isRecordOf q (e.1, f e.2) = false := by
        apply Bool.eq_false_iff.mpr
        intro hh
        exact hq (((isRecordOf_iff q _).mp hh).2.symm.trans ((hf e.2).trans hp))
      have h3 : updateRecord (e :: t) p f = (e.1, f e.2) :: updateRecord t p f := by simp [updateRecord, h]
      rw [h3]
      simpa [findPass, h1, h2] using ih
    · have h3 : updateRecord (e :: t) p f = e :: updateRecord t p f := by simp [updateRecord, h]
      rw [h3]
      cases hq' : isRecordOf q e <;> simp [findPass, hq'] at ih ⊢
      exact ih

theorem State.record_updateRecord_same (s : State) (p : PassNo) (f : PassRecord → PassRecord)
    (hf : ∀ r, (f r).pass = r.pass) : (s.updateRecord p f).record p = (s.record p).map f := by
  simp [State.record, findRecord, State.updateRecord, findPass_updateRecord_same _ _ _ hf, Option.map_map, Function.comp_def]

theorem State.record_updateRecord_other (s : State) (p q : PassNo) (f : PassRecord → PassRecord)
    (hf : ∀ r, (f r).pass = r.pass) (hq : q ≠ p) : (s.updateRecord p f).record q = s.record q := by
  simp [State.record, findRecord, State.updateRecord, findPass_updateRecord_other _ _ _ _ hf hq]

/-- Slots and pass numbers of a changed table. -/
theorem map_slots_updateRecord (t : PassTable) (p : PassNo) (f : PassRecord → PassRecord) :
    (updateRecord t p f).map (·.1) = t.map (·.1) := by
  simp only [updateRecord, List.map_map]
  apply List.map_congr_left
  intro e _
  by_cases h : isRecordOf p e <;> simp [h]

theorem map_passes_updateRecord (t : PassTable) (p : PassNo) (f : PassRecord → PassRecord)
    (hf : ∀ r, (f r).pass = r.pass) : (updateRecord t p f).map (·.2.pass) = t.map (·.2.pass) := by
  simp only [updateRecord, List.map_map]
  apply List.map_congr_left
  intro e _
  by_cases h : isRecordOf p e <;> simp [h, hf]

/-- An entry of a changed table is one of the table, changed where it is the pass's record. -/
theorem mem_updateRecord {t : PassTable} {p : PassNo} {f : PassRecord → PassRecord} {e : Nat × PassRecord} :
    e ∈ updateRecord t p f ↔ ∃ x ∈ t, e = if isRecordOf p x then (x.1, f x.2) else x := by
  simp only [updateRecord, List.mem_map, eq_comm]

theorem TableForm.updateRecord {t : PassTable} (ht : TableForm t) (p : PassNo) (f : PassRecord → PassRecord)
    (hf : ∀ r, (f r).pass = r.pass) : TableForm (updateRecord t p f) := by
  refine ⟨by rw [map_slots_updateRecord]; exact ht.1, ?_, by rw [map_passes_updateRecord t p f hf]; exact ht.2.2⟩
  intro e he
  obtain ⟨x, hx, rfl⟩ := mem_updateRecord.mp he
  have := ht.2.1 x hx
  by_cases h : isRecordOf p x = true
  · simp only [h, if_true, hf]
    exact this
  · simp only [h, Bool.false_eq_true, if_false]
    exact this

/-! ## Records that leave, and a new record -/

theorem TableForm.filter {t : PassTable} (ht : TableForm t) (keep : Nat × PassRecord → Bool) : TableForm (t.filter keep) := by
  refine ⟨?_, fun e he => ht.2.1 e (List.mem_filter.mp he).1, ?_⟩
  · exact ht.1.sublist (List.Sublist.map _ List.filter_sublist)
  · exact ht.2.2.sublist (List.Sublist.map _ List.filter_sublist)

/-- A table whose slots rise, after a record is put into a slot: the new entry, and the entries of the other slots. -/
theorem mem_putSlot {t : PassTable} (ht : (t.map (·.1)).Pairwise (· < ·)) (k : Nat) (r : PassRecord)
    (e : Nat × PassRecord) : e ∈ putSlot t k r ↔ e = (k, r) ∨ (e ∈ t ∧ e.1 ≠ k) := by
  induction t with
  | nil => simp [putSlot]
  | cons x t ih =>
    simp only [List.map_cons, List.pairwise_cons, List.mem_map, forall_exists_index, and_imp,
      forall_apply_eq_imp_iff₂] at ht
    unfold putSlot
    split
    · rename_i h
      simp only [List.mem_cons]
      constructor
      · rintro (h1 | h1 | h1)
        · exact .inl h1
        · exact .inr ⟨.inl h1, by rw [h1]; omega⟩
        · exact .inr ⟨.inr h1, by have := ht.1 e h1; omega⟩
      · rintro (h1 | ⟨h1 | h1, _⟩)
        · exact .inl h1
        · exact .inr (.inl h1)
        · exact .inr (.inr h1)
    · split
      · rename_i h
        simp only [List.mem_cons]
        constructor
        · rintro (h1 | h1)
          · exact .inl h1
          · exact .inr ⟨.inr h1, by have := ht.1 e h1; omega⟩
        · rintro (h1 | ⟨h1 | h1, h2⟩)
          · exact .inl h1
          · rw [h1] at h2; omega
          · exact .inr h1
      · rename_i h1 h2
        simp only [List.mem_cons, ih ht.2]
        constructor
        · rintro (h3 | h3 | h3)
          · exact .inr ⟨.inl h3, by rw [h3]; omega⟩
          · exact .inl h3
          · exact .inr ⟨.inr h3.1, h3.2⟩
        · rintro (h3 | ⟨h3 | h3, h4⟩)
          · exact .inr (.inl h3)
          · exact .inl h3
          · exact .inr (.inr ⟨h3, h4⟩)

theorem putSlot_sorted {t : PassTable} (ht : (t.map (·.1)).Pairwise (· < ·)) (k : Nat) (r : PassRecord) :
    ((putSlot t k r).map (·.1)).Pairwise (· < ·) := by
  induction t with
  | nil => simp [putSlot]
  | cons x t ih =>
    have hx := ht
    simp only [List.map_cons, List.pairwise_cons, List.mem_map, forall_exists_index, and_imp,
      forall_apply_eq_imp_iff₂] at ht
    unfold putSlot
    split
    · rename_i h
      simp only [List.map_cons, List.pairwise_cons, List.mem_cons, List.mem_map, forall_eq_or_imp, forall_exists_index,
        and_imp, forall_apply_eq_imp_iff₂]
      exact ⟨⟨h, fun e he => Nat.lt_trans h (ht.1 e he)⟩, ht⟩
    · split
      · rename_i h
        simp only [List.map_cons, List.pairwise_cons, List.mem_map, forall_exists_index, and_imp,
          forall_apply_eq_imp_iff₂]
        exact ⟨fun e he => h ▸ ht.1 e he, ht.2⟩
      · rename_i h1 h2
        simp only [List.map_cons, List.pairwise_cons, List.mem_map, forall_exists_index, and_imp,
          forall_apply_eq_imp_iff₂]
        refine ⟨fun e he => ?_, ih ht.2⟩
        rcases (mem_putSlot ht.2 k r e).mp he with h3 | h3
        · rw [h3]; show x.1 < k; omega
        · exact ht.1 e h3.1

/-- A new record of an absent pass, put into a slot of its own bucket, keeps the table's form. -/
theorem TableForm.putSlot {t : PassTable} (ht : TableForm t) (k : Nat) (r : PassRecord) (hk : k < 4096)
    (hb : k / 4 = bucketOf r.pass) (h0 : r.pass ≠ 0) (ha : ∀ e ∈ t, e.2.pass ≠ r.pass) : TableForm (putSlot t k r) := by
  have hs := putSlot_sorted ht.1 k r
  have hm := fun e => mem_putSlot ht.1 k r e
  refine ⟨hs, ?_, ?_⟩
  · intro e he
    rcases (hm e).mp he with rfl | h
    · exact ⟨hk, hb, h0⟩
    · exact ht.2.1 e h.1
  · have hnd : (Machine.putSlot t k r).Nodup := by
      have h1 : ((Machine.putSlot t k r).map (·.1)).Nodup := hs.imp (fun h => Nat.ne_of_lt h)
      exact List.Nodup.of_map _ h1
    refine (List.nodup_map_iff_inj_on hnd).mpr ?_
    intro x hx y hy hxy
    rcases (hm x).mp hx with rfl | hx1 <;> rcases (hm y).mp hy with rfl | hy1
    · rfl
    · exact absurd hxy.symm (ha y hy1.1)
    · exact absurd hxy (ha x hx1.1)
    · exact List.inj_on_of_nodup_map ht.2.2 hx1.1 hy1.1 hxy

/-! ## The place of a new record -/

/-- The lowest-numbered free way of a bucket lies in the bucket and is free (R5). -/
theorem freeSlot_spec {t : PassTable} {b k : Nat} (h : freeSlot t b = some k) : k / 4 = b ∧ ∀ e ∈ t, e.1 ≠ k := by
  have h1 := List.find?_some h
  have h2 := List.mem_of_find?_eq_some h
  simp only [List.mem_cons, List.not_mem_nil, or_false] at h2
  simp only [List.all_eq_true, bne_iff_ne] at h1
  exact ⟨by omega, h1⟩

theorem firstToEvict_foldl_mem {l : List (Nat × PassRecord)} {a : Option (Nat × PassRecord)} {e : Nat × PassRecord}
    (h : l.foldl firstToEvict a = some e) : a = some e ∨ e ∈ l := by
  induction l generalizing a with
  | nil => exact .inl h
  | cons x l ih =>
    rcases ih h with h1 | h1
    · unfold firstToEvict at h1
      cases a with
      | none => simp only [Option.some.injEq] at h1; exact .inr (by simp [h1])
      | some b =>
        simp only at h1
        split at h1
        · simp only [Option.some.injEq] at h1; exact .inr (by simp [h1])
        · exact .inl h1
    · exact .inr (List.mem_cons_of_mem _ h1)

/-- The eviction candidate of a bucket is one of its LEARNED records without a pin (R8). -/
theorem evictionCandidate_spec {t : PassTable} {b : Nat} {e : Nat × PassRecord} (h : evictionCandidate t b = some e) :
    e ∈ t ∧ e.1 / 4 = b ∧ e.2.evictable = true := by
  rcases firstToEvict_foldl_mem h with h1 | h1
  · simp at h1
  · simpa [and_assoc] using h1

/-- The slot of a new record lies in the pass's bucket (R5, R8). -/
theorem placeFor_bucket {t : PassTable} {p : PassNo} {k : Nat} {q : PassNo} (h : placeFor t p = some (k, q)) :
    k / 4 = bucketOf p := by
  unfold placeFor at h
  cases hf : freeSlot t (bucketOf p) with
  | some j =>
    simp only [hf, Option.some.injEq, Prod.mk.injEq] at h
    exact h.1 ▸ (freeSlot_spec hf).1
  | none =>
    simp only [hf, Option.map_eq_some_iff, Prod.mk.injEq] at h
    obtain ⟨e, he, h1, _⟩ := h
    exact h1 ▸ (evictionCandidate_spec he).2.1

theorem bucketOf_lt (p : PassNo) : bucketOf p < 1024 := BitVec.isLt _

/-- A pass that a lookup misses gets a new record in the place of R5, and the table keeps its form. -/
theorem TableForm.create {t : PassTable} (ht : TableForm t) {p : PassNo} {k : Nat} {q : PassNo} (h0 : p ≠ 0)
    (hn : findPass t p = none) (h : placeFor t p = some (k, q)) (r : PassRecord) (hr : r.pass = p) :
    TableForm (Machine.putSlot t k r) := by
  have hb := placeFor_bucket h
  have hl := bucketOf_lt p
  refine TableForm.putSlot ht k r (by omega) (hr ▸ hb) (hr ▸ h0) ?_
  rw [hr]
  exact (findPass_none_of_form ht p).mp hn

end Sys2Proof.Machine
end

