-- ==== Sys2Proof/WellFormed.lean ====
section
/-! DEFINITION. Which terms of `Instr` are commands that can reach the part. -/

namespace Sys2Proof

/-- The currents of a tune lie in 0 to 2,000 mA (R52). -/
def maxCurrent : Nat := 2000

/-- An answer is the lead-in followed by a frame of `n` bytes (R41, R45), received in full unless the
receiver was disturbed. -/
def Reception.wellFormed (n : Nat) (r : Reception) : Bool :=
  match r.frame with
  | none => true
  | some f => r.overdrive || r.violation || f.length == n

/-- The checks on a command's operands that its type does not already make:
an order frame is not empty and does not begin with the fetch byte 0xF0 (R167);
a read is answered by 28 bytes and a stamp by 14 (R41, R45);
tune currents lie in the range the reader measures (R52);
a withdrawal that is handed over has the reason BLOCKED or LANE_CLOSED (R113). -/
def Instr.wellFormed : Instr → Bool
  | .orderFrame _ bytes insideByte =>
    match bytes with
    | [] => insideByte
    | b :: _ => b != 0xF0#8
  | .readVisitCompletion r => r.wellFormed 28
  | .stampAttemptCompletion r => r.wellFormed 14
  | .tuneCompletion i4 i12 => i4 ≤ maxCurrent && i12 ≤ maxCurrent
  | .withdrawalTaken _ r => r == .blocked || r == .laneClosed
  | _ => true

end Sys2Proof
end

