-- ==== Sys2Proof/Tests/Slice0.lean ====
section
/-! SUPPORT. Tests: ill-formed commands, the spec's worked examples, and for every statement of
Sys2Proof/Certificates/Slice0/Obligations.lean that has hypotheses a state that meets them (`test_meets_…`), at the
boundaries of its clauses. -/

namespace Sys2Proof.Tests

set_option Elab.async false

open Sys2Proof Sys2Proof.Machine

/-! ## Small states -/

/-- The state after a command. -/
def after (c : Instr) (s : State) : State :=
  match exec c s with
  | .next t => t
  | .fault _ => s
  | .refused _ => s

/-- The reply on a port. -/
def reply (p : Port) (s : State) : Option (Result × Body) :=
  match (s.port p).slot with
  | .ready r => some (r.result, r.body)
  | .empty => none
  | .inProgress _ => none

def atMs (ms : Nat) (s : State) : State := s.withTime fun t => { t with ms := ms, runSec := ms / 1000 }

def setClock (day tod : Nat) (s : State) : State := s.withTime fun t => { t with tod := some tod, lastDay := day }

def openLane (n : Lane) (s : State) : State := s.withLane n fun u => { u with mode := .opened }

def supplyIn (x : SupplyState) (s : State) : State := s.withSupply fun u => { u with state := x }

def contextOf (p : Option PassNo) (granted : Option Nat) : Context :=
  { pass := p, cls := 0, newDay := false, noCharge := false, grantTime := granted,
    windowEnd := granted.map (· + 8000) }

/-- A lane with a context that holds a pass or none, in GRANTED or ENTERING. -/
def liveLane (n : Lane) (x : Passage) (p : Option PassNo) (s : State) : State :=
  ((s.withLane n fun u => { u with mode := .opened, passage := x, ctx := some (contextOf p (some 0)) }).withLoad
    fun l => { l with live := l.live + 1 })

def entryOf (n : Lane) (p : PassNo) (cls : Nat) : QueueEntry :=
  { lane := n, pass := p, cls := cls, enqueued := 0, deadline := 20000 }

/-- A lane QUEUED with an entry in the queue. -/
def queuedLane (n : Lane) (p : Option PassNo) (s : State) : State :=
  (s.withLane n fun u => { u with mode := .opened, passage := .queued, ctx := some (contextOf p none) }).withLoad
    fun l => { l with queue := enqueue (entryOf n (p.getD 0) 0) l.queue }

/-- A record in way 0 of its bucket. -/
def holding (r : PassRecord) (s : State) : State := s.withTable fun t => putSlot t (4 * bucketOf r.pass) r

def plain (p : PassNo) : PassRecord := newRecord p .resident .active none 0

/-- A port with a long order in progress. -/
def busyPort (p : Port) (s : State) : State := s.inProgress p 0x75

/-! ## Ill-formed commands -/

theorem test_ill_empty_frame : (Instr.orderFrame .sp [] false).wellFormed = false := by decide +kernel
theorem test_well_frame_inside_byte : (Instr.orderFrame .sp [] true).wellFormed = true := by decide +kernel
theorem test_ill_frame_is_fetch : (Instr.orderFrame .sp [0xF0, 0] false).wellFormed = false := by decide +kernel
theorem test_ill_read_length :
    (Instr.readVisitCompletion { overdrive := false, violation := false, heard := [0xFA, 0xA1] }).wellFormed = false := by
  decide +kernel
theorem test_ill_stamp_length :
    (Instr.stampAttemptCompletion { overdrive := false, violation := false, heard := [0xFA, 0xB6] }).wellFormed =
      false := by
  decide +kernel
theorem test_ill_first_current : (Instr.tuneCompletion 2001 0).wellFormed = false := by decide +kernel
theorem test_ill_second_current : (Instr.tuneCompletion 0 2001).wellFormed = false := by decide +kernel
theorem test_ill_withdrawal_reason : (Instr.withdrawalTaken .l0 .holdTimeout).wellFormed = false := by decide +kernel
theorem test_ill_withdrawal_low_supply : (Instr.withdrawalTaken .l0 .lowSupply).wellFormed = false := by decide +kernel

/-! ## The machine as a whole -/

theorem test_idle_tick : State.reset.due = [] ∧ State.reset.tick.time.ms = 1 := by decide +kernel
theorem test_meets_deadline_due :
    (atMs 1000 State.reset).pending = [] ∧ (atMs 1000 State.reset).due = [.localSecondBoundary] := by
  decide +kernel
theorem test_run_second : (atMs 999 State.reset).tick.time.runSec = 1 := by decide +kernel
theorem test_meets_stopped : (supplyIn .down State.reset).stopped = true ∧ (after .reset State.reset).stopped = true := by
  decide +kernel
theorem test_ports_open : State.reset.portOpen .sp = true ∧ State.reset.portOpen (.lp .l3) = true := by decide +kernel

/-! ## Order ports -/

/-- The order frame of the worked example of chapter 11 (section 11.2). -/
theorem test_verdict_fetch_frame :
    orderBody (.verdictFetch (.lp .l0) 0) = some (0x34, [0]) ∧ (frameOf 0x34 [0]).take 3 = [0x34, 1, 0] := by
  decide +kernel

/-- The reply body of the worked example of chapter 11. -/
theorem test_verdict_reply :
    (Body.verdict { seq := 42, kind := .admitted, pass := 0x123456789A, product := some 212, remaining := 2,
                    lastDay := some 420, flags := .none, cls := 3, passage := .granted }).bytes =
      [0x2A, 0x01, 0x00, 0x03, 0x12, 0x34, 0x56, 0x78, 0x9A, 0x00, 0xD4, 0x02, 0x01, 0xA4, 0x00, 0x03, 0x02] := by
  decide +kernel

theorem test_frame_bad_check :
    reply .sp (after (.orderFrame .sp [0xA3, 0, (crc8 [0xA3, 0]) ^^^ 1] false) State.reset) = some (.badFrame, .none) := by
  decide +kernel
theorem test_frame_long_length :
    reply .sp (after (.orderFrame .sp (frameOf 0xA3 (List.replicate 57 0)) false) State.reset) =
      some (.badFrame, .none) := by
  decide +kernel
theorem test_frame_unknown :
    reply .sp (after (.orderFrame .sp (frameOf 0x55 (List.replicate 56 0)) false) State.reset) =
      some (.unknown, .none) := by
  decide +kernel
theorem test_frame_wrong_length :
    reply .sp (after (.orderFrame .sp (frameOf 0xA3 [0]) false) State.reset) = some (.badArg, .none) := by
  decide +kernel
theorem test_frame_ident :
    reply .sp (after (.orderFrame .sp (frameOf 0xA3 []) false) State.reset) = some (.ok, .ident .sp) := by
  decide +kernel
theorem test_meets_in_progress :
    (busyPort .sp State.reset).stopped = false ∧ ((busyPort .sp State.reset).port .sp).awaitRelease = false ∧
      ((busyPort .sp State.reset).port .sp).slot = .inProgress 0x75 ∧
      ((after (.orderFrameDiscarded .sp) (busyPort .sp State.reset)).port .sp).lost = true := by
  decide +kernel
theorem test_meets_station_row_on_lane :
    orderBody (.clockStatus (.lp .l0)) = some (0x83, []) ∧ stationRow (.clockStatus (.lp .l0)) = true ∧
      reply (.lp .l0) (after (.clockStatus (.lp .l0)) State.reset) = some (.denied, .none) := by
  decide +kernel
theorem test_meets_other_lane :
    namedLane (.laneStatus (.lp .l0) 3) = some 3 ∧ laneOf 3 = some .l3 ∧
      reply (.lp .l0) (after (.laneStatus (.lp .l0) 3) State.reset) = some (.denied, .none) := by
  decide +kernel
theorem test_meets_counts_denied :
    reply (.lp .l0) (after (.countsRead (.lp .l0) 0 2 0 0 0) State.reset) = some (.denied, .none) ∧
      reply (.lp .l0) (after (.countsRead (.lp .l0) 0 3 0 0 1) State.reset) = some (.denied, .none) ∧
      reply (.lp .l0) (after (.countsRead (.lp .l0) 0 1 1 0 0) State.reset) = some (.denied, .none) := by
  decide +kernel
theorem test_meets_counts_denied_bad_part :
    reply (.lp .l0) (after (.countsRead (.lp .l0) 0 4 1 0 0) State.reset) = some (.badArg, .none) := by
  decide +kernel
theorem test_manual_on_station : reply .sp (after (.manualGrant .sp 0) State.reset) = some (.denied, .none) := by decide +kernel

/-- A port with IDENT's reply ready, and its fetch open. -/
def fetching : State := after (.fetchStatusFixed .sp) (after (.ident .sp) State.reset)

theorem test_meets_fetch :
    (fetching.port .sp).fetch = some [0x5A, 0xA3, 0x00, 0x00, 6, 0x0C, 0x4A, 0x04, 0x40, 0x01, 4,
      crc8 [0x5A, 0xA3, 0x00, 0x00, 6, 0x0C, 0x4A, 0x04, 0x40, 0x01, 4]] := by
  decide +kernel
theorem test_fetch_delivers :
    ((after (.fetchTransaction .sp 11) fetching).port .sp).delivered = false ∧
      ((after (.fetchTransaction .sp 12) fetching).port .sp).delivered = true ∧
      ((after (.fetchTransaction .sp 13) fetching).port .sp).sent.length = 13 := by
  decide +kernel
theorem test_meets_fetch_of_nothing : ((after (.fetchStatusFixed .sp) State.reset).port .sp).fetch = some [] := by decide +kernel
/-- A fetch transaction that fixes its own status, one that only releases its port, and the data output after an order. -/
theorem test_meets_fetch_unfixed :
    ((after (.ident .sp) State.reset).port .sp).fetch = none ∧
      ((after (.fetchTransaction .sp 12) (after (.ident .sp) State.reset)).port .sp).delivered = true ∧
      ((after (.fetchTransaction .sp 3) State.reset).port .sp).sent = [0, 0, 0] ∧
      ((after (.fetchTransaction .sp 3) (State.reset.withPort .sp fun c => { c with awaitRelease := true })).port
        .sp).awaitRelease = false := by
  decide +kernel
theorem test_data_output :
    (after (.fetchTransaction .sp 12) fetching).dataByte .sp 0 = 0x5A ∧
      (after (.ident .sp) (after (.fetchTransaction .sp 12) fetching)).dataByte .sp 0 = 0 ∧
      (after .reset (after (.fetchTransaction .sp 12) fetching)).dataByte .sp 0 = 0 := by
  decide +kernel
theorem test_notice_fetch :
    reply .sp (after (.noticeFetch .sp) State.reset) = some (.ok, .notices 0x0040 (some (some .cold))) ∧
      ((after (.noticeFetch .sp) State.reset).port .sp).notices = 0 := by
  decide +kernel
theorem test_meets_mask_refused :
    (0x0040 : BitVec 16) &&& ~~~(portNotices (.lp .l0)) ≠ 0 ∧
      reply (.lp .l0) (after (.noticeMask (.lp .l0) 0x0040) State.reset) = some (.badArg, .none) := by
  decide +kernel
theorem test_meets_mask_taken :
    (0x01FF : BitVec 16) &&& ~~~(portNotices .sp) = 0 ∧ State.reset.atn .sp = true ∧
      (after (.noticeMask .sp 0x01FF) State.reset).atn .sp = false := by
  decide +kernel

/-! ## Pass table -/

/-- The worked example of section 1.2. -/
theorem test_bucket_example : bucketOf 78187493530 = 521 ∧ bucketOf 78187493531 = 520 := by decide +kernel

/-- Table 1-3, with a pass of bucket 521 in each way. -/
def table13 : PassTable :=
  [(2084, { plain 521 with lastSeen := 1210 }),
   (2085, { plain (520 + 1024) with origin := .learned, live := some .l2, lastSeen := 4100 }),
   (2086, { plain (523 + 2 * 1024) with origin := .learned, lastSeen := 3950 }),
   (2087, { plain (522 + 3 * 1024) with origin := .learned, state := .blocked, lastSeen := 3950 })]

theorem test_table13_has_no_free_way : freeSlot table13 521 = none := by decide +kernel
theorem test_eviction_example : placeFor table13 78187493530 = some (2086, 523 + 2 * 1024) := by decide +kernel
theorem test_meets_table_form : TableForm table13 := by
  refine ⟨by decide, ?_, by decide +kernel⟩
  decide +kernel
theorem test_no_place :
    placeFor (table13.map fun e => (e.1, { e.2 with origin := .resident })) 78187493530 = none := by
  decide +kernel
theorem test_free_way_first : placeFor (table13.filter fun e => e.1 != 2085) 78187493530 = some (2085, 0) := by decide +kernel

theorem test_meets_put_absent :
    findPass State.reset.table 521 = none ∧ placeFor State.reset.table 521 = some (2084, 0) ∧
      reply .sp (after (.passPut .sp 521 1) State.reset) = some (.ok, .passEdit true 521 0 0) := by
  decide +kernel
theorem test_put_full :
    reply .sp (after (.passPut .sp 78187493530 0)
      { State.reset with table := table13.map fun e => (e.1, { e.2 with origin := .resident }) }) =
        some (.tableFull, .none) := by
  decide +kernel
theorem test_meets_edit_present :
    findPass (holding (plain 521) State.reset).table 521 = some (2084, plain 521) ∧
      reply .sp (after (.passUnblock .sp 521) (holding (plain 521) State.reset)) =
        some (.ok, .passEdit false 521 0 0) := by
  decide +kernel
theorem test_meets_edit_refunded :
    reply .sp (after (.passBlock .sp 521) (holding { plain 521 with state := .refunded } State.reset)) =
      some (.state, .none) := by
  decide +kernel
theorem test_meets_block_queued :
    (queuedLane .l1 (some 521) State.reset).holderOf 521 = some .l1 ∧
      ((queuedLane .l1 (some 521) State.reset).lane .l1).passage = .queued ∧
      (after (.passBlock .sp 521) (queuedLane .l1 (some 521) State.reset)).load.handed =
        [{ lane := .l1, reason := .blocked }] := by
  decide +kernel
theorem test_meets_block_granted :
    (liveLane .l1 .granted (some 521) State.reset).holderOf 521 = some .l1 ∧
      (after (.passBlock .sp 521) (liveLane .l1 .granted (some 521) State.reset)).load.handed = [] := by
  decide +kernel
theorem test_meets_erase :
    (plain 521).pinned = false ∧ ({ plain 521 with behind := true } : PassRecord).pinned = true ∧
      (after (.passErase .sp 521) (holding (plain 521) State.reset)).table = [] := by
  decide +kernel
theorem test_erase_pinned :
    reply .sp (after (.passErase .sp 521) (holding { plain 521 with behind := true } State.reset)) =
      some (.pinned, .none) := by
  decide +kernel
theorem test_clear_learned :
    reply .sp (after (.passClearLearned .sp) { State.reset with table := table13 }) = some (.ok, .cleared 2) := by
  decide +kernel
theorem test_table_status :
    reply .sp (after (.tableStatus .sp) { State.reset with table := table13 }) =
      some (.ok, .tableStatus 1 3 1 1 0) := by
  decide +kernel
theorem test_meets_pass_zero :
    reply .sp (after (.passPut .sp 0 0) State.reset) = some (.badArg, .none) ∧
      reply .sp (after (.passBlock .sp 0) State.reset) = some (.badArg, .none) ∧
      reply .sp (after (.passUnblock .sp 0) State.reset) = some (.badArg, .none) ∧
      reply .sp (after (.passErase .sp 0) State.reset) = some (.badArg, .none) ∧
      reply (.lp .l3) (after (.passQuery (.lp .l3) 0) State.reset) = some (.badArg, .none) := by
  decide +kernel
theorem test_meets_query :
    reply (.lp .l2) (after (.passQuery (.lp .l2) 521) (holding (plain 521) State.reset)) =
      some (.ok, .passRecord 521 0 (plain 521) 0) := by
  decide +kernel

def ticket6 : Ticket := { product := 300, days := 6, firstDay := 400, lastDay := 414, paid := 41800 }

def cardQ : Card :=
  { pass := 521, resort := 0, ticket := ticket6, used := 7, lastUse := 411, markBit := false, seq := 64, ticketOk := true,
    usageOk := true }

theorem test_meets_merge :
    UsageBound (plain 521) ∧ (mergeWrite cardQ (plain 521)).used = 6 ∧ (mergeWrite cardQ (plain 521)).lastUse = some 411 := by
  refine ⟨rfl, by decide +kernel, by decide +kernel⟩
theorem test_meets_consume :
    (consume 411 { plain 521 with ticket := some ticket6, used := 5 }).used = 6 ∧
      (consume 411 { plain 521 with ticket := some ticket6, used := 6 }).used = 6 := by
  decide +kernel

theorem test_consume_keeps_the_later_day :
    (consume 411 { plain 521 with ticket := some ticket6, lastUse := some 420 }).lastUse = some 420 := by
  decide +kernel
theorem test_merge_gives_an_absent_day :
    (mergeWrite { cardQ with used := 1 } (plain 521)).lastUse = some 411 ∧ aheadOf cardQ (plain 521) = false ∧
      (mergeWrite { cardQ with used := 0 } (plain 521)).lastUse = none ∧
      aheadOf { cardQ with lastUse := 410 } { plain 521 with lastUse := some 411 } = true := by
  decide +kernel

def noteOf (flags : VerdictFlags) : Note :=
  { cls := 3, data := some { seq := 63, flags := flags, product := 300, days := 6, used := 2, lastDay := 414 } }

/-- Lane 1 holds pass 521 with a record and an admission note. -/
def noted (x : Passage) (flags : VerdictFlags) : State :=
  (holding { plain 521 with ticket := some ticket6, used := 2, live := some .l1 }
    (liveLane .l1 x (some 521) (setClock 411 36000 State.reset))).withAdm fun a =>
    { a with notes := a.notes.set .l1 (some (noteOf flags)) }

theorem test_meets_grant_consumes :
    let s := noted .queued { VerdictFlags.none with newDay := true }
    (s.lane .l1).ctx.isSome = true ∧ ((s.grant .l1).record 521).map (·.used) = some 3 ∧
      (s.grant .l1).reader.stamps.map (·.requester) = [.dayStamp] ∧
      ((s.grant .l1).counts.current.lanes.get .l1).newDays = 1 := by
  decide +kernel
theorem test_meets_grant_writes_back :
    let s := noted .queued { VerdictFlags.none with behind := true }
    let u := noted .queued { VerdictFlags.none with unlearned := true, newDay := true }
    (s.grant .l1).reader.stamps.map (·.requester) = [.writeBack] ∧ (u.grant .l1).reader.stamps = [] ∧
      (u.grant .l1).counts.current.lift.unrecorded = 1 ∧
      ((noted .queued .none).grant .l1).reader.stamps = [] := by
  decide +kernel
theorem test_meets_passage_write :
    let s := noted .entering .none
    let u := noted .entering { VerdictFlags.none with unlearned := true }
    ((s.forwardPassage .l1).record 521).map (fun r => (r.live, r.rides)) = some (none, some { count := 1, day := 411 }) ∧
      ((u.forwardPassage .l1).record 521).map (fun r => (r.live, r.rides)) = some (none, none) := by
  decide +kernel
theorem test_meets_pin_ends :
    let s := noted .granted .none
    ((after (.grantExpiry .l1) (atMs 8000 s)).record 521).map (·.live) = some none ∧
      ((s.dropEntry .l1 .holdTimeout).record 521).map (·.live) = some none := by
  decide +kernel

/-! ## Settings and status orders -/

theorem test_meets_reader_set :
    reply .sp (after (.readerSet .sp 4 31 32 0xF8 8 600) State.reset) =
      some (.ok, .readerSettings { attempts := 4, threshold := 31, coarse := 32, fine := -8, window := 8, target := 600 }) := by
  decide +kernel
theorem test_reader_set_refused :
    reply .sp (after (.readerSet .sp 4 31 32 0xF7 8 600) State.reset) = some (.badArg, .none) := by
  decide +kernel
theorem test_meets_admit_set :
    reply .sp (after (.admitSet .sp 7 3600 100 15) State.reset) =
      some (.ok, .admSettings { resort := 7, lockout := 3600, quiet := 100, learnMask := .const true }) ∧
      reply .sp (after (.admitSet .sp 7 3600 100 16) State.reset) = some (.badArg, .none) := by
  decide +kernel
theorem test_meets_rule_put :
    (after (.rulePut .sp 15 1 4095 4095 15 1439 1439 3 1) State.reset).adm.rules[15].cls = 3 ∧
      reply .sp (after (.rulePut .sp 16 1 4095 4095 15 1439 1439 3 1) State.reset) = some (.badArg, .none) := by
  decide +kernel
theorem test_meets_lane_set :
    lanesOf 0xFF = some Lane.all ∧ lanesOf 3 = some [.l3] ∧ pitchOf 3 = some .khz32 ∧
      (after (.laneSet .sp 0xFF 10 250 3 0 1) State.reset).debounce = 250 ∧
      reply .sp (after (.laneSet .sp 4 10 250 3 0 1) State.reset) = some (.badArg, .none) := by
  decide +kernel
theorem test_lane_set_settles_pending_inputs :
    let s := after (.beamRawChange .l0 .enb true) State.reset
    ((after (.laneSet .sp 0 10 5 3 0 1) (atMs 5 s)).lane .l0).enb = { raw := true, level := true, since := none } ∧
      ((after (.laneSet .sp 0 10 5 3 0 1) (atMs 4 s)).lane .l0).enb = (s.lane .l0).enb := by
  decide +kernel
theorem test_meets_loading_set :
    (after (.loadingSet .sp 60 1) State.reset).load.limit = 60 ∧
      reply .sp (after (.loadingSet .sp 61 1) State.reset) = some (.badArg, .none) := by
  decide +kernel
theorem test_meets_refund_set :
    (after (.refundSet .sp 900) State.reset).refund.hold = 900 ∧
      reply .sp (after (.refundSet .sp 29) State.reset) = some (.badArg, .none) := by
  decide +kernel
theorem test_meets_rule_query :
    reply .sp (after (.ruleQuery .sp 1 4095) State.reset) = some (.ok, .laneRule (some 0) LaneRule.cold0) ∧
      reply .sp (after (.ruleQuery .sp 0 16) State.reset) = some (.badArg, .none) ∧
      reply .sp (after (.ruleQuery .sp 2 0) State.reset) = some (.badArg, .none) := by
  decide +kernel
theorem test_meets_verdict_fetch :
    reply (.lp .l0) (after (.verdictFetch (.lp .l0) (laneCode .l0)) State.reset) = some (.notFound, .none) ∧
      reply .sp (after (.verdictFetch .sp 4) State.reset) = some (.badArg, .none) := by
  decide +kernel
theorem test_position_status :
    reply .sp (after (.positionStatus .sp) State.reset) = some (.ok, .positionStatus State.reset.positionReport) := by
  decide +kernel
theorem test_lane_status :
    reply (.lp .l1) (after (.laneStatus (.lp .l1) 1) State.reset) = some (.ok, .laneStatus (State.reset.laneReport .l1)) := by
  decide +kernel
theorem test_loading_status :
    reply .sp (after (.loadingStatus .sp) State.reset) = some (.ok, .loadingStatus State.reset.loadingReport) := by
  decide +kernel
theorem test_clock_status :
    reply .sp (after (.clockStatus .sp) State.reset) = some (.ok, .clockStatus State.reset.time.report) := by
  decide +kernel
theorem test_refund_status :
    reply .sp (after (.refundStatus .sp) State.reset) = some (.ok, .refundStatus State.reset.refundReport) := by
  decide +kernel
theorem test_supply_status :
    reply .sp (after (.supplyStatus .sp) State.reset) = some (.ok, .supplyStatus State.reset.supplyReport) := by
  decide +kernel

/-! ## Reader -/

theorem test_meets_antenna_map :
    mapOf 5 1 2 3 0xFF =
        some { lane := { l0 := some .a5, l1 := some .a1, l2 := some .a2, l3 := some .a3 }, ps := none } ∧
      mapOf 1 1 2 3 4 = none ∧ mapOf 6 1 2 3 4 = none ∧ State.reset.reader.visit = none ∧
      (after (.antennaMap .sp 5 1 2 3 0xFF) State.reset).reader.map.ps = none := by
  decide +kernel
theorem test_meets_antenna_tune :
    antennaOf 5 = some .a5 ∧ antennaOf 6 = none ∧
      (after (.antennaTune .sp 5) State.reset).reader.visit = some (.tune .a5 250 true) ∧
      ((after (.antennaTune .sp 5) State.reset).port .sp).slot = .inProgress 0x23 ∧
      reply .sp (after (.antennaTune .sp 5) (supplyIn .low State.reset)) = some (.lowSupply, .none) := by
  decide +kernel

def laneStamp (attempts : Nat) : StampReq :=
  { position := .lane .l1, requester := .dayStamp, pass := 521, used := 1, lastUse := some 411, mark := false, seq := 1,
    attempts := attempts, time := 0, echoed := none }

def withStamp (attempts : Nat) (s : State) : State := s.withReader fun d => { d with stamps := [laneStamp attempts] }

/-- A read or stamp visit in flight. -/
def inVisit (p : Purpose) (pos : Position) (a : Antenna) (s : State) : State :=
  s.withReader fun d => { d with visit := some (s.cardVisit p pos a) }

/-- Lane 0's visit is in flight: the exchange of its antenna with lane 1's waits, a change of lane 2 does not. -/
theorem test_meets_map_deferred :
    let s := inVisit .scanRead (.lane .l0) .a0 State.reset
    let t := after (.antennaMap .sp 1 0 5 3 4) s
    t.reader.map = { coldMap with lane := { coldMap.lane with l2 := some .a5 } } ∧
      t.reader.deferred.get (.lane .l0) = some (some .a1) ∧ t.reader.deferred.get (.lane .l1) = some (some .a0) ∧
      (t.port (.lp .l2)).notices = LaneNotice.position.mask ∧
      t.endVisit.reader.map.lane = { l0 := some .a1, l1 := some .a0, l2 := some .a5, l3 := some .a3 } := by
  decide +kernel
/-- Lane 1 waited for lane 0's antenna; a second map gives it a free one, which it takes at once (log 40). -/
theorem test_second_map_frees_a_waiting_position :
    let s := after (.antennaMap .sp 1 0 2 3 4) (inVisit .scanRead (.lane .l0) .a0 State.reset)
    let t := after (.antennaMap .sp 1 5 2 3 4) s
    s.reader.deferred.get (.lane .l1) = some (some .a0) ∧ t.reader.map.get (.lane .l1) = some .a5 ∧
      t.reader.deferred.get (.lane .l1) = none ∧ t.reader.deferred.get (.lane .l0) = some (some .a1) := by
  decide +kernel
theorem test_unmapped_position_ends_its_work :
    (after (.antennaMap .sp 0 0xFF 2 3 4) (withStamp 2 State.reset)).reader.stamps = [] := by
  decide +kernel
theorem test_meets_position_states :
    (openLane .l0 State.reset).posState (.lane .l0) = .scan ∧ State.reset.posState (.lane .l0) = .off ∧
      (withStamp 1 State.reset).posState (.lane .l1) = .busy := by
  decide +kernel
theorem test_meets_arbiter_service :
    (State.reset.withReader fun d => { d with slot := some (.read 0) }).arbiter.reader.visit =
      some (State.reset.cardVisit .serviceRead .ps .a4) := by
  decide +kernel
theorem test_meets_arbiter_stamp :
    (withStamp 3 State.reset).reader.map.get (.lane .l1) = some .a1 ∧
      (withStamp 3 (openLane .l0 State.reset)).arbiter.reader.visit =
        some (State.reset.cardVisit .laneStamp (.lane .l1) .a1) := by
  decide +kernel
theorem test_meets_arbiter_scan :
    (openLane .l3 State.reset).scanChoice = some .l3 ∧
      (openLane .l3 State.reset).arbiter.reader.visit = some (State.reset.cardVisit .scanRead (.lane .l3) .a3) ∧
      (openLane .l0 (openLane .l3 State.reset)).arbiter.reader.pointer = .l0 := by
  decide +kernel

theorem test_meets_third_collide :
    ((((State.reset.applyOutcome (.lane .l0) .a0 .collide).applyOutcome (.lane .l0) .a0 .collide).applyOutcome
      (.lane .l0) .a0 .collide).port (.lp .l0)).notices &&& LaneNotice.crowded.mask ≠ 0 := by
  decide +kernel
theorem test_clip_floor :
    ((State.reset.withReader fun d => { d with levels := .const 1 }).applyOutcome (.lane .l0) .a0 .clip).reader.levels.a0 =
      1 := by
  decide +kernel
theorem test_meets_degraded :
    let s := State.reset.withReader fun d => { d with pos := d.pos.set (.lane .l0) { PosMemory.start with faultCount := 7 } }
    ((s.applyOutcome (.lane .l0) .a0 .corrupt).reader.pos.get (.lane .l0)).degraded = true ∧
      ((s.applyOutcome (.lane .l0) .a0 .silent).reader.pos.get (.lane .l0)).degraded = false := by
  decide +kernel

/-- The fault that makes a position DEGRADED requests the tune of its antenna, once: not with a request in the list, not
with its tune in flight, not while DEGRADED stays set. -/
theorem test_meets_degrading_tune :
    let s := State.reset.withReader fun d => { d with pos := d.pos.set (.lane .l0) { PosMemory.start with faultCount := 7 } }
    let t := s.applyOutcome (.lane .l0) .a0 .corrupt
    let inFlight := s.withReader fun d => { d with visit := some (.tune .a0 250 false) }
    t.reader.tuneList = [{ antenna := .a0, ordered := false }] ∧
      (t.port (.lp .l0)).notices = LaneNotice.position.mask ∧
      (t.applyOutcome (.lane .l0) .a0 .corrupt).reader.tuneList = t.reader.tuneList ∧
      (t.applyOutcome (.lane .l1) .a0 .corrupt).reader.tuneList = t.reader.tuneList ∧
      (inFlight.applyOutcome (.lane .l0) .a0 .corrupt).reader.tuneList = [] ∧
      ((inFlight.applyOutcome (.lane .l0) .a0 .corrupt).reader.pos.get (.lane .l0)).degraded = true := by
  decide +kernel
theorem test_meets_outcomes_at_ps :
    let s := State.reset.withReader fun d => { d with pos := d.pos.set .ps { PosMemory.start with faultCount := 7 } }
    let t := s.applyOutcome .ps .a4 .collide
    t.reader.pos.ps = { PosMemory.start with faultCount := 8, degraded := true, lastOutcome := some .collide } ∧
      t.reader.tuneList = [{ antenna := .a4, ordered := false }] ∧ t.ports = s.ports ∧
      (s.applyOutcome .ps .a4 .clip).reader.levels.a4 = s.reader.levels.a4 - 1 := by
  decide +kernel

/-- Table 2-7. -/
theorem test_tune_table :
    tuneOutcome 250 180 0 8 = { level := 4, current := 180, newLevel := 6, result := .ok } ∧
      tuneOutcome 250 650 0 8 = { level := 4, current := 650, newLevel := 2, result := .ok } ∧
      tuneOutcome 250 30 95 8 = { level := 12, current := 95, newLevel := 15, result := .limit } ∧
      tuneOutcome 250 24 11 8 = { level := 4, current := 24, newLevel := 15, result := .limit } ∧
      tuneOutcome 250 6 14 8 = { level := 12, current := 14, newLevel := 8, result := .opened } ∧
      tuneOutcome 250 1240 0 8 = { level := 4, current := 1240, newLevel := 8, result := .shorted } := by
  decide +kernel
theorem test_tune_boundaries :
    (tuneOutcome 250 900 0 8).result = .ok ∧ (tuneOutcome 250 901 0 8).result = .shorted ∧
      (tuneOutcome 250 39 20 8).level = 12 ∧ (tuneOutcome 250 40 20 8).level = 4 ∧
      (tuneOutcome 250 20 19 8).result = .limit ∧ (tuneOutcome 250 19 18 8).result = .opened := by
  decide +kernel

/-- A tune of A5, which no position holds, answering its order. -/
def tuning5 : State := after (.antennaTune .sp 5) State.reset

theorem test_meets_tune_completion :
    tuning5.reader.visit = some (.tune .a5 250 true) ∧ (∀ p ∈ Position.all, tuning5.reader.map.get p ≠ some .a5) ∧
      reply .sp (after (.tuneCompletion 180 0) tuning5) =
        some (.ok, .tuneRecord .a5 { level := 4, current := 180, newLevel := 6, result := .ok }) ∧
      (after (.tuneCompletion 180 0) tuning5).reader.levels.a5 = 6 := by
  decide +kernel
/-- A tune of A1, which lane 1 holds, that its order waits on. -/
theorem test_meets_tune_of_held_antenna :
    let s := after (.antennaTune .sp 1) State.reset
    State.reset.reader.map.get (.lane .l1) = some .a1 ∧
      ((after (.tuneCompletion 6 6) s).reader.pos.get (.lane .l1)).fault = true ∧
      ((after (.tuneCompletion 6 6) s).port (.lp .l1)).notices = LaneNotice.position.mask ∧
      ((after (.tuneCompletion 180 0) s).port (.lp .l1)).notices = 0 := by
  decide +kernel
theorem test_meets_tune_on_lane :
    State.reset.reader.map.get (.lane .l0) ≠ none ∧
      ((State.reset.applyTune (.lane .l0) .shorted).reader.pos.get (.lane .l0)).fault = true ∧
      ((State.reset.applyTune (.lane .l0) .ok).port (.lp .l0)).notices = 0 ∧
      ((State.reset.applyTune (.lane .l0) .limit).port (.lp .l0)).notices = 0x0008 := by
  decide +kernel

def silence : Reception := { overdrive := false, violation := false, heard := [] }

def framed (f : List Byte) : Reception := { overdrive := false, violation := false, heard := 0xFA :: f }

/-- A frame with its check (R42). -/
def airFrame (head : List Byte) : List Byte := head ++ beBytes 2 (crc16 0xFFFF head).toNat

/-- The ticket block of pass 521 at resort 0, with its check. -/
def ticketBlock : List Byte :=
  let t := beBytes 5 521 ++ beBytes 2 0 ++ beBytes 2 300 ++ beBytes 1 6 ++ beBytes 2 400 ++ beBytes 2 414 ++ beBytes 3 41800
  t ++ beBytes 2 (crc16 0 t).toNat

def usageBytes : List Byte :=
  let u := beBytes 1 2 ++ beBytes 2 410 ++ [0] ++ beBytes 1 63
  u ++ [crc8 u]

def readAnswer : List Byte := airFrame ([0xA1] ++ ticketBlock ++ usageBytes)

theorem test_card_of_answer :
    readAnswer.length = 28 ∧ outcomeOf 28 0xA1 (framed readAnswer) = .card ∧
      cardOf readAnswer =
        { pass := 521, resort := 0, ticket := ticket6, used := 2, lastUse := 410, markBit := false, seq := 63,
          ticketOk := true, usageOk := true } := by
  decide +kernel

/-- Lane 0 OPEN at 10:00 of day 411, with its scan read in flight. -/
def scanning : State := inVisit .scanRead (.lane .l0) .a0 (setClock 411 36000 (openLane .l0 State.reset))

theorem test_meets_scan_read :
    scanning.stopped = false ∧ scanning.reader.visit = some (scanning.cardVisit .scanRead (.lane .l0) .a0) ∧
      ((after (.readVisitCompletion (framed readAnswer)) scanning).lane .l0).passage = .granted ∧
      ((after (.readVisitCompletion (framed readAnswer)) scanning).record 521).map (·.live) = some (some .l0) := by
  decide +kernel
theorem test_meets_scan_silence :
    outcomeOf 28 0xA1 silence = .silent ∧
      ((after (.readVisitCompletion silence) scanning).reader.pos.get (.lane .l0)).lastOutcome = some .silent := by
  decide +kernel

theorem test_meets_air_bytes :
    scanning.drivenAntenna = some .a0 ∧ scanning.airBytes = [0xAA, 0xAA, 0x7E, 0x3C] ∧
      (supplyIn .down scanning).airBytes = [] := by
  decide +kernel
theorem test_frame_follows_the_lead_in :
    ({ silence with heard := [0x00, 0x55, 0xFA, 0xA1, 0xFA] } : Reception).frame = some [0xA1, 0xFA] ∧
      ({ silence with heard := [0x00, 0x55] } : Reception).frame = none := by
  decide +kernel

/-- Lane 0's repeat-quiet memory holds pass 521 until 2,000 ms. -/
def quietLane : State :=
  (openLane .l0 State.reset).withAdm fun a => { a with quiet := a.quiet.set .l0 (some { pass := 521, deadline := 2000 }) }

theorem test_meets_quiet :
    ((atMs 1999 quietLane).scanAnswer .l0 cardQ).adm.quiet.get .l0 = some { pass := 521, deadline := 3999 } ∧
      (atMs 2000 quietLane).quietHolds .l0 521 = false ∧ (State.reset.scanAnswer .l0 cardQ).adm = State.reset.adm := by
  decide +kernel

/-- A service read in flight at PS with `k` attempts made. -/
def serviceRead (k : Nat) : State :=
  inVisit .serviceRead .ps .a4 ((after (.refundQuote .sp) (setClock 411 36000 State.reset)).withReader fun d =>
    { d with slot := some (.read k) })

theorem test_meets_service_miss :
    (serviceRead 1).reader.slot = some (.read 1) ∧ outcomeOf 28 0xA1 silence ≠ .card ∧
      (after (.readVisitCompletion silence) (serviceRead 1)).reader.slot = some (.read 2) := by
  decide +kernel
theorem test_meets_service_miss_last :
    reply .sp (after (.readVisitCompletion silence) (serviceRead 2)) = some (.noCard, .none) ∧
      (after (.readVisitCompletion silence) (serviceRead 2)).refund.ctx = .idle := by
  decide +kernel

/-- A lane stamp in flight at P1. -/
def stamping (attempts : Nat) : State :=
  inVisit .laneStamp (.lane .l1) .a1
    (withStamp attempts
      (holding { plain 521 with used := 1, lastUse := some 411, behind := true } State.reset))

def echo : List Byte := airFrame (0xB6 :: (laneStamp 1).callBytes)

theorem test_stamp_air_bytes :
    (stamping 1).airBytes =
      [0xAA, 0xAA, 0x7E] ++ airFrame ([0xB5] ++ beBytes 5 521 ++ [1, 1, 155, 0, 1] ++ [crc8 [1, 1, 155, 0, 1]]) := by
  decide +kernel
theorem test_meets_stamp_confirmed :
    ((stamping 1).applyOutcome (.lane .l1) .a1 .card).reader.stamps.find? (fun x => x.position == .lane .l1) =
        some (laneStamp 1) ∧
      outcomeOf 14 0xB6 (framed echo) = .card ∧ (echo.drop 1).take 11 = (laneStamp 1).callBytes ∧
      ((after (.stampAttemptCompletion (framed echo)) (stamping 1)).record 521).map (·.behind) = some false := by
  decide +kernel
theorem test_meets_stamp_again :
    (after (.stampAttemptCompletion silence) (stamping 2)).reader.stamps.map (·.attempts) = [1] ∧
      (after (.stampAttemptCompletion silence) (stamping 1)).reader.stamps = [] := by
  decide +kernel

/-! ## Admission -/

theorem test_meets_governing_rule :
    governingRule coldRules 4095 = some (0, LaneRule.cold0) ∧
      governingRule (coldRules.set 0 { LaneRule.cold0 with value := 1, mask := 1 }) 4094 = none := by
  decide +kernel
theorem test_meets_windows :
    ({ LaneRule.cold with start := 480, stop := 720 } : LaneRule).windowOk 480 = true ∧
      ({ LaneRule.cold with start := 480, stop := 720 } : LaneRule).windowOk 720 = false ∧
      ({ LaneRule.cold with start := 1320, stop := 120 } : LaneRule).windowOk 119 = true ∧
      ({ LaneRule.cold with start := 1320, stop := 120 } : LaneRule).windowOk 120 = false := by
  decide +kernel

def basisOf (r : PassRecord) : Basis :=
  { ticket := ticket6, used := r.used, lastUse := r.lastUse, behind := false, record := some r }

def day411 : State := setClock 411 36000 State.reset

theorem test_meets_early_checks :
    earlyRefusal State.reset .l0 cardQ (basisOf (plain 521)) = some .noClock ∧
      earlyRefusal day411 .l0 { cardQ with markBit := true } (basisOf (plain 521)) = some .refunded ∧
      earlyRefusal day411 .l0 cardQ (basisOf { plain 521 with state := .blocked }) = some .blocked ∧
      earlyRefusal day411 .l0 cardQ (basisOf { plain 521 with state := .held .active }) = some .held ∧
      earlyRefusal (liveLane .l1 .granted (some 521) day411) .l0 cardQ (basisOf (plain 521)) = some .inUse ∧
      earlyRefusal day411 .l0 cardQ (basisOf (plain 521)) = none := by
  decide +kernel
theorem test_meets_rule_checks :
    ruleRefusal (setClock 399 36000 State.reset) .l0 (basisOf (plain 521)) (some LaneRule.cold0) = some .notYet ∧
      ruleRefusal (setClock 415 36000 State.reset) .l0 (basisOf (plain 521)) (some LaneRule.cold0) = some .expired ∧
      ruleRefusal day411 .l0 (basisOf (plain 521)) (some LaneRule.cold) = some .rule ∧
      ruleRefusal day411 .l0 (basisOf { plain 521 with used := 6 }) (some LaneRule.cold0) = some .noDays ∧
      ruleRefusal day411 .l0 (basisOf { plain 521 with used := 6, lastUse := some 411 }) (some LaneRule.cold0) = none := by
  decide +kernel
theorem test_meets_passback :
    let r : PassRecord := { plain 521 with lastPassage := some { second := 100, lane := .l1 } }
    ruleRefusal (atMs 279000 day411) .l0 (basisOf r) (some LaneRule.cold0) = some .passback ∧
      ruleRefusal (atMs 280000 day411) .l0 (basisOf r) (some LaneRule.cold0) = none := by
  decide +kernel
theorem test_meets_card_refused :
    ((day411.admission .l0 { cardQ with ticketOk := false }).adm.verdicts.get .l0).map (·.kind) =
        some (.refuse .unreadable) ∧
      ((day411.admission .l0 { cardQ with resort := 1 }).adm.verdicts.get .l0).map (·.kind) =
        some (.refuse .foreign) := by
  decide +kernel
/-- The cases of R65 at lane 0: held elsewhere, found, absent with a failed usage check, learned, and masked. -/
theorem test_meets_card_answer_cases :
    let held := liveLane .l1 .granted (some 521) (openLane .l0 day411)
    let kind := fun (s : State) (c : Card) => ((s.admission .l0 c).adm.verdicts.get .l0).map (·.kind)
    kind held { cardQ with usageOk := false } = some (.refuse .inUse) ∧
      ((held.admission .l0 cardQ).record 521) = none ∧
      kind (openLane .l0 day411) { cardQ with usageOk := false } = some (.refuse .unreadable) ∧
      (((openLane .l0 day411).admission .l0 cardQ).record 521).map (·.used) = some 6 ∧
      ((((openLane .l0 day411).withAdm fun a =>
        { a with settings := { a.settings with learnMask := .const false } }).admission .l0 cardQ).record 521) = none := by
  decide +kernel
theorem test_learning_without_a_place :
    let s : State := { openLane .l0 day411 with table := table13.map fun e => (e.1, { e.2 with origin := .resident }) }
    let t := s.admission .l0 { cardQ with pass := 78187493530 }
    t.counts.current.lift.learnFailures = 1 ∧ t.record 78187493530 = none := by
  decide +kernel
theorem test_meets_refusal_writes_back :
    let r : PassRecord := { plain 521 with ticket := some ticket6, used := 6, lastUse := some 410, state := .blocked }
    let t := (holding r day411).admission .l0 { cardQ with used := 1, lastUse := 400 }
    (t.adm.verdicts.get .l0).map (·.kind) = some (.refuse .blocked) ∧ t.reader.stamps.map (·.used) = [6] ∧
      t.counts.current.refusals.get .l0 ≠ State.reset.counts.current.refusals.get .l0 := by
  decide +kernel
theorem test_meets_card_admitted :
    let s := holding (plain 521) (openLane .l0 day411)
    ((s.admitCard .l0 cardQ (basisOf (plain 521)) LaneRule.cold0).adm.verdicts.get .l0).map (·.kind) = some .admitted ∧
      (((supplyIn .low s).admitCard .l0 cardQ (basisOf (plain 521)) LaneRule.cold0).adm.verdicts.get .l0).map (·.kind) =
        some (.withdrawn .lowSupply) ∧
      (((s.withLoad fun l => { l with occupancy := 24 }).admitCard .l0 cardQ (basisOf (plain 521))
        LaneRule.cold0).lane .l0).passage = .queued := by
  decide +kernel

/-! ## Lanes -/

theorem test_meets_lane_mode :
    reply (.lp .l0) (after (.laneMode (.lp .l0) (laneCode .l0) Mode.closed.code) State.reset) =
        some (.ok, .laneMode .closed .idle) ∧
      ((after (.laneMode .sp (laneCode .l0) Mode.opened.code) State.reset).port (.lp .l0)).notices =
        LaneNotice.mode.mask ∧
      modeOf 3 = none ∧ reply .sp (after (.laneMode .sp 0 3) State.reset) = some (.badArg, .none) := by
  decide +kernel
theorem test_mode_change_withdraws :
    ((queuedLane .l0 none State.reset).changeMode .l0 .closed false).load.handed =
      [{ lane := .l0, reason := .laneClosed }] := by
  decide +kernel
theorem test_meets_manual_grant :
    ((after (.manualGrant (.lp .l0) (laneCode .l0)) (openLane .l0 State.reset)).lane .l0).passage = .granted ∧
      ((after (.manualGrant (.lp .l0) (laneCode .l0)) (openLane .l0 (State.reset.withLoad fun l =>
        { l with occupancy := 24 }))).lane .l0).passage = .queued := by
  decide +kernel
theorem test_meets_manual_grant_refused :
    reply (.lp .l0) (after (.manualGrant (.lp .l0) (laneCode .l0)) State.reset) = some (.state, .none) ∧
      reply (.lp .l0) (after (.manualGrant (.lp .l0) (laneCode .l0)) (supplyIn .low (openLane .l0 State.reset))) =
        some (.lowSupply, .none) ∧
      reply (.lp .l0) (after (.manualGrant (.lp .l0) 4) State.reset) = some (.badArg, .none) := by
  decide +kernel
theorem test_meets_beam_raw :
    ((after (.beamRawChange .l0 .enb true) State.reset).lane .l0).enb = { raw := true, level := false, since := some 0 } ∧
      ((after (.beamRawChange .l0 .enb false) (after (.beamRawChange .l0 .enb true) State.reset)).lane .l0).enb =
        .rest := by
  decide +kernel

/-- ENB of lane 0 is broken since 0 ms, with the lane GRANTED. -/
def breaking : State := after (.beamRawChange .l0 .enb true) (liveLane .l0 .granted none State.reset)

theorem test_meets_beam_debounced :
    ((after (.beamDebouncedChange .l0 .enb) (atMs 30 breaking)).lane .l0).passage = .entering ∧
      after (.beamDebouncedChange .l0 .enb) (atMs 29 breaking) = atMs 29 breaking := by
  decide +kernel
theorem test_meets_forward_passage :
    let s := liveLane .l0 .entering none State.reset
    (s.lane .l0).passage = .entering ∧ s.load.occupancy < 255 ∧ (s.forwardPassage .l0).load.occupancy = 1 ∧
      ((s.forwardPassage .l0).counts.current.lanes.get .l0).manual = 1 := by
  decide +kernel
theorem test_meets_saturated_passage :
    let s := (liveLane .l0 .entering none State.reset).withLoad fun l => { l with occupancy := 255 }
    let full := s.countLift fun c => { c with total := max32, peak := 255 }
    let t := full.forwardPassage .l0
    (full.lane .l0).passage = .entering ∧ t.load.occupancy = 255 ∧ t.counts.current = full.counts.current ∧
      t.counts.openBin.passages = 1 ∧ (t.lane .l0).report.map (·.kind) = some .manual ∧
      ((full.forwardPassage .l1).counts.current = full.counts.current) ∧
      ((full.forwardPassage .l1).lane .l1).report.map (·.kind) = some .intrusion ∧
      (s.forwardPassage .l0).counts.current.lift.total = 1 := by
  decide +kernel
theorem test_meets_other_passages :
    ((State.reset.forwardPassage .l0).lane .l0).report.map (·.kind) = some .intrusion ∧
      (((State.reset.withLane .l0 fun u => { u with mode := .free }).forwardPassage .l0).lane .l0).report.map (·.kind) =
        some .free := by
  decide +kernel
theorem test_meets_back_out :
    let s := liveLane .l0 .entering none State.reset
    ((s.handOver .l0 (.cleared false)).lane .l0).passage = .granted ∧
      (((atMs 8000 s).handOver .l0 (.cleared false)).lane .l0).report.map (·.kind) = some .expired := by
  decide +kernel
theorem test_meets_reverse_passage :
    let s := (State.reset.withLoad fun l => { l with occupancy := 3 }).handOver .l2 .reverse
    s.load.occupancy = 2 ∧ (s.counts.current.lanes.get .l2).reverse = 1 := by
  decide +kernel
theorem test_meets_grant_expiry :
    let s := liveLane .l0 .granted none State.reset
    ((s.lane .l0).ctx.bind (·.windowEnd)) = some 8000 ∧ after (.grantExpiry .l0) (atMs 7999 s) = atMs 7999 s ∧
      ((after (.grantExpiry .l0) (atMs 8000 s)).lane .l0).report.map (·.kind) = some .expired := by
  decide +kernel
theorem test_meets_quiet_deadline :
    (after (.repeatQuietDeadline .l0) (atMs 2000 quietLane)).adm.quiet.get .l0 = none ∧
      (after (.repeatQuietDeadline .l0) (atMs 1999 quietLane)).adm.quiet.get .l0 ≠ none := by
  decide +kernel
theorem test_meets_signal_end :
    let s := State.reset.startSignal .l0 .refusal
    ((after (.timedSignalEnd .l0) (atMs 1999 s)).lane .l0).signal ≠ none ∧
      ((after (.timedSignalEnd .l0) (atMs 2000 s)).lane .l0).signal = none := by
  decide +kernel
theorem test_meets_tone_end :
    let s := State.reset.startTone .l0 .highTone
    ((after (.tonePatternEnd .l0) (atMs 149 s)).lane .l0).tone ≠ none ∧
      ((after (.tonePatternEnd .l0) (atMs 150 s)).lane .l0).tone = none := by
  decide +kernel
theorem test_two_low_tones :
    let s := State.reset.startTone .l0 .twoLow
    (atMs 99 s).toneLine .l0 = some .khz10 ∧ (atMs 100 s).toneLine .l0 = none ∧
      (atMs 200 s).toneLine .l0 = some .khz10 ∧ (atMs 300 s).toneLine .l0 = none := by
  decide +kernel
theorem test_meets_lamps :
    (State.reset.lane .l0).lampState = .redSteady ∧ ((queuedLane .l0 none State.reset).lane .l0).lamp = .greenBlink ∧
      (liveLane .l0 .granted none State.reset).rel .l0 = true := by
  decide +kernel

/-! ## Loading area and release queue -/

theorem test_meets_enqueue :
    [entryOf .l0 0 0, entryOf .l1 0 2].Pairwise (fun a b => a.cls ≤ b.cls) ∧
      (enqueue (entryOf .l2 0 0) [entryOf .l0 0 0, entryOf .l1 0 2]).map (·.lane) = [.l0, .l2, .l1] := by
  decide +kernel
theorem test_meets_service_step :
    let s := queuedLane .l1 none (queuedLane .l0 none State.reset)
    s.room = true ∧ (s.serviceStep).load.live = 2 ∧
      ((s.withLoad fun l => { l with limit := 1 }).serviceStep).load.queue.map (·.lane) = [.l1] := by
  decide +kernel
/-- The head of the queue had a withdrawal handed over: it is withdrawn, and the entry after it is granted. -/
theorem test_meets_handed_head :
    let s := (queuedLane .l1 none (queuedLane .l0 none State.reset)).handWithdrawal .l0 .laneClosed
    let t := s.serviceStep
    s.room = true ∧ s.handedReason .l0 = some .laneClosed ∧ t.load.live = 1 ∧ t.load.handed = [] ∧
      (t.adm.verdicts.get .l0).map (·.kind) = some (.withdrawn .laneClosed) ∧ (t.lane .l1).passage = .granted := by
  decide +kernel
theorem test_meets_grant_from_queue :
    let s := (noted .queued .none).withLoad fun l => { l with queue := [entryOf .l1 521 3] }
    ((s.grantHead .l1).adm.verdicts.get .l1).map (fun v => (v.kind, v.flags.fromQueue, v.remaining)) =
      some (.admitted, true, 4) := by
  decide +kernel
theorem test_meets_grant :
    (((queuedLane .l0 none State.reset).lane .l0).ctx).isSome = true ∧
      (((queuedLane .l0 none State.reset).grant .l0).lane .l0).tone.map (·.first) = some .khz24 := by
  decide +kernel
theorem test_meets_board_pulse :
    let s := after (.boardRawChange true) State.reset
    s.load.board.since = some 0 ∧ s.load.board.raw = true ∧
      (after .boardPulse (atMs 30 s)).counts.current.lift.excess = 1 ∧
      after .boardPulse (atMs 29 s) = atMs 29 s := by
  decide +kernel
theorem test_meets_board_inactive :
    let s := State.reset.withLoad fun l => { l with board := { raw := false, level := true, since := some 0 } }
    (after .boardDebouncedInactive (atMs 30 s)).load.board = .rest := by
  decide +kernel
theorem test_meets_lift_stop :
    let s := after (.liftStop true) (queuedLane .l0 none State.reset)
    s.load.liftStop = true ∧ s.room = false ∧ ((after (.liftStop false) s).lane .l0).passage = .granted := by
  decide +kernel
theorem test_meets_hold_timeout :
    let s := queuedLane .l0 none State.reset
    s.inQueue .l0 = true ∧ (atMs 20000 s).holdDue .l0 = true ∧ (atMs 19999 s).holdDue .l0 = false ∧
      ((after (.holdTimeout .l0) (atMs 20000 s)).adm.verdicts.get .l0).map (·.kind) =
        some (.withdrawn .holdTimeout) := by
  decide +kernel
theorem test_meets_withdrawal_taken :
    let s := (queuedLane .l0 none State.reset).handWithdrawal .l0 .laneClosed
    (after (.withdrawalTaken .l0 .laneClosed) s).load.queue = [] ∧
      (after (.withdrawalTaken .l0 .laneClosed) (State.reset.handWithdrawal .l0 .laneClosed)).load.handed = [] := by
  decide +kernel

/-! ## Counts -/

theorem test_meets_counts_read :
    reply .sp (after (.countsRead .sp 0 3 0 59 6) State.reset) = some (.ok, .bins 0 [] (.fresh none)) ∧
      reply .sp (after (.countsRead .sp 0 3 0 60 6) State.reset) = some (.badArg, .none) ∧
      reply .sp (after (.countsRead .sp 1 2 0 0 0) State.reset) = some (.notFound, .none) := by
  decide +kernel
theorem test_meets_counts_on_lane_port :
    reply (.lp .l2) (after (.countsRead (.lp .l2) 0 0 2 0 0) State.reset) =
        some (.ok, .lanePart 0 (some false) LaneCounts.zero) ∧
      reply (.lp .l2) (after (.countsRead (.lp .l2) 1 1 2 0 0) State.reset) = some (.notFound, .none) ∧
      reply (.lp .l2) (after (.countsRead (.lp .l2) 2 0 2 0 0) State.reset) = some (.badArg, .none) ∧
      reply (.lp .l2) (after (.countsRead (.lp .l2) 0 1 4 0 0) State.reset) = some (.badArg, .none) ∧
      reply .sp (after (.countsRead .sp 0 0 4 0 0) State.reset) = some (.badArg, .none) ∧
      (reply .sp (after (.countsRead .sp 0 2 4 0 0) State.reset)).map (·.1) = some .ok := by
  decide +kernel
theorem test_meets_previous_set :
    reply .sp (after (.countsRead .sp 1 2 0 0 0) (State.reset.rollover 1)) =
      some (.ok, .liftPart 0 none .zero) := by
  decide +kernel

/-! ## Refunds -/

/-- Table 7-5, with T(8) to T(21) rising from 50,400 to 98,000. -/
def tariff300 : Tariff :=
  { product := 300
    prices := [8400, 15200, 21600, 27600, 33600, 39600, 45200] ++
      [50400, 54000, 57000, 60000, 64000, 68000, 72000, 76000, 80000, 84000, 88000, 92000, 95000, 98000]
    fee := 1500, minDays := 1, unit := 50, minRefund := 1000, claim := 5, refundable := true }

/-- The worked case of section 7.4. -/
theorem test_refund_example :
    computeQuote 411 ticket6 3 tariff300 { plain 521 with used := 3, lastUse := some 411, consumedHere := some 411 } 0 =
      { product := 300, days := 6, paid := 41800, used := 3, charge := 2, charged := 2, listK := 15200, listD := 39600,
        usedValue := 16045, gross := 25755, fee := 1500, afterFee := 24255, unit := 50, refund := 24250,
        minRefund := 1000, flags := { QuoteFlags.none with credited := true } } := by
  decide +kernel
theorem test_meets_refund_law :
    0 < tariff300.unit ∧ 0 < tariff300.price ticket6.days ∧
      (computeQuote 411 ticket6 6 tariff300 (plain 521) 0).refund = 0 ∧
      (computeQuote 411 ticket6 0 tariff300 (plain 521) 0).flags.minCharge = true := by
  decide +kernel

/-- The parts of a tariff of product 4,095 in which every price is 100. -/
def part1 (s : State) : State :=
  after (.tariffPutPart1 .sp 4095 (.replicate 11 100) 0 21 500 0 30 1) s

theorem test_meets_tariff_part1 :
    (part1 State.reset).refund.staging.map (·.product) = some 4095 ∧
      reply .sp (after (.tariffPutPart1 .sp 4095 (.replicate 11 100) 0 22 500 0 30 1) State.reset) =
        some (.badArg, .none) ∧
      reply .sp (after (.tariffPutPart1 .sp 4095 (.replicate 11 100) 0 21 500 0 30 2) State.reset) =
        some (.badArg, .none) := by
  decide +kernel
theorem test_meets_tariff_part2 :
    (after (.tariffPutPart2 .sp 4095 (.replicate 10 100)) (part1 State.reset)).refund.tariffs.map (·.product) = [4095] ∧
      reply .sp (after (.tariffPutPart2 .sp 4095 (.replicate 10 99)) (part1 State.reset)) = some (.badArg, .none) ∧
      reply .sp (after (.tariffPutPart2 .sp 4094 (.replicate 10 100)) (part1 State.reset)) = some (.state, .none) ∧
      reply .sp (after (.tariffPutPart2 .sp 4095 (.replicate 10 100)) State.reset) = some (.state, .none) := by
  decide +kernel
theorem test_meets_tariff_frames :
    let head : List Byte := [2] ++ beBytes 2 4095 ++ (List.replicate 10 (beBytes 3 100)).flatten
    let part2 := after (.orderFrame .sp (frameOf 0x71 (head ++ List.replicate 12 0xC3)) false) (part1 State.reset)
    let other := fun p => after (.orderFrame p (frameOf 0x71 (3 :: List.replicate 44 0)) false) (part1 State.reset)
    part2 = after (.tariffPutPart2 .sp 4095 (.replicate 10 100)) (part1 State.reset) ∧
      part2.refund.tariffs.map (·.product) = [4095] ∧ reply .sp (other .sp) = some (.badArg, .none) ∧
      (other .sp).refund = (part1 State.reset).refund ∧ reply (.lp .l2) (other (.lp .l2)) = some (.denied, .none) := by
  decide +kernel
theorem test_tariff_table_full :
    putTariff ((List.range 32).map fun k => { tariff300 with product := k }) tariff300 = none := by
  decide +kernel

def withTariff : State := State.reset.withRefund fun r => { r with tariffs := [tariff300] }

theorem test_meets_put_tariff :
    tariff300.valid = true ∧ { tariff300 with unit := 3 }.valid = false ∧
      putTariff [tariff300] { tariff300 with fee := 7 } = some [{ tariff300 with fee := 7 }] ∧
      putTariff [tariff300] { tariff300 with product := 9 } = some [tariff300, { tariff300 with product := 9 }] := by
  decide +kernel
theorem test_refund_below_minimum :
    let q := fun fee => computeQuote 411 ticket6 5 { tariff300 with fee := fee } (plain 521) 0
    (q 6000).refund = 0 ∧ (q 6000).flags.belowMinimum = true ∧ (q 8000).flags.feeClamped = true ∧
      (q 8000).flags.belowMinimum = false := by
  decide +kernel
theorem test_meets_tariff_query :
    reply .sp (after (.tariffQuery .sp 0 300) withTariff) = some (.ok, .tariff 1 tariff300) ∧
      reply .sp (after (.tariffQuery .sp 1 31) withTariff) = some (.notFound, .none) ∧
      reply .sp (after (.tariffQuery .sp 1 32) withTariff) = some (.badArg, .none) ∧
      reply .sp (after (.tariffQuery .sp 2 0) withTariff) = some (.badArg, .none) := by
  decide +kernel
theorem test_meets_tariff_erase :
    (after (.tariffErase .sp 300) withTariff).refund.tariffs = [] ∧
      reply .sp (after (.tariffErase .sp 4095) withTariff) = some (.notFound, .none) ∧
      reply .sp (after (.tariffErase .sp 4096) withTariff) = some (.badArg, .none) := by
  decide +kernel
theorem test_meets_refund_quote :
    (after (.refundQuote .sp) day411).refund.ctx = .reading none ∧
      ((after (.refundQuote .sp) day411).port .sp).slot = .inProgress 0x75 := by
  decide +kernel
theorem test_meets_refund_quote_refused :
    reply .sp (after (.refundQuote .sp) (day411.withCtx (.reading none))) = some (.busy, .none) ∧
      reply .sp (after (.refundQuote .sp) (supplyIn .low day411)) = some (.lowSupply, .none) ∧
      reply .sp (after (.refundQuote .sp) State.reset) = some (.state, .none) ∧
      reply .sp (after (.refundQuote .sp) (day411.withReader fun d => { d with map := d.map.set .ps none })) =
        some (.noCard, .none) := by
  decide +kernel

/-- The answer at PS of day 411 with its tariff: computed at once, written back first, and refused. -/
def quoting : State := busyPort .sp ((withTariff.withTime fun t => { t with tod := some 36000, lastDay := 411 }).withCtx (.reading none))

def serviceCard : Card := { cardQ with used := 2, lastUse := 410 }

theorem test_meets_quote_learns :
    let t := quoting.quoteCard serviceCard
    (t.record 521).map (·.state) = some (.held .active) ∧
      (match t.refund.ctx with
        | .quoted q => q.quote.used == 2
        | _ => false) = true := by
  decide +kernel
theorem test_meets_quote_writes_back :
    let r : PassRecord := { plain 521 with ticket := some ticket6, used := 3, lastUse := some 411 }
    let t := (holding r quoting).quoteCard serviceCard
    (match t.reader.slot with
      | some (.stamp q) => q.used == 3 && q.requester == .writeBack
      | _ => false) = true ∧
      (match (t.settleWriteBack false).refund.ctx with
        | .quoted q => q.quote.flags.cardBehind
        | _ => false) = true := by
  decide +kernel
theorem test_meets_quote_refused :
    let answer := fun (s : State) (c : Card) => reply .sp (s.quoteCard c)
    answer quoting { serviceCard with ticketOk := false } = some (.unreadable, .cardPass 521) ∧
      answer quoting { serviceCard with resort := 1 } = some (.foreign, .cardPass 521) ∧
      answer quoting { serviceCard with usageOk := false } = some (.unreadable, .cardPass 521) ∧
      answer quoting { serviceCard with markBit := true } = some (.refunded, .cardPass 521) ∧
      answer (liveLane .l1 .granted (some 521) quoting) serviceCard = some (.inUse, .cardPass 521) ∧
      answer (liveLane .l1 .granted (some 521) quoting) { serviceCard with usageOk := false } =
        some (.inUse, .cardPass 521) ∧
      answer (quoting.withRefund fun r => { r with tariffs := [] }) serviceCard = some (.noTariff, .cardPass 521) ∧
      answer { quoting with table := table13.map fun e => (e.1, { e.2 with origin := .resident }) }
        { serviceCard with pass := 78187493530 } = some (.tableFull, .cardPass 78187493530) := by
  decide +kernel
theorem test_meets_service_read_card :
    let s := inVisit .serviceRead .ps .a4 (quoting.withReader fun d => { d with slot := some (.read 0) })
    ((after (.readVisitCompletion (framed readAnswer)) s).port .sp).slot ≠ .inProgress 0x75 ∧
      ((after (.readVisitCompletion (framed readAnswer)) s).record 521).map (·.state) = some (.held .active) := by
  decide +kernel

/-- A quote that stands for pass 521 until run second 180. -/
def standing : StandingQuote :=
  { pass := 521, readDay := 411, seq := 64, number := 37, deadline := 180, hold := 180,
    quote := computeQuote 411 ticket6 3 tariff300 (plain 521) 0 }

def quotedState : State := holding { plain 521 with state := .held .active } (day411.withCtx (.quoted standing))

theorem test_meets_hold_placed :
    let rd : Reading := { pass := 521, readDay := 411, seq := 64, quote := none }
    let s := busyPort .sp (holding (plain 521) (day411.withCtx (.reading (some rd))))
    (s.record 521).map (·.state) = some Standing.active.toState ∧
      ((s.placeHold rd standing.quote).record 521).map (·.state) = some (.held .active) := by
  decide +kernel
theorem test_hold_of_a_lost_record :
    let rd : Reading := { pass := 521, readDay := 411, seq := 64, quote := none }
    reply .sp (quoting.placeHold rd standing.quote) = some (.notFound, .cardPass 521) ∧
      reply .sp ((holding { plain 521 with state := .refunded } quoting).placeHold rd standing.quote) =
        some (.refunded, .cardPass 521) := by
  decide +kernel
theorem test_meets_refund_commit :
    quotedState.unworkable .ps = false ∧ (quotedState.record 521).isSome = true ∧
      (after (.refundCommit .sp 37) quotedState).refund.journal.map (·.status) = [.pending] ∧
      ((after (.refundCommit .sp 37) quotedState).port .sp).slot = .inProgress 0x76 := by
  decide +kernel
theorem test_meets_refund_commit_refused :
    reply .sp (after (.refundCommit .sp 37) State.reset) = some (.state, .none) ∧
      reply .sp (after (.refundCommit .sp 38) quotedState) = some (.badArg, .none) ∧
      reply .sp (after (.refundCommit .sp 37) (supplyIn .low quotedState)) = some (.lowSupply, .none) := by
  decide +kernel

/-- A commit with PS unmapped or its fault flag set ends at once, before the quote's deadline and after it. -/
theorem test_meets_refund_commit_away :
    let unmapped := quotedState.withReader fun d => { d with map := d.map.set .ps none }
    let faulty := quotedState.withReader fun d => { d with pos := d.pos.set .ps { PosMemory.start with fault := true } }
    let t := after (.refundCommit .sp 37) unmapped
    let late := after (.refundCommit .sp 37) (atMs 180000 faulty)
    reply .sp t = some (.noCard, .none) ∧ t.refund = unmapped.refund ∧
      (t.port .sp).notices &&& StationNotice.journal.mask ≠ 0 ∧
      reply .sp (after (.refundCommit .sp 37) faulty) = some (.noCard, .none) ∧
      reply .sp late = some (.noCard, .none) ∧ late.refund.ctx = .idle ∧ late.refund.journal = [] ∧
      late.refund.nextSeq = faulty.refund.nextSeq ∧ (late.record 521).map (·.state) = some .active ∧
      (late.port .sp).notices &&& StationNotice.holdEnd.mask ≠ 0 := by
  decide +kernel

def entry (seq : Nat) (x : EntryStatus) : JournalEntry :=
  { seq := seq, status := x, quote := 37, pass := 521, product := 300, days := 6, charged := 2, paid := 41800,
    refund := 24250, day := 411, time := 36000 }

def withJournal (es : List JournalEntry) (s : State) : State := s.withRefund fun r => { r with journal := es, nextSeq := 126 }

theorem test_commit_journal_full :
    reply .sp (after (.refundCommit .sp 37) (withJournal (List.replicate 48 (entry 0 .done)) quotedState)) =
      some (.journalFull, .none) := by
  decide +kernel

def committing : State := withJournal [entry 124 .done, entry 125 .pending] (quotedState.withCtx (.committing standing 125))

theorem test_meets_commit_confirmed :
    ((committing.settleCommit true none).1.refund.journal.map (·.status)) = [.done, .done] ∧
      ((committing.settleCommit true none).1.record 521).map (·.state) = some .refunded := by
  decide +kernel
theorem test_meets_commit_failed :
    (committing.settleCommit false (some 522)).2 = some (.cardMismatch, .none) ∧
      (committing.settleCommit false none).1.refund.ctx = .quoted standing ∧
      ((atMs 180000 committing).settleCommit false none).1.refund.ctx = .idle ∧
      (committing.settleCommit false none).1.refund.nextSeq = 125 := by
  decide +kernel
/-- The commit stamp at PS: its echo confirms it, and the last silent attempt fails it. -/
def committingStamp (attempts : Nat) : State :=
  let s := busyPort .sp committing
  let q : StampReq := { laneStamp attempts with position := .ps, requester := .commit }
  inVisit .serviceStamp .ps .a4 (s.withReader fun d => { d with slot := some (.stamp q) })

theorem test_meets_service_stamp :
    reply .sp (after (.stampAttemptCompletion (framed echo)) (committingStamp 2)) = some (.ok, .journalSeq 125) ∧
      reply .sp (after (.stampAttemptCompletion silence) (committingStamp 1)) = some (.noCard, .none) ∧
      (match (after (.stampAttemptCompletion silence) (committingStamp 2)).reader.slot with
        | some (.stamp q) => q.attempts == 1
        | _ => false) = true := by
  decide +kernel
theorem test_meets_refund_release :
    ((after (.refundRelease .sp 37) quotedState).record 521).map (·.state) = some .active ∧
      reply .sp (after (.refundRelease .sp 36) quotedState) = some (.badArg, .none) ∧
      reply .sp (after (.refundRelease .sp 37) State.reset) = some (.state, .none) := by
  decide +kernel
theorem test_meets_hold_expiry :
    (after .refundHoldExpiry (atMs 180000 quotedState)).refund.ctx = .idle ∧
      after .refundHoldExpiry (atMs 179999 quotedState) = atMs 179999 quotedState := by
  decide +kernel
theorem test_meets_journal_read :
    reply .sp (after (.journalRead .sp 8) (withJournal [entry 125 .done] State.reset)) =
        some (.ok, .journal 1 126 [entry 125 .done]) ∧
      reply .sp (after (.journalRead .sp 9) State.reset) = some (.badArg, .none) ∧
      reply .sp (after (.journalRead .sp 0) State.reset) = some (.badArg, .none) := by
  decide +kernel
theorem test_meets_journal_remove :
    reply .sp (after (.journalRemove .sp 125) (withJournal [entry 125 .done] State.reset)) = some (.ok, .remaining 0) ∧
      reply .sp (after (.journalRemove .sp 124) (withJournal [entry 125 .done] State.reset)) = some (.badArg, .none) ∧
      reply .sp (after (.journalRemove .sp 125) (withJournal [entry 125 .pending] State.reset)) = some (.state, .none) ∧
      reply .sp (after (.journalRemove .sp 0) State.reset) = some (.notFound, .none) := by
  decide +kernel
theorem test_meets_journal_agrees :
    (withJournal [entry 125 .pending] (State.reset.withCtx (.committing standing 125))).refund.journalAgrees := by
  refine ⟨by decide, by decide, by decide, rfl, [], entry 125 .pending, rfl, rfl, rfl, ?_⟩
  intro x h
  cases h

/-! ## Time base -/

theorem test_meets_clock_set :
    reply .sp (after (.clockSet .sp 411 86399 23) State.reset) = some (.ok, .clockSet 86399 411 23) ∧
      (after (.clockSet .sp 411 86399 23) State.reset).counts.previous.isSome = true ∧
      reply .sp (after (.clockSet .sp 411 86400 23) State.reset) = some (.badArg, .none) ∧
      reply .sp (after (.clockSet .sp 410 0 0) day411) = some (.badArg, .none) := by
  decide +kernel
theorem test_clock_set_same_minute :
    (after (.clockSet .sp 411 36059 3) day411).counts.ring = [] ∧
      ((after (.clockSet .sp 411 36060 3) day411).counts.ring.length = 1) := by
  decide +kernel
theorem test_meets_second_boundary :
    (after .localSecondBoundary (atMs 1000 day411)).time.tod = some 36001 ∧
      after .localSecondBoundary (atMs 999 day411) = atMs 999 day411 := by
  decide +kernel
theorem test_meets_day_boundary :
    (after .localSecondBoundary (atMs 1000 (setClock 411 10799 State.reset))).time.lastDay = 412 ∧
      (after .localSecondBoundary (atMs 1000 (setClock 65535 10799 State.reset))).time.lastDay = 65535 ∧
      (after .localSecondBoundary (atMs 1000 (setClock 411 86399 State.reset))).time.tod = some 0 := by
  decide +kernel
theorem test_meets_run_minute :
    (after .runMinute (atMs 60000 State.reset)).counts.ring.length = 1 ∧
      after .runMinute (atMs 59999 State.reset) = atMs 59999 State.reset ∧
      after .runMinute (after .runMinute (atMs 60000 State.reset)) = after .runMinute (atMs 60000 State.reset) ∧
      after .runMinute State.reset = State.reset := by
  decide +kernel
theorem test_meets_clock_sync :
    (after (.clockSync .sp 1 250 1) State.reset).time.mode = .oneShot ∧
      reply .sp (after (.clockSync .sp 1 250 0) State.reset) = some (.badArg, .none) ∧
      (after (.clockSync .sp 3 1 0) State.reset).time.watch = some 3000 := by
  decide +kernel

/-- Section 8.7: a second in progress from 7,200,000 ms, ONE_SHOT armed. -/
def oneShot : State :=
  day411.withTime fun t => { t with mode := .oneShot, secStart := 7200000, secEnd := 7201000 }

theorem test_meets_stp_one_shot :
    (after .stpPulse (atMs 7200310 oneShot)).time.secEnd = 7201310 ∧
      (after .stpPulse (atMs 7200760 oneShot)).time.secEnd = 7200760 ∧
      (after .stpPulse (atMs 7200310 oneShot)).time.mode = .monitor ∧
      (after .stpPulse (atMs 7200310 oneShot)).time.watch = some 7203310 := by
  decide +kernel
theorem test_meets_stp_spurious :
    let s := after .stpPulse (atMs 7200310 oneShot)
    after .stpPulse (atMs 7200809 s) = atMs 7200809 s ∧
      (after .stpPulse (atMs 7200810 s)).time.pulseCount = 2 := by
  decide +kernel
theorem test_clock_notice_at_drift :
    let s := oneShot.withTime fun t => { t with mode := .monitor }
    ((after .stpPulse (atMs 7200310 s)).port .sp).notices &&& StationNotice.clock.mask ≠ 0 ∧
      (after .stpPulse (atMs 7200310 s)).time.driftCount = 1 ∧ (after .stpPulse (atMs 7200020 s)).time.driftCount = 0 ∧
      (after .stpPulse (atMs 7200310 s)).time.secEnd = 7201000 := by
  decide +kernel
theorem test_meets_pulse_watch :
    let s := State.reset.withTime fun t => { t with mode := .monitor, watch := some 3000 }
    (after .pulseWatchExpiry (atMs 3000 s)).time.pulseLost = true ∧
      after .pulseWatchExpiry (atMs 2999 s) = atMs 2999 s := by
  decide +kernel

/-! ## Supply -/

theorem test_meets_vmain :
    (after (.vmainChange .belowWarning) State.reset).supply.state = .low ∧
      (after (.vmainChange .belowRecovery) State.reset).supply.state = .run ∧
      (after (.vmainChange .belowRetention) State.reset).supply.state = .down := by
  decide +kernel
theorem test_meets_recovery :
    let s := after (.vmainChange .aboveRecovery) (after (.vmainChange .belowWarning) State.reset)
    s.supply.recovery = some 200 ∧ (after .recoveryTimer (atMs 200 s)).supply.state = .run ∧
      after .recoveryTimer (atMs 199 s) = atMs 199 s := by
  decide +kernel
theorem test_meets_low_supply_withdraws :
    let t := after (.vmainChange .belowWarning) (queuedLane .l1 none (queuedLane .l0 none State.reset))
    t.load.queue = [] ∧ (t.adm.verdicts.get .l1).map (·.kind) = some (.withdrawn .lowSupply) ∧
      (t.lane .l0).passage = .idle := by
  decide +kernel
/-- DOWN from RUN: the queue is withdrawn, the LIVE pin of its pass ends, and all else that is retained stands. -/
theorem test_meets_down :
    let s := queuedLane .l0 (some 521) (holding { plain 521 with live := some .l0 } State.reset)
    let t := after (.vmainChange .belowRetention) s
    t.stopped = true ∧ t.load.queue = [] ∧ (t.adm.verdicts.get .l0).map (·.kind) = some (.withdrawn .lowSupply) ∧
      t.record 521 = some (plain 521) ∧ (t.counts.current.lanes.get .l0).withdrawals = 1 ∧
      t.retained = { s.retained with table := t.table, current := t.counts.current } ∧
      (after (.vmainChange .belowRetention) (after .reset s)).supply.state = .down ∧
      (after .reset s).retained = s.retained := by
  decide +kernel
theorem test_vbak :
    (after .vbakFailure State.reset).supply.checkValid = true ∧
      (after .vbakFailure (after (.vmainChange .belowRetention) State.reset)).supply.checkValid = false := by
  refine ⟨by decide +kernel, Supply.lost_not_valid _ _⟩

def noSelect : PerPort Bool := { lp := .const false, sp := false }

/-- The part DOWN with VMAIN returning, its retained region valid or not. -/
def returning (valid : Bool) : State :=
  (holding { plain 521 with state := .held .blocked } day411).withSupply fun u =>
    { u with state := .down, vmain := .aboveRecovery, stood := 0, checkSkew := if valid then 0 else 1 }

theorem test_meets_warm_start :
    (after (.startUp .power noSelect) (returning true)).ports.startKind = some .warm ∧
      ((after (.startUp .power noSelect) (returning true)).record 521).map (·.state) = some .blocked ∧
      (after (.startUp .power noSelect) (returning true)).supply.state = .low := by
  decide +kernel
/-- VMAIN returns in DOWN: the part stays stopped until START UP (log 41). -/
theorem test_start_up_follows_power_return :
    let s := (returning true).withSupply fun u => { u with vmain := .belowRetention }
    let t := after (.vmainChange .aboveRecovery) s
    t.stopped = true ∧ t.supply.vmain = .aboveRecovery ∧ (after (.startUp .power noSelect) t).stopped = false := by
  decide +kernel
/-- With a lane OPEN the start-up in RUN ends with its scan read in flight; without one the pointer names P3. -/
theorem test_meets_start_up_scan :
    let t := after (.startUp .reset noSelect) (after .reset (openLane .l1 (openLane .l2 State.reset)))
    let u := after (.startUp .reset noSelect) (after .reset State.reset)
    t.reader.pointer = .l1 ∧ t.reader.visit = some (t.cardVisit .scanRead (.lane .l1) .a1) ∧
      u.reader.pointer = .l3 ∧ u.reader.visit = none ∧ u.time.watch = none ∧ u.time.pulseLost = false := by
  decide +kernel
theorem test_meets_cold_start :
    (after (.startUp .power noSelect) (returning false)).table = [] ∧
      (after (.startUp .reset noSelect) (after .reset State.reset)).supply.startCause = .reset ∧
      (after (.startUp .reset noSelect) (after .reset State.reset)).supply.state = .run := by
  decide +kernel

/-! ## Laws -/

theorem test_meets_table_laws : TableForm State.reset.table ∧ ∀ e ∈ State.reset.table, UsageBound e.2 := by
  refine ⟨⟨by decide, ?_, by decide⟩, ?_⟩ <;> intro e h <;> cases h
theorem test_meets_counts_agree : State.reset.counts.agree := by
  refine ⟨rfl, ?_⟩
  intro p h
  cases h
theorem test_meets_queue_laws :
    State.reset.queueInOrder ∧ State.reset.queueWaits ∧ State.reset.supplyAgrees := by
  refine ⟨.nil, ⟨by decide, fun _ => .inl rfl⟩, ?_⟩
  intro h
  cases h
theorem test_meets_refund_laws : State.reset.refundAgrees := by
  refine ⟨⟨by decide, ?_, by decide⟩, trivial, ⟨?_, ?_⟩, by decide, by decide, ?_, trivial, ?_⟩ <;> intro e h <;> cases h
theorem test_meets_valid_region : State.reset.supply.checkValid = true := by decide

end Sys2Proof.Tests
end

/-! # Books: what the laws across blocks rest on

The laws of chapters 1, 4, 5 and 7 that every step keeps speak of the pass table, the release queue, the lanes' passage
states and contexts, the service slot, the refund context and the journal. `State.books` is this part of the state. An
operation that leaves the books leaves each of those laws, so each operation is looked at once here. -/

namespace Sys2Proof.Machine

/-! ## The books of a state -/

/-- A lane as the release laws see it: ENTERING counts as GRANTED, and of a context only its pass is kept. -/
structure Seat where
  stage : Passage
  ctx : Option (Option PassNo)

/-- The pass that a seat's context holds. -/
def Seat.pass (x : Seat) : Option PassNo := x.ctx.bind id

def Passage.stage : Passage → Passage
  | .idle => .idle
  | .queued => .queued
  | .granted => .granted
  | .entering => .granted

def LaneUnit.seat (u : LaneUnit) : Seat := { stage := u.passage.stage, ctx := u.ctx.map (·.pass) }

/-- The content of the service slot without its attempts: a service read, or a stamp's requester and pass. -/
inductive SlotKind where
  | read
  | stamp (q : Requester) (p : PassNo)

def ServiceVisit.kind : ServiceVisit → SlotKind
  | .read _ => .read
  | .stamp r => .stamp r.requester r.pass

structure Books where
  table : PassTable
  live : Nat
  queue : List QueueEntry
  seat : Lane → Seat
  slot : Option SlotKind
  ctx : RefundCtx
  journal : List JournalEntry
  nextSeq : Nat

def State.books (s : State) : Books :=
  { table := s.table, live := s.load.live, queue := s.load.queue, seat := fun n => (s.lane n).seat,
    slot := s.reader.slot.map ServiceVisit.kind, ctx := s.refund.ctx, journal := s.refund.journal,
    nextSeq := s.refund.nextSeq }

@[simp] theorem State.books_table (s : State) : s.books.table = s.table := rfl
@[simp] theorem State.books_live (s : State) : s.books.live = s.load.live := rfl
@[simp] theorem State.books_queue (s : State) : s.books.queue = s.load.queue := rfl
@[simp] theorem State.books_seat (s : State) (n : Lane) : s.books.seat n = (s.lane n).seat := rfl
@[simp] theorem State.books_slot (s : State) : s.books.slot = s.reader.slot.map ServiceVisit.kind := rfl
@[simp] theorem State.books_ctx (s : State) : s.books.ctx = s.refund.ctx := rfl
@[simp] theorem State.books_journal (s : State) : s.books.journal = s.refund.journal := rfl
@[simp] theorem State.books_nextSeq (s : State) : s.books.nextSeq = s.refund.nextSeq := rfl

theorem State.seat_pass (s : State) (n : Lane) : (s.lane n).seat.pass = s.ctxPass n := by
  unfold State.ctxPass LaneUnit.seat Seat.pass
  cases (s.lane n).ctx <;> rfl

@[simp] theorem LaneUnit.settleLamp_seat (ms : Nat) (u : LaneUnit) : (u.settleLamp ms).seat = u.seat := by
  simp [LaneUnit.seat]

/-! ## Updates of one block -/

theorem State.books_eq_of_parts {s t : State} (ht : t.table = s.table) (hl : t.load = s.load)
    (hn : t.lanes = s.lanes) (hs : t.reader.slot = s.reader.slot) (hr : t.refund = s.refund) : t.books = s.books := by
  simp [State.books, State.lane, ht, hl, hn, hs, hr]

@[simp] theorem State.withAdm_books (s : State) (f : Admission → Admission) : (s.withAdm f).books = s.books := rfl
@[simp] theorem State.withCounts_books (s : State) (f : Counts → Counts) : (s.withCounts f).books = s.books := rfl
@[simp] theorem State.withTime_books (s : State) (f : TimeUnit → TimeUnit) : (s.withTime f).books = s.books := rfl
@[simp] theorem State.withSupply_books (s : State) (f : Supply → Supply) : (s.withSupply f).books = s.books := rfl
@[simp] theorem State.withPort_books (s : State) (p : Port) (f : PortCtx → PortCtx) :
    (s.withPort p f).books = s.books := rfl
@[simp] theorem State.taken_books (s : State) (p : Port) : (s.taken p).books = s.books := rfl

theorem State.withReader_books (s : State) (f : Reader → Reader)
    (h : (f s.reader).slot.map ServiceVisit.kind = s.reader.slot.map ServiceVisit.kind) :
    (s.withReader f).books = s.books := by
  simp [State.books, h]

theorem State.withLoad_books (s : State) (f : Loading → Loading) (hl : (f s.load).live = s.load.live)
    (hq : (f s.load).queue = s.load.queue) : (s.withLoad f).books = s.books := by
  simp [State.books, hl, hq]

/-- A lane write that keeps the lane's seat. -/
theorem State.withLane_books (s : State) (n : Lane) (f : LaneUnit → LaneUnit)
    (h : (f (s.lane n)).seat = (s.lane n).seat) : (s.withLane n f).books = s.books := by
  have hseat : (fun m => ((s.withLane n f).lane m).seat) = fun m => (s.lane m).seat := by
    funext m
    by_cases hm : m = n
    · subst hm
      simpa using h
    · rw [State.withLane_lane_other _ _ _ _ hm]
  simp only [State.books, hseat]
  simp

/-! ## Operations that leave the books -/

@[simp] theorem State.raiseBits_books (s : State) (p : Port) (m : BitVec 16) : (s.raiseBits p m).books = s.books := rfl
@[simp] theorem State.raiseLane_books (s : State) (n : Lane) (x : LaneNotice) : (s.raiseLane n x).books = s.books := rfl
@[simp] theorem State.raiseStation_books (s : State) (x : StationNotice) : (s.raiseStation x).books = s.books := rfl
@[simp] theorem State.raiseAt_books (s : State) (p : Position) (x : LaneNotice) : (s.raiseAt p x).books = s.books :=
  State.books_eq_of_parts (by simp) (by simp) (by simp) (by simp) (by simp)
@[simp] theorem State.replyNow_books (s : State) (p : Port) (code : Byte) (done : DoneNotice) (res : Result)
    (body : Body) : (s.replyNow p code done res body).books = s.books :=
  State.books_eq_of_parts (by simp) (by simp) (by simp) (by simp) (by simp)
@[simp] theorem State.completeLong_books (s : State) (res : Result) (body : Body) :
    (s.completeLong res body).books = s.books :=
  State.books_eq_of_parts (by simp) (by simp) (by simp) (by simp) (by simp)
@[simp] theorem State.refuseFrame_books (s : State) (p : Port) (code : Byte) (res : Result) :
    (s.refuseFrame p code res).books = s.books :=
  State.books_eq_of_parts (by simp) (by simp) (by simp) (by simp) (by simp)

@[simp] theorem State.countLane_books (s : State) (n : Lane) (f : LaneCounts → LaneCounts) :
    (s.countLane n f).books = s.books := rfl
@[simp] theorem State.countLift_books (s : State) (f : LiftCounts → LiftCounts) : (s.countLift f).books = s.books := rfl
@[simp] theorem State.countRefusal_books (s : State) (n : Lane) (r : RefuseReason) :
    (s.countRefusal n r).books = s.books := rfl
@[simp] theorem State.countPassage_books (s : State) (n : Lane) (f : LaneCounts → LaneCounts) :
    (s.countPassage n f).books = s.books :=
  State.books_eq_of_parts (by simp) (by simp) (by simp) (by simp) (by simp)

@[simp] theorem State.occupancyUp_books (s : State) : s.occupancyUp.books = s.books := by
  unfold State.occupancyUp
  split
  · rw [State.countLift_books]
    exact State.withLoad_books _ _ rfl rfl
  · rfl
@[simp] theorem State.occupancyDown_books (s : State) : s.occupancyDown.books = s.books :=
  State.withLoad_books _ _ rfl rfl
@[simp] theorem State.handWithdrawal_books (s : State) (n : Lane) (r : WithdrawReason) :
    (s.handWithdrawal n r).books = s.books :=
  State.withLoad_books _ _ rfl rfl
@[simp] theorem State.handBlocked_books (s : State) (p : PassNo) (st : Standing) :
    (s.handBlocked p st).books = s.books := by
  unfold State.handBlocked
  (repeat' split) <;> simp

@[simp] theorem State.startVisit_books (s : State) (v : Visit) : (s.startVisit v).books = s.books := rfl
@[simp] theorem State.startScan_books (s : State) (n : Lane) : (s.startScan n).books = s.books := by
  unfold State.startScan
  split <;> rfl
@[simp] theorem State.arbiter_books (s : State) : s.arbiter.books = s.books := by
  unfold State.arbiter
  split
  · rfl
  · split
    · rfl
    · split
      · rfl
      · split
        · rfl
        · split
          · exact State.startScan_books _ _
          · rfl
@[simp] theorem State.requestLaneStamp_books (s : State) (r : StampReq) : (s.requestLaneStamp r).books = s.books := by
  unfold State.requestLaneStamp
  split <;> rfl
@[simp] theorem State.requestTune_books (s : State) (a : Antenna) : (s.requestTune a).books = s.books := by
  unfold State.requestTune
  split <;> rfl
@[simp] theorem State.orderTune_books (s : State) (a : Antenna) : (s.orderTune a).books = s.books := by
  unfold State.orderTune
  apply State.withReader_books
  split <;> rfl

@[simp] theorem State.applyCollide_books (s : State) (p : Position) (o : VisitOutcome) :
    (s.applyCollide p o).books = s.books := by
  unfold State.applyCollide
  dsimp only
  (repeat' split) <;> rfl
@[simp] theorem State.applyFaults_books (s : State) (p : Position) (a : Antenna) (o : VisitOutcome) :
    (s.applyFaults p a o).books = s.books := by
  unfold State.applyFaults
  dsimp only
  split
  · simp only [State.raiseAt_books, State.requestTune_books]
    rfl
  · rfl
@[simp] theorem State.applyClip_books (s : State) (a : Antenna) (o : VisitOutcome) :
    (s.applyClip a o).books = s.books := by
  unfold State.applyClip
  split <;> rfl
@[simp] theorem State.applyOutcome_books (s : State) (p : Position) (a : Antenna) (o : VisitOutcome) :
    (s.applyOutcome p a o).books = s.books := by
  simp [State.applyOutcome]

@[simp] theorem State.startSignal_books (s : State) (n : Lane) (k : SignalKind) : (s.startSignal n k).books = s.books :=
  State.withLane_books _ _ _ rfl
@[simp] theorem State.startTone_books (s : State) (n : Lane) (p : Pattern) : (s.startTone n p).books = s.books :=
  State.withLane_books _ _ _ rfl
@[simp] theorem State.setLane_books (s : State) (n : Lane) (x : LaneSettings) : (s.setLane n x).books = s.books :=
  State.withLane_books _ _ _ rfl
@[simp] theorem State.putVerdict_books (s : State) (n : Lane) (v : Verdict) : (s.putVerdict n v).books = s.books := by
  rw [State.putVerdict, State.raiseLane_books, State.withLane_books _ _ _ rfl, State.withAdm_books]
@[simp] theorem State.putReport_books (s : State) (n : Lane) (k : ReportKind) (p : PassNo) :
    (s.putReport n k p).books = s.books := by
  rw [State.putReport, State.raiseLane_books, State.withLane_books _ _ _ rfl]
@[simp] theorem State.fillQuiet_books (s : State) (n : Lane) (p : PassNo) : (s.fillQuiet n p).books = s.books := rfl
@[simp] theorem State.refuse_books (s : State) (n : Lane) (c : Card) (v : Verdict) (r : RefuseReason) :
    (s.refuse n c v r).books = s.books := by
  simp [State.refuse]
@[simp] theorem State.refuseCard_books (s : State) (n : Lane) (c : Card) (r : RefuseReason) (product : Bool)
    (remaining : Nat) (unlearned : Bool) : (s.refuseCard n c r product remaining unlearned).books = s.books := by
  simp [State.refuseCard]
@[simp] theorem State.writeBack_books (s : State) (n : Lane) (c : Card) (b : Basis) :
    (s.writeBack n c b).books = s.books := by
  unfold State.writeBack
  (repeat' split) <;> simp

@[simp] theorem State.freePassage_books (s : State) (n : Lane) : (s.freePassage n).books = s.books := by
  simp [State.freePassage]
@[simp] theorem State.intrusion_books (s : State) (n : Lane) : (s.intrusion n).books = s.books := by
  simp [State.intrusion]
/-- A rider who enters makes a GRANTED lane ENTERING, which is the same seat. -/
@[simp] theorem State.entryBegun_books (s : State) (n : Lane) : (s.entryBegun n).books = s.books := by
  unfold State.entryBegun
  split
  · next h => exact State.withLane_books _ _ _ (by simp [LaneUnit.seat, h, Passage.stage])
  · rfl

theorem LaneUnit.setBeam_seat (u : LaneUnit) (b : Beam) (d : Debounced) : (u.setBeam b d).seat = u.seat := by
  cases b <;> rfl

@[simp] theorem State.changeMode_books (s : State) (n : Lane) (m : Mode) (station : Bool) :
    (s.changeMode n m station).books = s.books := by
  have hmode : (s.withLane n fun u => { u with mode := m }).books = s.books := State.withLane_books _ _ _ rfl
  unfold State.changeMode
  dsimp only
  rw [State.arbiter_books]
  (repeat' split) <;> simp [hmode]

@[simp] theorem State.countDrift_books (s : State) (e : Int) : (s.countDrift e).books = s.books := by
  unfold State.countDrift
  split <;> rfl
@[simp] theorem State.countedPulse_books (s : State) : s.countedPulse.books = s.books := by
  unfold State.countedPulse State.actOnPulse
  dsimp only
  (repeat' split) <;> simp
@[simp] theorem State.secondBoundary_books (s : State) : s.secondBoundary.books = s.books :=
  State.books_eq_of_parts (by simp) (by simp) (by simp) (by simp) (by simp)
@[simp] theorem State.tick_books (s : State) : s.tick.books = s.books :=
  State.books_eq_of_parts (by simp) (by simp) (by simp) (by simp) (by simp)

/-- Lane stamps at a lane position end without a trace in the books (R36, R75). -/
@[simp] theorem State.endPendingWork_lane_books (s : State) (n : Lane) :
    (s.endPendingWork (.lane n)).books = s.books := rfl

end Sys2Proof.Machine
/-! # A law of the part, and what every command keeps

`Law b Q` says that `Q` holds of a state with the books `b`, and that the operations which change the books keep it.
`Law.step` goes once through all commands: from a state with the books `b`, every step ends in a state with `Q`. An
invariant that rests on the books is such a law, and so is "the table has moved on from `b`'s table". -/

namespace Sys2Proof.Machine

/-- `Q` begins at the books `b` and survives every operation that changes the books. The operations that make or remove
records (`edit`, `erase`, `clear`, `scan`, `answered`, `startUp`) come at most once in a step, from the books `b`. -/
structure Law (b : Books) (Q : State → Prop) : Prop where
  start : ∀ s, s.books = b → Q s
  same : ∀ s t, t.books = s.books → Q s → Q t
  grantHead : ∀ s e q, s.load.queue = e :: q → Q s → Q (s.grantHead e.lane)
  dropEntry : ∀ s n r, s.inQueue n = true → Q s → Q (s.dropEntry n r)
  leave : ∀ s n, (s.lane n).passage.isLive = true → Q s →
    Q ((s.endContext n).withLoad fun l => { l with live := l.live - 1 })
  complete : ∀ s n, (s.lane n).passage = .entering → Q s → Q (s.completeGrant n)
  manual : ∀ s n, (s.lane n).passage = .idle → Q s → Q (s.manualGrant n)
  clearBehind : ∀ s q, Q s → Q (s.clearBehind q)
  serviceEnd : ∀ s, Q s → Q (s.endPendingWork .ps)
  readMissed : ∀ s, Q s → Q s.serviceReadMissed
  serviceStamp : ∀ s o frame, Q s → Q (s.settleServiceStamp o frame)
  quote : ∀ s, Q s → Q (refundQuoteBlock s).state
  commit : ∀ s k, Q s → Q (refundCommitBlock k s).state
  endHold : ∀ s q e, s.refund.ctx = .quoted q → Q s → Q (s.endHold q e)
  remove : ∀ s k, Q s → Q (journalRemoveBlock k s).state
  edit : ∀ s p st create, s.books = b → Q (editPass p st create s).state
  erase : ∀ s p, s.books = b → Q (passEraseBlock p s).state
  clear : ∀ s, s.books = b → Q (clearLearnedBlock s).state
  scan : ∀ (s : State) n c, (c.ticketOk = true → c.pass ≠ 0) → s.books = b → Q (s.scanAnswer n c)
  answered : ∀ (s : State) c, (c.ticketOk = true → c.pass ≠ 0) → s.books = b → Q (s.serviceReadAnswered c)
  startUp : ∀ (s : State) cause selected, s.books = b → Q (s.startUp cause selected)

namespace Law

variable {b : Books} {Q : State → Prop}

/-- A state with the same books as one with `Q` has `Q`. -/
theorem of_books (law : Law b Q) {s t : State} (hs : Q s) (h : t.books = s.books) : Q t := law.same s t h hs

theorem reader (law : Law b Q) {s : State} (hs : Q s) (f : Reader → Reader) (h : (f s.reader).slot = s.reader.slot) :
    Q (s.withReader f) :=
  law.of_books hs (State.withReader_books s f (by rw [h]))

theorem load (law : Law b Q) {s : State} (hs : Q s) (f : Loading → Loading) (hl : (f s.load).live = s.load.live)
    (hq : (f s.load).queue = s.load.queue) : Q (s.withLoad f) :=
  law.of_books hs (State.withLoad_books s f hl hq)

theorem arbiter (law : Law b Q) {s : State} (hs : Q s) : Q s.arbiter := law.of_books hs (State.arbiter_books s)

/-! ## The release queue and the beams -/

theorem serveHead (law : Law b Q) {s : State} {e : QueueEntry} {q : List QueueEntry} (hq : s.load.queue = e :: q)
    (hs : Q s) : Q (s.serveHead e.lane) := by
  unfold State.serveHead
  split
  · exact law.dropEntry s _ _ (by simp [State.inQueue, hq]) hs
  · exact law.grantHead s e q hq hs

theorem serviceRounds (law : Law b Q) (k : Nat) : ∀ {s : State}, Q s → Q (serviceRounds k s) := by
  induction k with
  | zero => exact fun hs => hs
  | succ k ih =>
    intro s hs
    unfold Machine.serviceRounds
    split
    · exact hs
    · next e q hq =>
      split
      · exact ih (law.serveHead hq hs)
      · exact hs

theorem serviceStep (law : Law b Q) {s : State} (hs : Q s) : Q s.serviceStep := law.serviceRounds _ hs

theorem withdraw (law : Law b Q) {s : State} (hs : Q s) (n : Lane) (r : WithdrawReason) : Q (s.withdraw n r) := by
  unfold State.withdraw
  split
  · next h => exact law.serviceStep (law.dropEntry s n r h hs)
  · exact hs

/-- A fold keeps `Q` where each of its rounds does. -/
theorem foldl {α : Type} {f : State → α → State} (h : ∀ s a, Q s → Q (f s a)) (l : List α) :
    ∀ {s : State}, Q s → Q (l.foldl f s) := by
  induction l with
  | nil => exact fun hs => hs
  | cons a l ih => exact fun hs => ih (h _ a hs)

theorem withdrawAll (law : Law b Q) {s : State} (hs : Q s) : Q s.withdrawAll := by
  unfold State.withdrawAll
  exact foldl (Q := Q) (fun _ n ht => law.withdraw ht n .lowSupply) _ hs

theorem expireGrant (law : Law b Q) {s : State} {n : Lane} (hn : (s.lane n).passage.isLive = true) (hs : Q s) :
    Q (s.expireGrant n) := by
  unfold State.expireGrant
  exact law.serviceStep (law.of_books (law.leave s n hn hs) (by simp))

theorem reversePassage (law : Law b Q) {s : State} (hs : Q s) (n : Lane) : Q (s.reversePassage n) := by
  unfold State.reversePassage
  exact law.serviceStep (law.of_books hs (by simp))

theorem forwardPassage (law : Law b Q) {s : State} (hs : Q s) (n : Lane) : Q (s.forwardPassage n) := by
  unfold State.forwardPassage
  split
  · next h => exact law.complete s n h hs
  all_goals exact law.of_books hs (by split <;> simp)

theorem backOut (law : Law b Q) {s : State} (hs : Q s) (n : Lane) : Q (s.backOut n) := by
  unfold State.backOut
  split
  · next h =>
    split
    · exact law.expireGrant (by simp [h, Passage.isLive]) hs
    · exact law.of_books hs (State.withLane_books _ _ _ (by simp [LaneUnit.seat, h, Passage.stage]))
  · exact hs

theorem handOver (law : Law b Q) {s : State} (hs : Q s) (n : Lane) (h : HandOver) : Q (s.handOver n h) := by
  unfold State.handOver
  cases h with
  | entryBegun => exact law.of_books hs (by simp)
  | exitBegun => exact hs
  | forward => exact law.forwardPassage hs n
  | reverse => exact law.reversePassage hs n
  | cleared seen =>
    cases seen with
    | true => exact hs
    | false => exact law.backOut hs n
  | nothing => exact hs

theorem beamChanged (law : Law b Q) {s : State} (hs : Q s) (n : Lane) (m : Beam) : Q (s.beamChanged n m) := by
  unfold State.beamChanged
  exact law.handOver (law.of_books hs (State.withLane_books _ _ _ (LaneUnit.setBeam_seat _ _ _))) n _

theorem beamIfDue (law : Law b Q) {s : State} (hs : Q s) (n : Lane) (m : Beam) : Q (s.beamIfDue n m) := by
  unfold State.beamIfDue
  split
  · exact law.beamChanged hs n m
  · exact hs

theorem boardChanged (law : Law b Q) {s : State} (hs : Q s) : Q s.boardChanged := by
  have hboard : Q (s.withLoad fun l => { l with board := s.load.board.settle }) :=
    law.load hs _ rfl rfl
  unfold State.boardChanged
  dsimp only
  split
  · unfold State.boardPulse
    exact law.serviceStep (law.of_books hboard (by simp))
  · exact hboard

theorem boardIfDue (law : Law b Q) {s : State} (hs : Q s) : Q s.boardIfDue := by
  unfold State.boardIfDue
  split
  · exact law.boardChanged hs
  · exact hs

theorem settleInputs (law : Law b Q) {s : State} (hs : Q s) : Q s.settleInputs := by
  unfold State.settleInputs
  exact law.boardIfDue (foldl (Q := Q) (fun _ n ht => law.beamIfDue (law.beamIfDue ht n .enb) n .exb) _ hs)

theorem setLanes (law : Law b Q) {s : State} (hs : Q s) (ns : List Lane) (x : LaneSettings) (d : Nat) :
    Q (s.setLanes ns x d) := by
  have hset : Q (ns.foldl (fun s n => s.setLane n x) s) :=
    foldl (Q := Q) (fun t n ht => law.of_books ht (State.setLane_books t n x)) ns hs
  have hdebounce : Q { ns.foldl (fun s n => s.setLane n x) s with debounce := d } := law.of_books hset rfl
  exact law.arbiter (law.settleInputs hdebounce)

/-! ## The supply -/

theorem monitorRunning (law : Law b Q) {s : State} (hs : Q s) : Q s.monitorRunning := by
  have hdown : Q s.enterDown := law.withdrawAll (law.of_books hs (by simp))
  unfold State.monitorRunning
  split
  · split
    · exact hdown
    · split
      · exact law.withdrawAll (law.of_books hs (by simp))
      · exact hs
  · split
    · exact hdown
    · exact law.of_books hs (by simp)
  · exact hs

theorem enterRun (law : Law b Q) {s : State} (hs : Q s) : Q s.enterRun := by
  have hrun : Q ((s.withSupply fun u =>
      { u with state := .run, recovery := none, lastChange := some s.time.runSec }).raiseStation .supply) :=
    law.of_books hs (by simp)
  exact law.arbiter (law.serviceStep hrun)

/-! ## The antenna map and the ends of visits -/

theorem endIfUnworkable (law : Law b Q) {s : State} (hs : Q s) (p : Position) : Q (s.endIfUnworkable p) := by
  unfold State.endIfUnworkable
  split
  · cases p with
    | lane n => exact law.of_books hs (by simp)
    | ps => exact law.serviceEnd s hs
  · exact hs

theorem remapPosition (law : Law b Q) {s : State} (hs : Q s) (p : Position) : Q (s.remapPosition p) := by
  unfold State.remapPosition
  refine law.of_books (law.endIfUnworkable ?_ p) (State.raiseAt_books _ _ _)
  exact law.reader hs _ rfl

theorem applyMap (law : Law b Q) {s : State} (hs : Q s) (changes : List (Position × Option Antenna)) :
    Q (s.applyMap changes) := by
  unfold State.applyMap
  exact foldl (Q := Q) (fun _ c ht => law.remapPosition ht c.1) changes (law.reader hs _ rfl)

theorem installMap (law : Law b Q) {s : State} (hs : Q s) (new : PerPos (Option Antenna)) : Q (s.installMap new) := by
  unfold State.installMap
  exact law.applyMap (law.reader hs _ rfl) _

theorem endVisit (law : Law b Q) {s : State} (hs : Q s) : Q s.endVisit := by
  have happlied : Q s.applyDeferred := by
    unfold State.applyDeferred
    exact law.applyMap (law.reader hs _ rfl) _
  exact law.arbiter (law.reader happlied _ rfl)

end Law
end Sys2Proof.Machine

namespace Sys2Proof.Machine

/-! ## Blocks of orders that leave the books -/

@[simp] theorem noticeFetchBlock_books (p : Port) (s : State) : (noticeFetchBlock p s).state.books = s.books :=
  State.books_eq_of_parts (by simp) (by simp) (by simp) (by simp) (by simp)
@[simp] theorem noticeMaskBlock_books (p : Port) (mask : BitVec 16) (s : State) :
    (noticeMaskBlock p mask s).state.books = s.books :=
  State.books_eq_of_parts (by simp) (by simp) (by simp) (by simp) (by simp)

/-- A card whose ticket check passes shows a pass (R192; log 26). -/
theorem cardOf_pass_ne_zero (f : List Byte) (h : (cardOf f).ticketOk = true) : (cardOf f).pass ≠ 0 := by
  simp only [cardOf, Bool.and_eq_true, ticketInRange, bne_iff_ne] at h
  exact h.2.2

/-- A port that takes no order changes itself alone. -/
theorem takeOrder_shut_books (p : Port) (code : Byte) (done : DoneNotice) (rights : Rights) (block : State → Answer)
    (s : State) (h : s.portOpen p = false) : (takeOrder p code done rights block s).books = s.books := by
  cases hstop : s.stopped with
  | true => rw [takeOrder_stopped _ _ _ _ _ _ hstop]
  | false =>
    cases hwait : (s.port p).awaitRelease with
    | true => rw [takeOrder_awaiting _ _ _ _ _ _ hstop hwait, State.withPort_books]
    | false =>
      cases hslot : (s.port p).slot with
      | inProgress c => rw [takeOrder_busy _ _ _ _ _ _ _ hstop hwait hslot, State.withPort_books]
      | empty => simp [State.portOpen, hstop, hwait, hslot] at h
      | ready r => simp [State.portOpen, hstop, hwait, hslot] at h

namespace Law

variable {b : Books} {Q : State → Prop}

/-! ## Completions of visits -/

theorem readVisit (law : Law b Q) {s : State} (hs : s.books = b) (r : Reception) : Q (s.readVisit r) := by
  have hdeliver : ∀ (v : CardVisit) (t : State) (o : VisitOutcome) (frame : List Byte), t.books = b →
      Q (t.deliverRead v o frame) := by
    intro v t o frame ht
    unfold State.deliverRead
    split
    · split
      · exact law.scan t _ _ (cardOf_pass_ne_zero frame) ht
      · exact law.start t ht
    · split
      · exact law.answered t _ (cardOf_pass_ne_zero frame) ht
      · exact law.readMissed t (law.start t ht)
  unfold State.readVisit
  split
  · split
    · exact law.endVisit (hdeliver _ _ _ _ (by simpa using hs))
    · exact law.start s hs
  · exact law.start s hs
  · exact law.start s hs

theorem settleLaneStamp (law : Law b Q) {s : State} (hs : Q s) (n : Lane) (o : VisitOutcome) (frame : List Byte) :
    Q (s.settleLaneStamp n o frame) := by
  unfold State.settleLaneStamp
  split
  · exact hs
  · dsimp only
    split
    · exact law.clearBehind _ _ (law.reader hs _ rfl)
    · split
      · exact law.reader hs _ rfl
      · exact law.reader hs _ rfl

theorem stampAttempt (law : Law b Q) {s : State} (hs : Q s) (r : Reception) : Q (s.stampAttempt r) := by
  unfold State.stampAttempt
  split
  · split
    · next v _ _ =>
      unfold State.stampCompleted
      have hout : Q (s.applyOutcome v.position v.antenna (outcomeOf 14 0xB6 r)) := law.of_books hs (by simp)
      refine law.endVisit ?_
      split
      · exact law.settleLaneStamp hout _ _ _
      · exact law.serviceStamp _ _ _ hout
    · exact hs
  · exact hs
  · exact hs

theorem applyTune (law : Law b Q) {s : State} (hs : Q s) (p : Position) (res : TuneResult) : Q (s.applyTune p res) := by
  unfold State.applyTune
  dsimp only
  have hend : ∀ m : PosMemory, Q ((s.withReader fun d => { d with pos := d.pos.set p m }).endIfUnworkable p) :=
    fun m => law.endIfUnworkable (law.reader hs _ rfl) p
  have hraised : ∀ m : PosMemory,
      Q (((s.withReader fun d => { d with pos := d.pos.set p m }).endIfUnworkable p).raiseAt p .position) :=
    fun m => law.of_books (hend m) (by simp)
  split
  · split
    · exact hraised _
    · exact hend _
  all_goals exact hraised _

theorem applyTuneAt (law : Law b Q) {s : State} (hs : Q s) (a : Antenna) (res : TuneResult) :
    Q (match s.reader.positionOf a with
      | some p => s.applyTune p res
      | none => s) := by
  split
  · exact law.applyTune hs _ res
  · exact hs

theorem tuneVisit (law : Law b Q) {s : State} (hs : Q s) (i4 i12 : Nat) : Q (s.tuneVisit i4 i12) := by
  unfold State.tuneVisit
  split
  · next a target ordered _ =>
    have hrec := law.reader hs (fun d =>
      { d with tunes := d.tunes.set a (some (tuneOutcome target i4 i12 (s.reader.levels.get a)))
               levels := d.levels.set a (tuneOutcome target i4 i12 (s.reader.levels.get a)).newLevel }) rfl
    have hplaced := law.applyTuneAt hrec a (tuneOutcome target i4 i12 (s.reader.levels.get a)).result
    unfold State.tuneCompleted
    refine law.endVisit ?_
    split
    · exact law.of_books hplaced ((State.completeLong_books _ _ _).trans (State.raiseStation_books _ _))
    · exact law.of_books hplaced (State.raiseStation_books _ _)
  · exact hs
  · exact hs

/-! ## Orders -/

/-- The taking of an order keeps what its block keeps: outside the block it changes its port alone. -/
theorem takeOrder (law : Law b Q) (p : Port) (code : Byte) (done : DoneNotice) (rights : Rights)
    {block : State → Answer} (hblock : ∀ s, s.books = b → Q (block s).state) {s : State} (hs : s.books = b) :
    Q (takeOrder p code done rights block s) := by
  cases hopen : s.portOpen p with
  | false => exact law.start _ ((takeOrder_shut_books p code done rights block s hopen).trans hs)
  | true =>
    have htaken := hblock (s.taken p) hs
    rw [takeOrder_open _ _ _ _ _ _ hopen]
    split
    · split
      · exact law.of_books htaken (by simp)
      · exact law.of_books htaken rfl
    · exact law.start _ (by simpa using hs)

/-- An order whose block leaves the books. -/
theorem takeOrder_same (law : Law b Q) (p : Port) (code : Byte) (done : DoneNotice) (rights : Rights)
    {block : State → Answer} (hblock : ∀ s, (block s).state.books = s.books) {s : State} (hs : s.books = b) :
    Q (Machine.takeOrder p code done rights block s) :=
  law.takeOrder p code done rights (fun t ht => law.start _ ((hblock t).trans ht)) hs

theorem laneModeBlock (law : Law b Q) (station : Bool) (lane mode : Byte) {s : State} (hs : s.books = b) :
    Q (laneModeBlock station lane mode s).state := by
  unfold Machine.laneModeBlock
  (repeat' split) <;> exact law.start _ (by simpa using hs)

theorem manualGrantBlock (law : Law b Q) (lane : Byte) {s : State} (hs : s.books = b) :
    Q (manualGrantBlock lane s).state := by
  unfold Machine.manualGrantBlock
  split
  · exact law.start s hs
  · next n _ =>
    split
    · exact law.start s hs
    · next h =>
      split
      · exact law.start s hs
      · exact law.manual s n (by simpa using (not_or.mp h).2) (law.start s hs)

theorem refundReleaseBlock (law : Law b Q) (quote : Nat) {s : State} (hs : s.books = b) :
    Q (refundReleaseBlock quote s).state := by
  unfold Machine.refundReleaseBlock
  split
  · next q hq =>
    split
    · exact law.start s hs
    · exact law.endHold s q _ hq (law.start s hs)
  all_goals exact law.start s hs

/-- Every order that a frame carries, and its row of the table. -/
theorem orderEffect (law : Law b Q) (i : Instr) {s : State} (hs : s.books = b) : Q (orderEffect i s) := by
  have same : ∀ t : State, t.table = s.table → t.load = s.load → t.lanes = s.lanes →
      t.reader.slot = s.reader.slot → t.refund = s.refund → Q t :=
    fun t h1 h2 h3 h4 h5 => law.start t ((State.books_eq_of_parts h1 h2 h3 h4 h5).trans hs)
  have unchanged : Q s := law.start s hs
  cases i with
  | passPut p pass state =>
    refine law.takeOrder _ _ _ _ (fun t ht => ?_) hs
    unfold passPutBlock
    split
    · exact law.edit t _ _ _ ht
    · exact law.start t ht
  | passBlock p pass => exact law.takeOrder _ _ _ _ (fun t ht => law.edit t _ _ _ ht) hs
  | passUnblock p pass => exact law.takeOrder _ _ _ _ (fun t ht => law.edit t _ _ _ ht) hs
  | passErase p pass => exact law.takeOrder _ _ _ _ (fun t ht => law.erase t _ ht) hs
  | passClearLearned p => exact law.takeOrder _ _ _ _ (fun t ht => law.clear t ht) hs
  | antennaMap p p0 p1 p2 p3 ps =>
    refine law.takeOrder _ _ _ _ (fun t ht => ?_) hs
    unfold antennaMapBlock
    split
    · exact law.arbiter (law.installMap (law.start t ht) _)
    · exact law.start t ht
  | antennaTune p antenna =>
    refine law.takeOrder_same _ _ _ _ (fun t => ?_) hs
    unfold antennaTuneBlock
    (repeat' split) <;> simp
  | laneMode p lane mode => exact law.takeOrder _ _ _ _ (fun t ht => law.laneModeBlock _ _ _ ht) hs
  | laneSet p lane window debounce high low mute =>
    refine law.takeOrder _ _ _ _ (fun t ht => ?_) hs
    unfold laneSetBlock
    split
    · exact law.setLanes (law.start t ht) _ _ _
    · exact law.start t ht
  | manualGrant p lane => exact law.takeOrder _ _ _ _ (fun t ht => law.manualGrantBlock _ ht) hs
  | loadingSet p limit hold =>
    refine law.takeOrder _ _ _ _ (fun t ht => ?_) hs
    unfold loadingSetBlock
    split
    · exact law.arbiter (law.serviceStep (law.load (law.start t ht) _ rfl rfl))
    · exact law.start t ht
  | refundQuote p => exact law.takeOrder _ _ _ _ (fun t ht => law.quote t (law.start t ht)) hs
  | refundCommit p quote => exact law.takeOrder _ _ _ _ (fun t ht => law.commit t _ (law.start t ht)) hs
  | refundRelease p quote => exact law.takeOrder _ _ _ _ (fun t ht => law.refundReleaseBlock _ ht) hs
  | journalRemove p seq => exact law.takeOrder _ _ _ _ (fun t ht => law.remove t _ (law.start t ht)) hs
  | tariffPutPart1 p product prices fee minDays unit minRefund claim refundable =>
    refine law.takeOrder_same _ _ _ _ (fun t => ?_) hs
    unfold tariffPart1Block
    (repeat' split) <;> rfl
  | tariffPutPart2 p product prices =>
    refine law.takeOrder_same _ _ _ _ (fun t => ?_) hs
    unfold tariffPart2Block
    dsimp only
    (repeat' split) <;> rfl
  | tariffErase p product =>
    refine law.takeOrder_same _ _ _ _ (fun t => ?_) hs
    unfold tariffEraseBlock
    (repeat' split) <;> rfl
  | refundSet p hold =>
    refine law.takeOrder_same _ _ _ _ (fun t => ?_) hs
    unfold refundSetBlock
    split <;> rfl
  | readerSet p attempts threshold coarse fine window target =>
    refine law.takeOrder_same _ _ _ _ (fun t => ?_) hs
    unfold readerSetBlock
    split <;> rfl
  | passQuery | tableStatus | positionStatus | admitSet | rulePut | ruleQuery | verdictFetch
  | laneStatus | loadingStatus | countsRead | tariffQuery | refundStatus | journalRead
  | clockSet | clockSync | clockStatus | supplyStatus | noticeFetch | noticeMask | ident =>
    exact same _ (by simp [Machine.orderEffect]) (by simp [Machine.orderEffect]) (by simp [Machine.orderEffect])
      (by simp [Machine.orderEffect]) (by simp [Machine.orderEffect])
  | _ => exact unchanged

/-! ## Frames -/

theorem checkFrame (law : Law b Q) (p : Port) (code : Byte) (bytes : List Byte) (insideByte : Bool) {s : State}
    (hs : s.books = b) : Q (checkFrame p code bytes insideByte s) := by
  have hrefused : ∀ res, Q (s.refuseFrame p code res) := fun res => law.start _ (by simpa using hs)
  unfold Machine.checkFrame
  split
  · exact hrefused _
  · split
    · exact hrefused _
    · split
      · exact hrefused _
      · unfold orderEffectOf
        split
        · exact law.orderEffect _ hs
        · exact law.takeOrder_same _ _ _ _ (fun _ => rfl) hs

theorem takeFrame (law : Law b Q) (p : Port) (bytes : List Byte) (insideByte : Bool) {s : State} (hs : s.books = b) :
    Q (s.takeFrame p bytes insideByte) := by
  have hport : ∀ f, Q (s.withPort p f) := fun f => law.start _ hs
  unfold State.takeFrame
  split
  · exact hport _
  · split
    · split
      · exact hport _
      · exact law.start s hs
    · split
      · have hrefused : Q (s.refuseFrame p (Config.echoOfNoByte s.free) .badFrame) :=
          law.start _ (by simpa using hs)
        exact law.of_books hrefused rfl
      · exact law.start s hs
    · split
      · exact hport _
      · split
        · exact hport _
        · exact law.checkFrame p _ _ insideByte hs
        · exact law.checkFrame p _ _ insideByte hs

/-! ## Commands and steps -/

/-- What a running part keeps (R183). -/
theorem running (law : Law b Q) {s : State} (hs : s.books = b) {f : State → State} (hf : Q (f s)) :
    Q (s.running f) := by
  unfold State.running
  split
  · exact law.start s hs
  · exact hf

theorem vmainChange (law : Law b Q) (band : VmainBand) {s : State} (hs : s.books = b) :
    ∃ t, execVmainChange band s = .next t ∧ Q t := by
  refine ⟨_, rfl, ?_⟩
  split
  · exact law.start _ hs
  · exact law.monitorRunning (law.start _ hs)

theorem startUpCommand (law : Law b Q) (cause : StartCause) (selected : PerPort Bool) {s : State} (hs : s.books = b) :
    ∃ t, execStartUp cause selected s = .next t ∧ Q t := by
  refine ⟨_, rfl, ?_⟩
  cases cause with
  | power =>
    dsimp only
    split
    · exact law.startUp s _ _ hs
    · exact law.start s hs
  | reset =>
    dsimp only
    split
    · split
      · exact law.startUp _ _ _ hs
      · exact law.start _ hs
    · exact law.start s hs

theorem liftStop (law : Law b Q) (active : Bool) {s : State} (hs : s.books = b) :
    ∃ t, execLiftStop active s = .next t ∧ Q t := by
  have hload : Q (s.withLoad fun l => { l with liftStop := active }) := law.load (law.start s hs) _ rfl rfl
  refine ⟨_, rfl, ?_⟩
  split
  · exact hload
  · exact law.arbiter (law.serviceStep hload)

/-- Every command, in every state with the books `b`, ends in a state with `Q`. -/
theorem exec (law : Law b Q) (i : Instr) {s : State} (hs : s.books = b) : ∃ t, exec i s = .next t ∧ Q t := by
  have hQ : Q s := law.start s hs
  have order : Machine.exec i s = .next (Machine.orderEffect i s) → ∃ t, Machine.exec i s = .next t ∧ Q t :=
    fun h => ⟨_, h, law.orderEffect i hs⟩
  have event : ∀ f : State → State, Machine.exec i s = .next (s.running f) → Q (f s) →
      ∃ t, Machine.exec i s = .next t ∧ Q t :=
    fun f h hf => ⟨_, h, law.running hs hf⟩
  cases i with
  | orderFrame p bytes insideByte => exact event _ rfl (law.takeFrame p bytes insideByte hs)
  | orderFrameDiscarded p =>
    refine event _ rfl ?_
    split <;> exact law.start _ hs
  | fetchTransaction p clocked =>
    refine event _ rfl ?_
    split <;> exact law.start _ hs
  | fetchStatusFixed p =>
    refine event _ rfl ?_
    split <;> exact law.start _ hs
  | readVisitCompletion r => exact event _ rfl (law.readVisit hs r)
  | stampAttemptCompletion r => exact event _ rfl (law.stampAttempt hQ r)
  | tuneCompletion i4 i12 => exact event _ rfl (law.tuneVisit hQ i4 i12)
  | beamRawChange n m broken =>
    exact ⟨_, rfl, law.of_books hQ (State.withLane_books _ _ _ (LaneUnit.setBeam_seat _ _ _))⟩
  | beamDebouncedChange n m =>
    refine event _ rfl ?_
    split
    · exact law.arbiter (law.beamChanged hQ n m)
    · exact hQ
  | boardRawChange active => exact ⟨_, rfl, law.load hQ _ rfl rfl⟩
  | boardPulse =>
    refine event _ rfl ?_
    split
    · exact law.arbiter (law.boardChanged hQ)
    · exact hQ
  | boardDebouncedInactive =>
    refine event _ rfl ?_
    split
    · exact hQ
    · exact law.boardIfDue hQ
  | liftStop active => exact law.liftStop active hs
  | grantExpiry n =>
    refine event _ rfl ?_
    split
    · next h => exact law.arbiter (law.expireGrant (by simp [h.1, Passage.isLive]) hQ)
    · exact hQ
  | holdTimeout n =>
    refine event _ rfl ?_
    split
    · exact law.arbiter (law.withdraw hQ n _)
    · exact hQ
  | withdrawalTaken n r =>
    refine event _ rfl ?_
    dsimp only
    split
    · exact law.arbiter (law.withdraw (law.load hQ _ rfl rfl) n r)
    · exact hQ
  | repeatQuietDeadline n =>
    refine event _ rfl ?_
    split <;> exact law.start _ hs
  | timedSignalEnd n =>
    refine event _ rfl ?_
    split
    · exact law.of_books hQ (State.withLane_books _ _ _ rfl)
    · exact hQ
  | tonePatternEnd n =>
    refine event _ rfl ?_
    split
    · exact law.of_books hQ (State.withLane_books _ _ _ rfl)
    · exact hQ
  | refundHoldExpiry =>
    refine event _ rfl ?_
    split
    · next q hq =>
      have hctx : s.refund.ctx = .quoted q := by
        unfold State.expiredQuote at hq
        split at hq
        · next q' hq' =>
          split at hq
          · rw [hq', Option.some.inj hq]
          · cases hq
        all_goals cases hq
      exact law.of_books (law.endHold s q .expired hctx hQ) (State.raiseStation_books _ _)
    · exact hQ
  | localSecondBoundary =>
    refine event _ rfl ?_
    split
    · exact law.of_books hQ (State.secondBoundary_books s)
    · exact hQ
  | runMinute =>
    refine event _ rfl ?_
    split <;> exact law.start _ hs
  | stpPulse =>
    refine event _ rfl ?_
    split
    · exact hQ
    · exact law.of_books hQ (State.countedPulse_books s)
  | pulseWatchExpiry =>
    refine event _ rfl ?_
    split <;> exact law.start _ hs
  | vmainChange band => exact law.vmainChange band hs
  | recoveryTimer =>
    refine event _ rfl ?_
    split
    · exact law.enterRun hQ
    · exact hQ
  | reset => exact ⟨_, rfl, law.start _ hs⟩
  | startUp cause selected => exact law.startUpCommand cause selected hs
  | vbakFailure =>
    refine ⟨_, rfl, ?_⟩
    split <;> exact law.start _ hs
  | _ => exact order rfl

/-- Every step from a state with the books `b` ends in a state with `Q`. -/
theorem step (law : Law b Q) {s t : State} (hs : s.books = b) (h : step s = .next t) : Q t := by
  have command : ∀ (i : Instr) (u : State), u.books = b → Machine.exec i u = .next t → Q t := by
    intro i u hu hi
    obtain ⟨t', ht', hq⟩ := law.exec i hu
    rw [ht'] at hi
    cases hi
    exact hq
  unfold Machine.step at h
  split at h
  · next c rest _ => exact command c { s with pending := rest } hs h
  · split at h
    · exact command _ s hs h
    · cases h
      exact law.start _ (by simpa using hs)

end Law
end Sys2Proof.Machine

/-! # What a write of a record keeps, and what a table becomes

`EachRecord R t t'` says that `t'` holds the slots of `t`, each with a record that `R` leads to. The changes of records that
the part makes are classed by three relations: `UsageKept` (every change, R2 and R14) and `LaneWrite` (the writes of a
lane's release, which leave the record's state and end at most one LIVE pin). -/

namespace Sys2Proof.Machine

/-! ## Tables record by record -/

/-- The same slots, each with a record that `R` leads to. -/
def EachRecord (R : PassRecord → PassRecord → Prop) (t t' : PassTable) : Prop :=
  List.Forall₂ (fun e e' => e'.1 = e.1 ∧ R e.2 e'.2) t t'

namespace EachRecord

variable {R S : PassRecord → PassRecord → Prop} {t t' t'' : PassTable}

theorem refl (h : ∀ r, R r r) (t : PassTable) : EachRecord R t t := List.forall₂_same.mpr fun e _ => ⟨rfl, h e.2⟩

theorem mono (h : ∀ r r', R r r' → S r r') (ht : EachRecord R t t') : EachRecord S t t' :=
  List.Forall₂.imp (fun _ _ he => ⟨he.1, h _ _ he.2⟩) ht

theorem trans {T : PassRecord → PassRecord → Prop} (h : ∀ r r' r'', R r r' → S r' r'' → T r r'')
    (h₁ : EachRecord R t t') (h₂ : EachRecord S t' t'') : EachRecord T t t'' := by
  unfold EachRecord at *
  induction h₁ generalizing t'' with
  | nil =>
    cases h₂
    exact .nil
  | cons hx _ ih =>
    cases h₂ with
    | cons hy h₂ => exact .cons ⟨hy.1.trans hx.1, h _ _ _ hx.2 hy.2⟩ (ih h₂)

/-- A change of the record of one pass, by what it does to the records that the pass has in the table. -/
theorem update (hr : ∀ r, R r r) {p : PassNo} {f : PassRecord → PassRecord}
    (hf : ∀ e ∈ t, isRecordOf p e = true → R e.2 (f e.2)) : EachRecord R t (updateRecord t p f) := by
  refine List.forall₂_map_right_iff.mpr (List.forall₂_same.mpr fun e he => ?_)
  by_cases h : isRecordOf p e = true
  · simpa [h] using hf e he h
  · simpa [h] using hr e.2

theorem mem_right (h : EachRecord R t t') {e' : Nat × PassRecord} (he : e' ∈ t') :
    ∃ e ∈ t, e'.1 = e.1 ∧ R e.2 e'.2 := by
  unfold EachRecord at h
  induction h with
  | nil => cases he
  | cons hx _ ih =>
    rcases List.mem_cons.mp he with rfl | he
    · exact ⟨_, List.mem_cons_self, hx⟩
    · obtain ⟨e, hm, h'⟩ := ih he
      exact ⟨e, List.mem_cons_of_mem _ hm, h'⟩

theorem mem_left (h : EachRecord R t t') {e : Nat × PassRecord} (he : e ∈ t) :
    ∃ e' ∈ t', e'.1 = e.1 ∧ R e.2 e'.2 := by
  unfold EachRecord at h
  induction h with
  | nil => cases he
  | cons hx _ ih =>
    rcases List.mem_cons.mp he with rfl | he
    · exact ⟨_, List.mem_cons_self, hx⟩
    · obtain ⟨e', hm, h'⟩ := ih he
      exact ⟨e', List.mem_cons_of_mem _ hm, h'⟩

/-- Records that keep their pass numbers keep the table's form. -/
theorem form (h : EachRecord R t t') (hR : ∀ r r', R r r' → r'.pass = r.pass) (ht : TableForm t) : TableForm t' := by
  have hslots : t'.map (·.1) = t.map (·.1) := by
    unfold EachRecord at h
    induction h with
    | nil => rfl
    | cons hx _ ih => simp [hx.1, ih ⟨(List.pairwise_cons.mp ht.1).2, fun e he => ht.2.1 e (List.mem_cons_of_mem _ he),
        (List.nodup_cons.mp ht.2.2).2⟩]
  have hpasses : t'.map (·.2.pass) = t.map (·.2.pass) := by
    clear hslots ht
    unfold EachRecord at h
    induction h with
    | nil => rfl
    | cons hx _ ih => simp [hR _ _ hx.2, ih]
  refine ⟨hslots ▸ ht.1, fun e' he' => ?_, hpasses ▸ ht.2.2⟩
  obtain ⟨e, he, h1, h2⟩ := h.mem_right he'
  rw [h1, hR _ _ h2]
  exact ht.2.1 e he

end EachRecord

/-- In a table of its form the entry of a pass is the one that a lookup finds. -/
theorem eq_of_isRecordOf {t : PassTable} (ht : TableForm t) {p : PassNo} {k : Nat} {r : PassRecord}
    (h : findPass t p = some (k, r)) {e : Nat × PassRecord} (he : e ∈ t) (hp : isRecordOf p e = true) : e = (k, r) := by
  obtain ⟨hm, _, hpass⟩ := findPass_spec h
  exact List.inj_on_of_nodup_map ht.2.2 he hm (((isRecordOf_iff p e).mp hp).2.trans hpass.symm)

/-! ## What every change of a record keeps (R2, R14) -/

/-- The pass stays, days used stay within their bound, days used and the last use day do not decrease, and REFUNDED
stays. -/
structure UsageKept (r r' : PassRecord) : Prop where
  pass : r'.pass = r.pass
  bound : UsageBound r → UsageBound r' ∧ r.used ≤ r'.used
  lastUse : ∀ d, r.lastUse = some d → ∃ d', r'.lastUse = some d' ∧ d ≤ d'
  refunded : r.state = .refunded → r'.state = .refunded

theorem UsageKept.refl (r : PassRecord) : UsageKept r r :=
  ⟨rfl, fun h => ⟨h, le_refl _⟩, fun d h => ⟨d, h, le_refl _⟩, id⟩

theorem UsageKept.trans {r r' r'' : PassRecord} (h : UsageKept r r') (h' : UsageKept r' r'') : UsageKept r r'' where
  pass := h'.pass.trans h.pass
  bound hb := ⟨(h'.bound (h.bound hb).1).1, (h.bound hb).2.trans (h'.bound (h.bound hb).1).2⟩
  lastUse d hd := by
    obtain ⟨d', hd', hle⟩ := h.lastUse d hd
    obtain ⟨d'', hd'', hle'⟩ := h'.lastUse d' hd'
    exact ⟨d'', hd'', hle.trans hle'⟩
  refunded hr := h'.refunded (h.refunded hr)

/-- A change that leaves the pass, the ticket group and the usage. -/
theorem UsageKept.of_usage {r r' : PassRecord} (hp : r'.pass = r.pass) (ht : r'.ticket = r.ticket)
    (hu : r'.used = r.used) (hl : r'.lastUse = r.lastUse) (hr : r.state = .refunded → r'.state = .refunded) :
    UsageKept r r' where
  pass := hp
  bound h := by
    unfold UsageBound at *
    rw [ht, hu]
    exact ⟨h, le_refl _⟩
  lastUse d hd := ⟨d, hl.trans hd, le_refl _⟩
  refunded := hr

theorem laterDay_ge_left {a b : Option Nat} {d : Nat} (h : a = some d) : ∃ d', laterDay a b = some d' ∧ d ≤ d' := by
  subst h
  cases b with
  | none => exact ⟨d, rfl, le_refl _⟩
  | some e => exact ⟨max d e, rfl, le_max_left _ _⟩

/-- Days used of a consumption stay within their bound (R18). -/
theorem consume_usageKept (today : Nat) (r : PassRecord) : UsageKept r (consume today r) where
  pass := rfl
  bound h := by
    unfold UsageBound consume at *
    cases ht : r.ticket with
    | none => simpa [ht] using h
    | some k =>
      simp only [ht] at h ⊢
      split <;> omega
  lastUse _ hd := laterDay_ge_left hd
  refunded h := h

/-- The merge write raises the record within the days bought in force (R2, R17). -/
theorem mergeWrite_usageKept (c : Card) (r : PassRecord) : UsageKept r (mergeWrite c r) where
  pass := rfl
  bound h := by
    unfold UsageBound mergeWrite at *
    cases ht : r.ticket <;> simp only [ht, Option.getD_none, Option.getD_some] at h ⊢ <;> split <;> omega
  lastUse d hd := by
    simp only [mergeWrite]
    split
    · exact laterDay_ge_left hd
    · exact ⟨d, hd, le_refl _⟩
  refunded h := by simp [mergeWrite, h, forceRefunded]

/-! ## The writes of a lane -/

/-- A write that keeps usage and leaves the record's state. -/
structure StateKept (r r' : PassRecord) : Prop extends UsageKept r r' where
  state : r'.state = r.state

theorem StateKept.refl (r : PassRecord) : StateKept r r := ⟨.refl r, rfl⟩

theorem StateKept.trans {r r' r'' : PassRecord} (h : StateKept r r') (h' : StateKept r' r'') : StateKept r r'' :=
  ⟨h.toUsageKept.trans h'.toUsageKept, h'.state.trans h.state⟩

/-- A change that leaves the pass, the ticket group, the usage and the state. -/
theorem StateKept.of_usage {r r' : PassRecord} (hp : r'.pass = r.pass) (ht : r'.ticket = r.ticket)
    (hu : r'.used = r.used) (hl : r'.lastUse = r.lastUse) (hs : r'.state = r.state) : StateKept r r' :=
  ⟨.of_usage hp ht hu hl fun h => hs.trans h, hs⟩

/-- A write of lane `n`'s release: no LIVE pin changes but `n`'s pin of the pass `o`, which may end. -/
structure LaneWrite (n : Lane) (o : Option PassNo) (r r' : PassRecord) : Prop extends StateKept r r' where
  live : r'.live = r.live ∨ (o = some r.pass ∧ r.live = some n ∧ r'.live = none)

theorem LaneWrite.refl (n : Lane) (o : Option PassNo) (r : PassRecord) : LaneWrite n o r r := ⟨.refl r, .inl rfl⟩

theorem LaneWrite.trans {n : Lane} {o : Option PassNo} {r r' r'' : PassRecord} (h : LaneWrite n none r r')
    (h' : LaneWrite n o r' r'') : LaneWrite n o r r'' := by
  have hlive : r'.live = r.live := by simpa using h.live
  refine ⟨h.toStateKept.trans h'.toStateKept, ?_⟩
  rw [← hlive, ← h.pass]
  exact h'.live

theorem consume_laneWrite (n : Lane) (today : Nat) (r : PassRecord) : LaneWrite n none r (consume today r) :=
  ⟨⟨consume_usageKept today r, rfl⟩, .inl rfl⟩

theorem passageWrite_laneWrite (now today : Nat) (n m : Lane) (r : PassRecord) :
    LaneWrite n none r (passageWrite now today m r) :=
  ⟨.of_usage rfl rfl rfl rfl rfl, .inl rfl⟩

/-! ## The table through a lane's release -/

/-- A change of the record of one pass, by what it does to records with that number. -/
theorem State.updateRecord_records {R : PassRecord → PassRecord → Prop} (hr : ∀ r, R r r) (s : State) {p : PassNo}
    {f : PassRecord → PassRecord} (hf : ∀ r, r.pass = p → R r (f r)) :
    EachRecord R s.table (s.updateRecord p f).table :=
  EachRecord.update hr fun e _ he => hf e.2 ((isRecordOf_iff p e).mp he).2

theorem State.endContext_table_of_pass {s : State} {n : Lane} {p : PassNo} (h : s.ctxPass n = some p) :
    (s.endContext n).table =
      Machine.updateRecord s.table p fun r => if r.live = some n then { r with live := none } else r := by
  simp only [State.endContext, h]
  rfl

theorem State.endContext_table_of_none {s : State} {n : Lane} (h : s.ctxPass n = none) :
    (s.endContext n).table = s.table := by
  simp only [State.endContext, h]
  rfl

/-- The end of a context ends its LIVE pin and no other (R12, R87). -/
theorem State.endContext_records (s : State) (n : Lane) :
    EachRecord (LaneWrite n (s.ctxPass n)) s.table (s.endContext n).table := by
  cases hp : s.ctxPass n with
  | none =>
    rw [State.endContext_table_of_none hp]
    exact EachRecord.refl (LaneWrite.refl n none) _
  | some p =>
    rw [State.endContext_table_of_pass hp]
    refine EachRecord.update (LaneWrite.refl n _) fun e _ he => ?_
    split
    · next hlive =>
      exact ⟨.of_usage rfl rfl rfl rfl rfl, .inr ⟨by rw [((isRecordOf_iff p e).mp he).2], hlive, rfl⟩⟩
    · exact LaneWrite.refl n _ e.2

/-- After the end of a context no record of its pass carries the lane's pin. -/
theorem State.endContext_unpinned (s : State) (n : Lane) {p : PassNo} (ht : TableForm s.table)
    (hp : s.ctxPass n = some p) {e : Nat × PassRecord} (he : e ∈ (s.endContext n).table) (hpass : e.2.pass = p) :
    e.2.live ≠ some n := by
  rw [State.endContext_table_of_pass hp] at he
  obtain ⟨x, hx, rfl⟩ := mem_updateRecord.mp he
  have hrec : isRecordOf p x = true := by
    have hxp : x.2.pass = p := by
      by_cases h : isRecordOf p x = true
      · exact ((isRecordOf_iff p x).mp h).2
      · simpa [h] using hpass
    exact (isRecordOf_iff p x).mpr ⟨hxp ▸ (ht.2.1 x hx).2.1, hxp⟩
  simp only [hrec, if_true]
  split
  · simp
  · next h => exact h

theorem State.grantActions_records (s : State) (n : Lane) (p : PassNo) (d : NoteData) :
    EachRecord (LaneWrite n none) s.table (s.grantActions n p d).table := by
  have same := EachRecord.refl (LaneWrite.refl n none) s.table
  unfold State.grantActions
  split
  · exact same
  · split
    · have hconsumed : EachRecord (LaneWrite n none) s.table (s.updateRecord p (consume s.time.lastDay)).table :=
        s.updateRecord_records (LaneWrite.refl n none) fun r _ => consume_laneWrite n _ r
      dsimp only
      split <;> simpa using hconsumed
    · split
      · split <;> simpa using same
      · exact same

theorem State.grant_records (s : State) (n : Lane) : EachRecord (LaneWrite n none) s.table (s.grant n).table := by
  unfold State.grant
  dsimp only
  split
  · next p d _ _ =>
    simpa using (((s.withLoad fun l => { l with live := l.live + 1 }).grantLane n).grantActions_records n p d)
  · simpa using EachRecord.refl (LaneWrite.refl n none) s.table

theorem State.grantHead_records (s : State) (n : Lane) :
    EachRecord (LaneWrite n none) s.table (s.grantHead n).table := by
  unfold State.grantHead
  simpa using (s.withLoad fun l => { l with queue := l.queue.tail }).grant_records n

theorem State.requestRelease_records (s : State) (n : Lane) (p : PassNo) (cls : Nat) :
    EachRecord (LaneWrite n none) s.table (s.requestRelease n p cls).table := by
  unfold State.requestRelease
  split
  · exact s.grant_records n
  · simpa using EachRecord.refl (LaneWrite.refl n none) s.table

theorem State.dropEntry_records (s : State) (n : Lane) (r : WithdrawReason) :
    EachRecord (LaneWrite n (s.ctxPass n)) s.table (s.dropEntry n r).table := by
  unfold State.dropEntry
  simpa using (s.withLoad fun l =>
    { l with queue := l.queue.filter fun e => e.lane != n
             handed := l.handed.filter fun h => h.lane != n }).endContext_records n

/-- The passage write of a completed grant, before its context ends. -/
def State.passageWritten (s : State) (n : Lane) : State :=
  match s.ctxPass n with
  | some p => if s.noteUnlearned n then s else s.updateRecord p (passageWrite s.time.runSec s.time.lastDay n)
  | none => s

theorem State.passageWritten_records (s : State) (n : Lane) :
    EachRecord (LaneWrite n none) s.table (s.passageWritten n).table := by
  unfold State.passageWritten
  split
  · split
    · exact EachRecord.refl (LaneWrite.refl n none) _
    · exact s.updateRecord_records (LaneWrite.refl n none) fun r _ => passageWrite_laneWrite _ _ n n r
  · exact EachRecord.refl (LaneWrite.refl n none) _

/-- Before its context ends, a completed grant writes its passage and takes one from the live-grant count. -/
theorem State.completeGrant_eq (s : State) (n : Lane) :
    ∃ t : State, s.completeGrant n = t.endContext n ∧
      t.books = ((s.passageWritten n).withLoad fun l => { l with live := l.live - 1 }).books :=
  ⟨_, rfl, by
    rw [State.putReport_books, State.countPassage_books, State.occupancyUp_books]
    rfl⟩

theorem State.ctxPass_eq_of_books {s t : State} (h : t.books = s.books) (n : Lane) : t.ctxPass n = s.ctxPass n := by
  rw [← State.seat_pass, ← State.seat_pass, ← State.books_seat, ← State.books_seat, h]

theorem State.table_eq_of_books {s t : State} (h : t.books = s.books) : t.table = s.table :=
  congrArg Books.table h

theorem State.passageWritten_ctxPass (s : State) (n m : Lane) : (s.passageWritten n).ctxPass m = s.ctxPass m := by
  unfold State.passageWritten
  split
  · split <;> rfl
  · rfl

theorem State.completeGrant_records (s : State) (n : Lane) :
    EachRecord (LaneWrite n (s.ctxPass n)) s.table (s.completeGrant n).table := by
  obtain ⟨t, ht, hb⟩ := s.completeGrant_eq n
  have hpass : t.ctxPass n = s.ctxPass n :=
    (State.ctxPass_eq_of_books hb n).trans (s.passageWritten_ctxPass n n)
  have hend := t.endContext_records n
  rw [hpass, State.table_eq_of_books hb] at hend
  rw [ht]
  exact EachRecord.trans (T := LaneWrite n _) (fun _ _ _ h h' => h.trans h') (s.passageWritten_records n) hend

theorem State.manualGrant_records (s : State) (n : Lane) :
    EachRecord (LaneWrite n none) s.table (s.manualGrant n).table := by
  unfold State.manualGrant
  simpa using State.requestRelease_records (s.beginContext n _ { cls := 0, data := none }) n 0 0

end Sys2Proof.Machine

/-! # What the refund engine does to records, and what a card answer does to the table

`State.RefundMoves` holds of a state and what the refund engine makes of it: lanes and queue stay, the context keeps its pass
or drops it, and a record's state changes only to a standing, or because the context names its pass. `CardTable` holds of
the table before and after the table has taken a card answer. -/

namespace Sys2Proof.Machine

/-! ## The refund engine's writes -/

/-- A write of the refund engine whose context names the pass `o`. -/
structure RefundWrite (o : Option PassNo) (r r' : PassRecord) : Prop extends UsageKept r r' where
  live : r'.live = r.live
  state : r'.state = r.state ∨ (r'.state = .active ∨ r'.state = .blocked) ∨ o = some r.pass

theorem RefundWrite.refl (o : Option PassNo) (r : PassRecord) : RefundWrite o r r := ⟨.refl r, rfl, .inl rfl⟩

/-- A later write, whose context names the same pass or none. -/
theorem RefundWrite.trans {o o' : Option PassNo} (ho : o' = none ∨ o' = o) {r r' r'' : PassRecord}
    (h : RefundWrite o r r') (h' : RefundWrite o' r' r'') : RefundWrite o r r'' := by
  refine ⟨h.toUsageKept.trans h'.toUsageKept, h'.live.trans h.live, ?_⟩
  rcases h'.state with hs | hs | hs
  · rw [hs]
    exact h.state
  · exact .inr (.inl hs)
  · rcases ho with rfl | rfl
    · cases hs
    · exact .inr (.inr (by rw [hs, h.pass]))

structure State.RefundMoves (s t : State) : Prop where
  lanes : t.lanes = s.lanes
  load : t.load = s.load
  ctx : t.refund.ctx.pass = none ∨ t.refund.ctx.pass = s.refund.ctx.pass
  records : EachRecord (RefundWrite s.refund.ctx.pass) s.table t.table

namespace State.RefundMoves

variable {s t u : State}

theorem of_table (hn : t.lanes = s.lanes) (hl : t.load = s.load)
    (hc : t.refund.ctx.pass = none ∨ t.refund.ctx.pass = s.refund.ctx.pass) (ht : t.table = s.table) :
    s.RefundMoves t :=
  ⟨hn, hl, hc, ht ▸ EachRecord.refl (RefundWrite.refl _) _⟩

theorem refl (s : State) : s.RefundMoves s := of_table rfl rfl (.inr rfl) rfl

theorem trans (h : s.RefundMoves t) (h' : t.RefundMoves u) : s.RefundMoves u where
  lanes := h'.lanes.trans h.lanes
  load := h'.load.trans h.load
  ctx := by
    rcases h'.ctx with hc | hc
    · exact .inl hc
    · rw [hc]
      exact h.ctx
  records := EachRecord.trans (fun _ _ _ hr hr' => hr.trans h.ctx hr') h.records h'.records

theorem refuseQuote (h : s.RefundMoves t) (res : Result) (body : Body) : s.RefundMoves (t.refuseQuote res body) :=
  h.trans (of_table (by simp) (by simp) (.inl (by simp [State.refuseQuote, State.withCtx, RefundCtx.pass])) (by simp))

theorem completeLong (h : s.RefundMoves t) (res : Result) (body : Body) : s.RefundMoves (t.completeLong res body) :=
  h.trans (of_table (by simp) (by simp) (.inr (by simp)) (by simp))

end State.RefundMoves

theorem releaseState_cases (x : RecState) :
    releaseState x = x ∨ (releaseState x = .active ∨ releaseState x = .blocked) := by
  cases x with
  | active => exact .inl rfl
  | blocked => exact .inl rfl
  | refunded => exact .inl rfl
  | held p => cases p <;> simp [releaseState, Standing.toState]

theorem State.endHold_moves (s : State) (q : StandingQuote) (e : QuoteEnd) : s.RefundMoves (s.endHold q e) := by
  refine ⟨by simp, by simp, .inl rfl, ?_⟩
  simp only [State.endHold, State.endQuote_frame]
  refine s.updateRecord_records (RefundWrite.refl _) fun x _ => ?_
  refine ⟨.of_usage rfl rfl rfl rfl fun h => by simp [h, releaseState], rfl, ?_⟩
  exact (releaseState_cases x.state).imp_right .inl

theorem State.expireHold_moves (s : State) (q : StandingQuote) : s.RefundMoves (s.expireHold q) :=
  (s.endHold_moves q .expired).trans (.of_table rfl rfl (.inr rfl) rfl)

theorem State.openQuote_moves {s : State} {rd : Reading} (h : s.refund.ctx.pass = some rd.pass) (q : Quote) :
    s.RefundMoves (s.openQuote rd q) := by
  refine ⟨by simp, by simp, ?_, ?_⟩
  · right
    rw [h]
    simp [State.openQuote, RefundCtx.pass]
  · unfold State.openQuote
    simp only [State.completeLong_frame, State.withRefund_table]
    refine s.updateRecord_records (RefundWrite.refl _) fun x hx => ?_
    exact ⟨.of_usage rfl rfl rfl rfl fun hr => by simp [hr, holdState], rfl, .inr (.inr (by rw [h, hx]))⟩

theorem State.placeHold_moves {s : State} {rd : Reading} (h : s.refund.ctx.pass = some rd.pass) (q : Quote) :
    s.RefundMoves (s.placeHold rd q) := by
  unfold State.placeHold
  split
  · exact (State.RefundMoves.refl s).refuseQuote _ _
  · split
    · exact (State.RefundMoves.refl s).refuseQuote _ _
    · exact State.openQuote_moves h q

theorem State.settleWriteBack_moves (s : State) (ok : Bool) : s.RefundMoves (s.settleWriteBack ok) := by
  unfold State.settleWriteBack
  split
  · next r hctx =>
    split
    · have hpass : s.refund.ctx.pass = some r.pass := by rw [hctx, RefundCtx.pass]
      split
      · exact State.placeHold_moves (rd := { r with seq := addWrap 256 r.seq }) hpass _
      · exact State.placeHold_moves hpass _
    · exact .refl s
  all_goals exact .refl s

theorem State.commitConfirmed_moves {s : State} {q : StandingQuote} (h : s.refund.ctx.pass = some q.pass) (seq : Nat) :
    s.RefundMoves (s.commitConfirmed q seq).1 := by
  refine ⟨by simp, by simp, .inl (by simp [State.commitConfirmed, State.endQuote, RefundCtx.pass]), ?_⟩
  unfold State.commitConfirmed
  dsimp only
  simp only [State.raiseStation_frame, State.countLift_frame, State.endQuote_frame]
  refine State.updateRecord_records (RefundWrite.refl _) (s.withRefund _) fun x hx => ?_
  exact ⟨.of_usage rfl rfl rfl rfl fun _ => rfl, rfl, .inr (.inr (by rw [h, hx]))⟩

theorem State.commitFailed_moves {s : State} {q : StandingQuote} (h : s.refund.ctx.pass = some q.pass)
    (echoed : Option PassNo) : s.RefundMoves (s.commitFailed q echoed).1 := by
  have hquoted : s.RefundMoves (s.withRefund fun r =>
      { r with journal := r.journal.dropLast, nextSeq := (r.nextSeq + 65535) % 65536, ctx := .quoted q }) :=
    .of_table rfl rfl (.inr h.symm) rfl
  unfold State.commitFailed
  dsimp only
  split
  · exact hquoted.trans (State.expireHold_moves _ q)
  · exact hquoted

theorem State.settleCommit_moves (s : State) (ok : Bool) (echoed : Option PassNo) :
    s.RefundMoves (s.settleCommit ok echoed).1 := by
  unfold State.settleCommit
  split
  · next q seq hctx =>
    have hpass : s.refund.ctx.pass = some q.pass := by rw [hctx, RefundCtx.pass]
    cases ok with
    | true => exact State.commitConfirmed_moves hpass seq
    | false => exact State.commitFailed_moves hpass echoed
  all_goals exact .refl s

theorem State.settleCommitLong_moves (s : State) (ok : Bool) (echoed : Option PassNo) :
    s.RefundMoves (s.settleCommitLong ok echoed) := by
  have hsettled := s.settleCommit_moves ok echoed
  unfold State.settleCommitLong
  split
  · next s' res body h =>
    rw [h] at hsettled
    exact hsettled.completeLong res body
  · next s' h =>
    rw [h] at hsettled
    exact hsettled

theorem State.settleService_moves (s : State) (r : StampReq) (ok : Bool) : s.RefundMoves (s.settleService r ok) := by
  unfold State.settleService
  split
  · exact s.settleCommitLong_moves ok _
  · exact s.settleWriteBack_moves ok
  · exact .refl s

theorem State.withReader_moves (s : State) (f : Reader → Reader) : s.RefundMoves (s.withReader f) :=
  .of_table rfl rfl (.inr rfl) rfl

theorem State.endPendingWork_moves (s : State) : s.RefundMoves (s.endPendingWork .ps) := by
  have hfree := s.withReader_moves fun d => { d with slot := none }
  unfold State.endPendingWork
  dsimp only
  split
  · exact hfree.refuseQuote _ _
  · exact hfree.trans (State.settleService_moves _ _ _)
  · exact hfree

theorem State.serviceReadMissed_moves (s : State) : s.RefundMoves s.serviceReadMissed := by
  unfold State.serviceReadMissed
  split
  · split
    · exact (s.withReader_moves _).refuseQuote _ _
    · exact s.withReader_moves _
  all_goals exact .refl s

theorem State.clearBehind_moves (s : State) (q : StampReq) : s.RefundMoves (s.clearBehind q) := by
  refine ⟨by simp, by simp, .inr (by simp), ?_⟩
  refine s.updateRecord_records (RefundWrite.refl _) fun x _ => ?_
  split
  · exact ⟨.of_usage rfl rfl rfl rfl id, rfl, .inl rfl⟩
  · exact RefundWrite.refl _ _

theorem State.settleServiceStamp_moves (s : State) (o : VisitOutcome) (frame : List Byte) :
    s.RefundMoves (s.settleServiceStamp o frame) := by
  have hfree := s.withReader_moves fun d => { d with slot := none }
  unfold State.settleServiceStamp
  split
  · dsimp only
    split
    · exact (hfree.trans (State.clearBehind_moves _ _)).trans (State.settleService_moves _ _ _)
    · split
      · exact s.withReader_moves _
      · exact hfree.trans (State.settleService_moves _ _ _)
  all_goals exact .refl s

theorem refundQuoteBlock_moves (s : State) : s.RefundMoves (refundQuoteBlock s).state := by
  unfold refundQuoteBlock
  split
  · exact .refl s
  · next hidle =>
    (repeat' split) <;> try exact .refl s
    exact .of_table (by simp) (by simp) (.inl (by simp [State.withCtx, RefundCtx.pass])) (by simp)

theorem refundCommitBlock_moves (k : Nat) (s : State) : s.RefundMoves (refundCommitBlock k s).state := by
  unfold refundCommitBlock
  split
  · next q hctx =>
    have hbegun : s.RefundMoves (s.beginCommit q) :=
      .of_table (by simp) (by simp) (.inr (by simp [State.beginCommit, hctx, RefundCtx.pass])) (by simp)
    (repeat' split) <;> try exact .refl s
    unfold State.commitStamp
    split
    · exact hbegun.trans (State.settleCommit_moves _ false none)
    · split
      · exact hbegun.trans (.of_table (by simp) (by simp) (.inr (by simp)) (by simp))
      · exact hbegun
  all_goals exact .refl s

theorem journalRemoveBlock_moves (k : Nat) (s : State) : s.RefundMoves (journalRemoveBlock k s).state := by
  unfold journalRemoveBlock
  (repeat' split) <;> exact .of_table rfl rfl (.inr rfl) rfl

theorem State.requestWriteBackStamp_moves (s : State) (r : StampReq) : s.RefundMoves (s.requestWriteBackStamp r) := by
  unfold State.requestWriteBackStamp
  split
  · exact s.settleWriteBack_moves false
  · exact s.withReader_moves _

theorem State.quoteRecord_moves {s : State} {rd : Reading} (h : s.refund.ctx.pass = some rd.pass) (c : Card)
    (b : Basis) (r : PassRecord) (t : Tariff) : s.RefundMoves (s.quoteRecord rd c b r t) := by
  unfold State.quoteRecord
  dsimp only
  split
  · refine State.RefundMoves.trans ?_ (State.requestWriteBackStamp_moves _ _)
    exact .of_table rfl rfl (.inr h.symm) rfl
  · exact State.placeHold_moves h _

/-! ## A card answer at the pass table -/

/-- What a card answer does to a record: usage and LIVE pin are kept, HELD stays as it is, only the card's own pass is
written, and its state changes only where no context holds the pass (`free`). -/
structure CardWrite (p : PassNo) (free : Prop) (r r' : PassRecord) : Prop extends UsageKept r r' where
  live : r'.live = r.live
  held : recHeld r'.state = recHeld r.state
  state : r'.state = r.state ∨ (r.pass = p ∧ free)

theorem CardWrite.refl (p : PassNo) (free : Prop) (r : PassRecord) : CardWrite p free r r :=
  ⟨.refl r, rfl, rfl, .inl rfl⟩

theorem CardWrite.trans {p : PassNo} {free : Prop} {r r' r'' : PassRecord} (h : CardWrite p free r r')
    (h' : CardWrite p free r' r'') : CardWrite p free r r'' := by
  refine ⟨h.toUsageKept.trans h'.toUsageKept, h'.live.trans h.live, h'.held.trans h.held, ?_⟩
  rcases h'.state with hs | hs
  · rw [hs]
    exact h.state
  · exact .inr ⟨h.pass ▸ hs.1, hs.2⟩

theorem seen_cardWrite (p : PassNo) (free : Prop) (now : Nat) (r : PassRecord) :
    CardWrite p free r { r with lastSeen := now } :=
  ⟨.of_usage rfl rfl rfl rfl id, rfl, rfl, .inl rfl⟩

theorem recHeld_forceRefunded (mark : Bool) (x : RecState) : recHeld (forceRefunded mark x) = recHeld x := by
  cases x <;> cases mark <;> rfl

theorem mergeWrite_cardWrite (c : Card) {free : Prop} (hfree : free) {r : PassRecord} (hr : r.pass = c.pass) :
    CardWrite c.pass free r (mergeWrite c r) :=
  ⟨mergeWrite_usageKept c r, rfl, recHeld_forceRefunded _ _, .inr ⟨hr, hfree⟩⟩

/-- The table after it has taken a card answer: its records written, after a new LEARNED record of an absent pass or
without one (R7, R16, R17). -/
inductive CardTable (p : PassNo) (free : Prop) (t : PassTable) : PassTable → Prop where
  | found {t' : PassTable} : EachRecord (CardWrite p free) t t' → CardTable p free t t'
  | learned {t' : PassTable} {k now : Nat} {q : PassNo} : p ≠ 0 → free → findPass t p = none →
      placeFor t p = some (k, q) →
      EachRecord (CardWrite p free) (putSlot t k (newRecord p .learned .active none now)) t' → CardTable p free t t'

namespace CardTable

variable {p : PassNo} {free : Prop} {t t' t'' : PassTable}

theorem refl : CardTable p free t t := .found (EachRecord.refl (CardWrite.refl p free) t)

theorem write (h : CardTable p free t t') (h' : EachRecord (CardWrite p free) t' t'') : CardTable p free t t'' := by
  cases h with
  | found ht => exact .found (EachRecord.trans (fun _ _ _ hr hr' => hr.trans hr') ht h')
  | learned h0 hfree hnone hplace ht =>
    exact .learned h0 hfree hnone hplace (EachRecord.trans (fun _ _ _ hr hr' => hr.trans hr') ht h')

end CardTable

theorem State.record_eq_none {s : State} {p : PassNo} : s.record p = none ↔ findPass s.table p = none := by
  simp [State.record, findRecord]

theorem State.learn_table {s : State} {p : PassNo} {free : Prop} (hfree : free) (h0 : p ≠ 0) (hn : s.record p = none)
    (pos : Position) : CardTable p free s.table (s.learn pos p).table := by
  unfold State.learn
  split
  · split
    · next k q hplace =>
      exact .learned h0 hfree (State.record_eq_none.mp hn) hplace (EachRecord.refl (CardWrite.refl p free) _)
    · simpa using CardTable.refl
  · exact .refl

theorem State.mergeCard_records (s : State) {c : Card} {free : Prop} (hfree : free) (r : PassRecord) :
    EachRecord (CardWrite c.pass free) s.table (s.mergeCard c r).1.table :=
  s.updateRecord_records (CardWrite.refl _ _) fun _ hx => mergeWrite_cardWrite c hfree hx

theorem State.seeRecord_records (s : State) (p : PassNo) (free : Prop) :
    EachRecord (CardWrite p free) s.table (s.seeRecord p).table :=
  s.updateRecord_records (CardWrite.refl _ _) fun x _ => seen_cardWrite p free _ x

theorem State.mergeCard_record {s : State} {c : Card} {r : PassRecord} (h : s.record c.pass = some r) :
    (s.mergeCard c r).1.record c.pass = some (mergeWrite c r) := by
  simp only [State.mergeCard]
  rw [State.record_updateRecord_same s c.pass (mergeWrite c) fun _ => rfl, h]
  rfl

/-- What a card answer at a lane does to the table (R65, R66). -/
theorem State.reachTable_table (s : State) (n : Lane) {c : Card} (h0 : c.pass ≠ 0) :
    CardTable c.pass (s.heldElsewhere n c.pass = false) s.table (s.reachTable n c).1.table := by
  have hseen := CardTable.found (s.seeRecord_records c.pass (s.heldElsewhere n c.pass = false))
  unfold State.reachTable
  split
  · dsimp only
    split <;> exact hseen
  · next helse =>
    have hfree : s.heldElsewhere n c.pass = false := Bool.eq_false_iff.mpr helse
    split
    · dsimp only
      split
      · exact hseen.write (State.mergeCard_records _ hfree _)
      · exact hseen
    · next hn =>
      have hlearned := State.learn_table hfree h0 hn (.lane n)
      dsimp only
      split
      · exact hlearned.write (State.mergeCard_records _ hfree _)
      · exact hlearned

/-- The record that an evaluation rests on is the table's, as the action leaves it (R66). -/
theorem State.reachTable_record (s : State) (n : Lane) (c : Card) :
    (s.reachTable n c).2.record = (s.reachTable n c).1.record c.pass := by
  have hbasis : ∀ (t : State) (r : PassRecord), t.record c.pass = some r → (recordBasis c r).record = some r := by
    intro t r _
    unfold recordBasis
    split <;> rfl
  unfold State.reachTable
  split
  · dsimp only
    split
    · next r hr => rw [hbasis _ r hr, hr]
    · next hr => exact hr.symm
  · split
    · dsimp only
      split
      · next r hr => exact (State.mergeCard_record hr).symm
      · next hr => exact hr.symm
    · dsimp only
      split
      · next r hr => exact (State.mergeCard_record hr).symm
      · next hr => exact hr.symm

end Sys2Proof.Machine

namespace Sys2Proof.Machine

/-! ## A card answer at a lane, by what it changes (R63 to R70) -/

/-- A context of a pass begins at a lane: its record is pinned, and its release is asked for (R68, R12, R111). -/
def State.seatPass (s : State) (n : Lane) (c : Context) (note : Note) (p : PassNo) (cls : Nat) : State :=
  ((s.beginContext n c note).updateRecord p fun r => { r with live := some n }).requestRelease n p cls

/-- The judgement of a card leaves the books, or seats its pass after the checks without a rule have passed. -/
theorem State.judge_cases (s : State) (n : Lane) (c : Card) (b : Basis) :
    (s.judge n c b).books = s.books ∨
      (earlyRefusal s n c b = none ∧ ∃ ctx note cls, ctx.pass = some c.pass ∧
        (s.judge n c b).books = (s.seatPass n ctx note c.pass cls).books) := by
  unfold State.judge
  split
  · exact .inl (by simp)
  · next hearly =>
    dsimp only
    split
    · exact .inl (by simp)
    · next rule _ _ =>
      unfold State.admitCard
      dsimp only
      split
      · exact .inr ⟨hearly, _, _, rule.cls, rfl, State.putVerdict_books _ _ _⟩
      · exact .inl (by simp)
    · exact .inl rfl

/-- What the admission of a card does: nothing to the books, or a write of the table, after which its pass may be
seated. -/
theorem State.admission_cases (s : State) (n : Lane) (c : Card) (hc : c.ticketOk = true → c.pass ≠ 0) :
    (s.admission n c).books = s.books ∨
      ∃ t : State, t.books = { s.books with table := t.table } ∧ t.lanes = s.lanes ∧ t.refund = s.refund ∧
        CardTable c.pass (s.heldElsewhere n c.pass = false) s.table t.table ∧
        ((s.admission n c).books = t.books ∨
          ∃ b ctx note cls, b.record = t.record c.pass ∧ earlyRefusal t n c b = none ∧ ctx.pass = some c.pass ∧
            (s.admission n c).books = (t.seatPass n ctx note c.pass cls).books) := by
  unfold State.admission
  split
  · exact .inl (by simp)
  · next hticket =>
    have h0 : c.pass ≠ 0 := hc (by simpa using hticket)
    split
    · exact .inl (by simp)
    · split
      · exact .inl (by simp)
      · refine .inr ⟨(s.reachTable n c).1, ?_, by simp, by simp, s.reachTable_table n h0, ?_⟩
        · simp [State.books, State.lane]
        · rcases State.judge_cases (s.reachTable n c).1 n c (s.reachTable n c).2 with hsame | hseat
          · exact .inl hsame
          · obtain ⟨hearly, ctx, note, cls, hpass, hbooks⟩ := hseat
            exact .inr ⟨_, ctx, note, cls, s.reachTable_record n c, hearly, hpass, hbooks⟩

/-! ## A card answer at the window, by what it changes (R136, R137) -/

/-- The table has taken the answer of a card whose reading is `rd`: the context holds the reading, and lanes, queue,
journal and slot stay. -/
structure State.TakesReading (s : State) (rd : Reading) (t : State) : Prop where
  lanes : t.lanes = s.lanes
  load : t.load = s.load
  reader : t.reader = s.reader
  refund : t.refund = { s.refund with ctx := .reading (some rd) }
  table : CardTable rd.pass (s.holderOf rd.pass = none) s.table t.table

theorem State.TakesReading.see {s t : State} {rd : Reading} (h : s.TakesReading rd t) :
    s.TakesReading rd (t.seeRecord rd.pass) :=
  ⟨by simp [h.lanes], by simp [h.load], by simp [h.reader], by simp [h.refund],
    h.table.write (t.seeRecord_records rd.pass _)⟩

theorem State.TakesReading.merge {s t : State} {rd : Reading} (h : s.TakesReading rd t)
    (hfree : s.holderOf rd.pass = none) {c : Card} (hc : rd.pass = c.pass) (r : PassRecord) :
    s.TakesReading rd (t.mergeCard c r).1 := by
  refine ⟨by simp [h.lanes], by simp [h.load], by simp [h.reader], by simp [h.refund], h.table.write ?_⟩
  rw [hc] at hfree ⊢
  exact t.mergeCard_records hfree r

/-- A card whose pass a lane context holds is refused at the latest with IN_USE (Table 7-4). -/
theorem quoteChecks_of_held {s : State} {c : Card} (h : (s.holderOf c.pass).isSome = true) (day : Nat) (tk : Ticket)
    (r : Option PassRecord) : ∃ res, quoteChecks s day c tk r = .inl res := by
  unfold quoteChecks
  dsimp only
  rw [if_pos h]
  (repeat' split) <;> exact ⟨_, rfl⟩

theorem State.holderOf_eq_of_lanes {s t : State} (h : t.lanes = s.lanes) (p : PassNo) : t.holderOf p = s.holderOf p := by
  simp [State.holderOf, State.laneHolds, State.lane, h]

/-- A look at an absent pass writes nothing (R66). -/
theorem State.seeRecord_table_of_absent {s : State} {p : PassNo} (h : s.record p = none) :
    (s.seeRecord p).table = s.table := by
  have hmiss : ∀ e ∈ s.table, isRecordOf p e ≠ true := by
    simpa [State.record_eq_none, findPass] using h
  refine (List.map_congr_left fun e he => ?_).trans (List.map_id _)
  rw [if_neg (hmiss e he)]
  rfl

/-- How a reading at the window ends: the table takes the answer, and the quote is refused; or no lane context holds the
pass, and its record is quoted. -/
def State.QuoteEnds (s : State) (c : Card) (rd : Reading) (u : State) : Prop :=
  ∃ t : State, s.TakesReading rd t ∧
    ((∃ res body, u = t.refuseQuote res body) ∨
      (s.holderOf rd.pass = none ∧ ∃ b r tf, t.record rd.pass = some r ∧ u = t.quoteRecord rd c b r tf))

namespace State.TakesReading

variable {s t : State} {rd : Reading} {c : Card}

theorem refused (h : s.TakesReading rd t) (res : Result) (body : Body) : s.QuoteEnds c rd (t.refuseQuote res body) :=
  ⟨t, h, .inl ⟨res, body, rfl⟩⟩

theorem quoted (h : s.TakesReading rd t) (hfree : s.holderOf rd.pass = none) {r : PassRecord}
    (hr : t.record rd.pass = some r) (b : Basis) (tf : Tariff) : s.QuoteEnds c rd (t.quoteRecord rd c b r tf) :=
  ⟨t, h, .inr ⟨hfree, b, r, tf, hr, rfl⟩⟩

theorem learn (h : s.TakesReading rd t) (ht : t.table = s.table) (hfree : s.holderOf rd.pass = none)
    (h0 : rd.pass ≠ 0) (hn : t.record rd.pass = none) : s.TakesReading rd (t.learn .ps rd.pass) := by
  refine ⟨by simp [h.lanes], by simp [h.load], by simp [h.reader], by simp [h.refund], ?_⟩
  rw [← ht]
  exact State.learn_table hfree h0 hn .ps

end State.TakesReading

/-- A card of an absent pass is learned, merged and quoted (R66, R136). -/
theorem State.quoteAbsent_ends {s t : State} {c : Card} {rd : Reading} (h : s.TakesReading rd t)
    (hc : rd.pass = c.pass) (ht : t.table = s.table) (hfree : s.holderOf rd.pass = none) (h0 : rd.pass ≠ 0)
    (hn : t.record rd.pass = none) (tf : Tariff) : s.QuoteEnds c rd (t.quoteAbsent rd c tf) := by
  have hlearned := h.learn ht hfree h0 hn
  rw [hc] at hlearned
  unfold State.quoteAbsent
  dsimp only
  split
  · exact hlearned.refused _ _
  · next r hr =>
    have hrec := State.mergeCard_record hr
    rw [hrec]
    exact (hlearned.merge hfree hc r).quoted hfree (hc ▸ hrec) _ _

/-- What a card answer at the window does (R136, R137). -/
theorem State.quoteCard_ends (s : State) (c : Card) (hc : c.ticketOk = true → c.pass ≠ 0) :
    ∃ rd : Reading, rd.pass = c.pass ∧ rd.quote = none ∧ s.QuoteEnds c rd (s.quoteCard c) := by
  refine ⟨{ pass := c.pass, readDay := s.time.lastDay, seq := c.seq, quote := none }, rfl, rfl, ?_⟩
  generalize hrd : ({ pass := c.pass, readDay := s.time.lastDay, seq := c.seq, quote := none } : Reading) = rd
  have hpass : rd.pass = c.pass := by rw [← hrd]
  have hread : s.TakesReading rd (s.withCtx (.reading (some rd))) := ⟨rfl, rfl, rfl, rfl, .refl⟩
  unfold State.quoteCard
  dsimp only
  rw [hrd]
  split
  · exact hread.refused _ _
  next hticket =>
  have h0 : rd.pass ≠ 0 := hpass ▸ hc (by simpa using hticket)
  split
  · exact hread.refused _ _
  have hseen := hread.see
  have habsent : ((s.withCtx (.reading (some rd))).seeRecord rd.pass).record rd.pass = none →
      ((s.withCtx (.reading (some rd))).seeRecord rd.pass).table = s.table := fun hn =>
    State.seeRecord_table_of_absent (s := s.withCtx (.reading (some rd)))
      (by simpa [State.seeRecord, State.record_updateRecord_same] using hn)
  rw [← hpass]
  generalize (s.withCtx (.reading (some rd))).seeRecord rd.pass = t at hseen habsent
  have hholder := State.holderOf_eq_of_lanes hseen.lanes rd.pass
  by_cases hheld : (t.holderOf c.pass).isSome = true
  · split
    · next r hr =>
      obtain ⟨res, hres⟩ := quoteChecks_of_held hheld s.time.lastDay (recordBasis c r).ticket (some r)
      simp only [hpass, hheld, if_true, hpass ▸ hr, hres]
      exact hseen.refused _ _
    · obtain ⟨res, hres⟩ := quoteChecks_of_held hheld s.time.lastDay c.ticket none
      simp only [hpass, hheld, if_true, hres]
      exact hseen.refused _ _
  · have hfree : s.holderOf rd.pass = none := by
      rw [← hholder, hpass]
      simpa using hheld
    simp only [hpass, hheld]
    split
    · next r hr =>
      have hmerged := hseen.merge hfree hpass r
      have hrec := State.mergeCard_record hr
      simp only [Bool.false_eq_true, if_false, hrec]
      split
      · exact hmerged.refused _ _
      · exact hmerged.quoted hfree (hpass ▸ hrec) _ _
    · next hn =>
      rw [← hpass] at hn
      have hlearned := hseen.learn (habsent hn) hfree h0 hn
      rw [hpass] at hlearned
      rw [if_neg Bool.false_ne_true]
      split
      · exact hseen.refused _ _
      · split
        · split
          · exact (hlearned.merge hfree hpass _).refused _ _
          · exact hlearned.refused _ _
        · split
          · exact hseen.refused _ _
          · exact State.quoteAbsent_ends hseen hpass (habsent hn) hfree h0 hn _

end Sys2Proof.Machine

/-! # The orders and starts that make or remove records, by what they do to the books -/

namespace Sys2Proof.Machine

/-! ## Station edits (R21 to R25) -/

/-- What an edit makes of the table: nothing, the edited record of a present pass, or a new record of an absent one. -/
inductive EditTable (s : State) (p : PassNo) (st : Standing) : PassTable → Prop where
  | none : EditTable s p st s.table
  | edited {k : Nat} {r : PassRecord} {x : RecState} : findPass s.table p = some (k, r) → editedState st r.state = some x →
      EditTable s p st (updateRecord s.table p fun r => { r with state := x, origin := .resident })
  | created {k : Nat} {q : PassNo} : p ≠ 0 → findPass s.table p = Option.none → placeFor s.table p = some (k, q) →
      EditTable s p st (putSlot s.table k (newRecord p .resident st (s.holderOf p) s.time.runSec))

theorem editPass_table (p : PassNo) (st : Standing) (create : Bool) (s : State) :
    EditTable s p st (editPass p st create s).state.table ∧
      (editPass p st create s).state.books = { s.books with table := (editPass p st create s).state.table } := by
  unfold editPass
  split
  · exact ⟨.none, rfl⟩
  · next h0 =>
    split
    · next k r hfound =>
      split
      · exact ⟨.none, rfl⟩
      · next x hx =>
        simp only [answerOk, State.table_eq_of_books (State.handBlocked_books _ p st), State.handBlocked_books]
        exact ⟨.edited hfound hx, rfl⟩
    · next hnone =>
      split
      · exact ⟨.none, rfl⟩
      · split
        · exact ⟨.none, rfl⟩
        · next k q hplace =>
          simp only [answerOk, State.table_eq_of_books (State.handBlocked_books _ p st), State.handBlocked_books]
          exact ⟨.created h0 hnone hplace, rfl⟩

/-- PASS ERASE takes an unpinned record out of the table, or nothing (R24). -/
theorem passEraseBlock_books (p : PassNo) (s : State) :
    (passEraseBlock p s).state.books = s.books ∨
      ∃ k r, findPass s.table p = some (k, r) ∧ r.pinned = false ∧
        (passEraseBlock p s).state.books = { s.books with table := s.table.filter fun e => !isRecordOf p e } := by
  unfold passEraseBlock
  split
  · exact .inl rfl
  · split
    · exact .inl rfl
    · next k r hfound =>
      split
      · exact .inl rfl
      · next hpin => exact .inr ⟨k, r, hfound, Bool.eq_false_iff.mpr hpin, rfl⟩

theorem clearLearnedBlock_books (s : State) :
    (clearLearnedBlock s).state.books = { s.books with table := s.table.filter fun e => !e.2.evictable } := rfl

/-! ## Card answers -/

/-- A card answer that a scan delivers leaves the books, or reaches the admission unit from a lane in OPEN and IDLE
(R43). -/
theorem State.scanAnswer_books (s : State) (n : Lane) (c : Card) :
    (s.scanAnswer n c).books = s.books ∨ ((s.lane n).passage = .idle ∧ s.scanAnswer n c = s.admission n c) := by
  unfold State.scanAnswer
  split
  · exact .inl rfl
  · next h =>
    split
    · exact .inl (State.fillQuiet_books _ _ _)
    · refine .inr ⟨?_, rfl⟩
      simp only [Bool.or_eq_true, bne_iff_ne, not_or, not_not] at h
      exact h.2

/-- A card answer at the window frees the service slot and reaches the refund engine, where a service read waits
(R43). -/
theorem State.serviceReadAnswered_cases (s : State) (c : Card) :
    s.serviceReadAnswered c = s ∨
      ((∃ made, s.reader.slot = some (.read made)) ∧
        s.serviceReadAnswered c = (s.withReader fun d => { d with slot := none }).quoteCard c) := by
  unfold State.serviceReadAnswered
  split
  · next made h => exact .inr ⟨⟨made, h⟩, rfl⟩
  all_goals exact .inl rfl

/-! ## Start-ups (R185) -/

/-- The books of a start-up: no riders, no refund in progress, and table and journal as retained (R28, R149, R187). -/
theorem State.startUp_books (s : State) (cause : StartCause) (selected : PerPort Bool) :
    (s.startUp cause selected).books =
      { table := if s.supply.checkValid then s.table.map fun e => (e.1, warmRecord e.2) else []
        live := 0, queue := [], seat := fun _ => { stage := .idle, ctx := none }, slot := none, ctx := .idle
        journal := if s.supply.checkValid then s.refund.journal.map warmEntry else []
        nextSeq := if s.supply.checkValid then s.refund.nextSeq else 0 } := by
  unfold State.startUp
  dsimp only
  rw [State.arbiter_books]
  cases s.supply.checkValid <;>
    simp [State.books, State.lane, State.warmContent, State.coldContent, Loading.start, Reader.start,
      RefundEngine.start, LaneUnit.start, LaneUnit.seat, Passage.stage]

end Sys2Proof.Machine

/-! # O55: the table's form, and usage that never falls -/

namespace Sys2Proof.Machine

/-- What one step may make of a table: its form and the usage bounds stay, and a pass that keeps a record keeps its
usage and its REFUNDED mark (R2, R4, R5, R14). -/
structure TableMoved (t t' : PassTable) : Prop where
  form : TableForm t → TableForm t'
  bound : (∀ e ∈ t, UsageBound e.2) → ∀ e ∈ t', UsageBound e.2
  kept : TableForm t → ∀ e' ∈ t', ∀ e ∈ t, e.2.pass = e'.2.pass → UsageKept e.2 e'.2

theorem eq_of_pass_eq {t : PassTable} (ht : TableForm t) {e e' : Nat × PassRecord} (he : e ∈ t) (he' : e' ∈ t)
    (h : e.2.pass = e'.2.pass) : e = e' :=
  List.inj_on_of_nodup_map ht.2.2 he he' h

theorem mem_of_mem_putSlot {t : PassTable} {k : Nat} {r : PassRecord} {e : Nat × PassRecord} (h : e ∈ putSlot t k r) :
    e = (k, r) ∨ e ∈ t := by
  induction t with
  | nil => exact .inl (by simpa [putSlot] using h)
  | cons x t ih =>
    unfold putSlot at h
    split at h
    · simpa using h
    · split at h
      · rcases List.mem_cons.mp h with h | h
        · exact .inl h
        · exact .inr (List.mem_cons_of_mem _ h)
      · rcases List.mem_cons.mp h with h | h
        · exact .inr (h ▸ List.mem_cons_self)
        · exact (ih h).imp_right (List.mem_cons_of_mem _)

namespace TableMoved

variable {t t' t'' : PassTable}

theorem refl (t : PassTable) : TableMoved t t :=
  ⟨id, id, fun ht _ he' _ he h => eq_of_pass_eq ht he he' h ▸ .refl _⟩

/-- Records that keep their usage move the table on. -/
theorem write (h : TableMoved t t') (h' : EachRecord UsageKept t' t'') : TableMoved t t'' where
  form ht := h'.form (fun _ _ hk => hk.pass) (h.form ht)
  bound hb e'' he'' := by
    obtain ⟨e', he', _, hk⟩ := h'.mem_right he''
    exact (hk.bound (h.bound hb e' he')).1
  kept ht e'' he'' e he hp := by
    obtain ⟨e', he', _, hk⟩ := h'.mem_right he''
    exact (h.kept ht e' he' e he (hp.trans hk.pass)).trans hk

/-- Records that leave (R24, R25). -/
theorem filter (keep : Nat × PassRecord → Bool) : TableMoved t (t.filter keep) where
  form ht := ht.filter keep
  bound hb e he := hb e (List.mem_filter.mp he).1
  kept ht _ he' _ he h := eq_of_pass_eq ht he (List.mem_filter.mp he').1 h ▸ .refl _

/-- A new record of an absent pass (R5, R7, R21). -/
theorem create {p : PassNo} {k : Nat} {q : PassNo} (h0 : p ≠ 0) (hn : findPass t p = none)
    (h : placeFor t p = some (k, q)) (o : Origin) (st : Standing) (live : Option Lane) (now : Nat) :
    TableMoved t (putSlot t k (newRecord p o st live now)) where
  form ht := ht.create h0 hn h _ rfl
  bound hb e he := by
    rcases mem_of_mem_putSlot he with rfl | he
    · rfl
    · exact hb e he
  kept ht e' he' e he hp := by
    rcases mem_of_mem_putSlot he' with rfl | he'
    · exact absurd hp ((findPass_none_of_form ht p).mp hn e he)
    · exact eq_of_pass_eq ht he he' hp ▸ .refl _

theorem cardTable {p : PassNo} {free : Prop} (h : CardTable p free t t') : TableMoved t t' := by
  cases h with
  | found ht => exact (refl t).write (ht.mono fun _ _ hw => hw.toUsageKept)
  | learned h0 _ hn hplace ht => exact (create h0 hn hplace _ _ _ _).write (ht.mono fun _ _ hw => hw.toUsageKept)

/-- An edit changes the state of no REFUNDED record (R21, R22). -/
theorem edit {s : State} {p : PassNo} {st : Standing} (h : EditTable s p st t) : TableMoved s.table t := by
  have hedit : ∀ (x : RecState) (r : PassRecord), r.state ≠ .refunded →
      UsageKept r { r with state := x, origin := .resident } := fun x r hr => .of_usage rfl rfl rfl rfl fun h => absurd h hr
  cases h with
  | none => exact refl _
  | @edited k r x hfound hx =>
    have hr : r.state ≠ .refunded := by
      rintro h
      rw [h] at hx
      cases hx
    refine ⟨fun ht => ht.updateRecord p _ fun _ => rfl, fun hb e' he' => ?_, fun ht e' he' e he hp => ?_⟩
    · obtain ⟨e, he, rfl⟩ := mem_updateRecord.mp he'
      split
      · exact hb e he
      · exact hb e he
    · obtain ⟨e₀, he₀, rfl⟩ := mem_updateRecord.mp he'
      split at hp
      · next hrec =>
        obtain rfl : e = e₀ := eq_of_pass_eq ht he he₀ hp
        rw [if_pos hrec]
        exact hedit x e.2 (eq_of_isRecordOf ht hfound he hrec ▸ hr)
      · next hrec =>
        obtain rfl : e = e₀ := eq_of_pass_eq ht he he₀ hp
        rw [if_neg hrec]
        exact .refl _
  | created h0 hn hplace => exact create h0 hn hplace _ _ _ _

end TableMoved

theorem State.quoteEnds_moved {s t : State} {c : Card} {rd : Reading} (h : s.QuoteEnds c rd t) :
    TableMoved s.table t.table := by
  obtain ⟨u, hu, ⟨res, body, rfl⟩ | ⟨_, b, r, tf, _, rfl⟩⟩ := h
  · simpa [State.refuseQuote] using TableMoved.cardTable hu.table
  · have hctx : u.refund.ctx.pass = some rd.pass := by rw [hu.refund, RefundCtx.pass]
    exact (TableMoved.cardTable hu.table).write
      ((State.quoteRecord_moves hctx c b r tf).records.mono fun _ _ hw => hw.toUsageKept)

theorem warmRecord_usageKept (r : PassRecord) : UsageKept r (warmRecord r) :=
  .of_usage rfl rfl rfl rfl fun h => by simp [warmRecord, h, releaseState]

theorem State.seatPass_records (s : State) (n : Lane) (c : Context) (note : Note) (p : PassNo) (cls : Nat) :
    EachRecord UsageKept s.table (s.seatPass n c note p cls).table := by
  have hpin : EachRecord UsageKept s.table
      ((s.beginContext n c note).updateRecord p fun r => { r with live := some n }).table :=
    (s.beginContext n c note).updateRecord_records UsageKept.refl fun r _ => .of_usage rfl rfl rfl rfl id
  exact EachRecord.trans (T := UsageKept) (fun _ _ _ h h' => h.trans h') hpin
    ((State.requestRelease_records _ n p cls).mono fun _ _ hw => hw.toUsageKept)

/-- The pass table moves on with every operation. -/
theorem tableMoved_law (b : Books) : Law b fun s => TableMoved b.table s.table := by
  have lane : ∀ {s t : State} {n : Lane} {o : Option PassNo}, TableMoved b.table s.table →
      EachRecord (LaneWrite n o) s.table t.table → TableMoved b.table t.table :=
    fun hs h => hs.write (h.mono fun _ _ hw => hw.toUsageKept)
  have refund : ∀ {s t : State}, TableMoved b.table s.table → s.RefundMoves t → TableMoved b.table t.table :=
    fun hs h => hs.write (h.records.mono fun _ _ hw => hw.toUsageKept)
  exact {
    start := fun s hs => State.books_table s ▸ hs ▸ .refl _
    same := fun s t h hs => State.table_eq_of_books h ▸ hs
    grantHead := fun s e _ _ hs => lane hs (s.grantHead_records e.lane)
    dropEntry := fun s n r _ hs => lane hs (s.dropEntry_records n r)
    leave := fun s n _ hs => lane hs (s.endContext_records n)
    complete := fun s n _ hs => lane hs (s.completeGrant_records n)
    manual := fun s n _ hs => lane hs (s.manualGrant_records n)
    clearBehind := fun s q hs => refund hs (s.clearBehind_moves q)
    serviceEnd := fun s hs => refund hs s.endPendingWork_moves
    readMissed := fun s hs => refund hs s.serviceReadMissed_moves
    serviceStamp := fun s o frame hs => refund hs (s.settleServiceStamp_moves o frame)
    quote := fun s hs => refund hs (refundQuoteBlock_moves s)
    commit := fun s k hs => refund hs (refundCommitBlock_moves k s)
    endHold := fun s q e _ hs => refund hs (s.endHold_moves q e)
    remove := fun s k hs => refund hs (journalRemoveBlock_moves k s)
    edit := fun s p st create hs => hs ▸ TableMoved.edit (editPass_table p st create s).1
    erase := by
      rintro s p rfl
      rcases passEraseBlock_books p s with h | ⟨_, _, _, _, h⟩
      · exact State.table_eq_of_books h ▸ .refl _
      · rw [← State.books_table (passEraseBlock p s).state, h]
        exact .filter _
    clear := by
      rintro s rfl
      exact .filter _
    scan := by
      rintro s n c hc rfl
      rcases s.scanAnswer_books n c with h | ⟨_, h⟩
      · exact State.table_eq_of_books h ▸ .refl _
      · rw [h]
        rcases s.admission_cases n c hc with h | ⟨t, _, _, _, htable, h | ⟨_, ctx, note, cls, _, _, _, h⟩⟩
        · exact State.table_eq_of_books h ▸ .refl _
        · exact State.table_eq_of_books h ▸ .cardTable htable
        · exact State.table_eq_of_books h ▸
            (TableMoved.cardTable htable).write (t.seatPass_records n ctx note c.pass cls)
    answered := by
      rintro s c hc rfl
      rcases s.serviceReadAnswered_cases c with h | ⟨_, h⟩
      · rw [h]
        exact .refl _
      · rw [h]
        obtain ⟨rd, _, _, hends⟩ := (s.withReader fun d => { d with slot := none }).quoteCard_ends c hc
        exact State.quoteEnds_moved (s := s.withReader fun d => { d with slot := none }) hends
    startUp := by
      rintro s cause selected rfl
      rw [← State.books_table (s.startUp cause selected), s.startUp_books]
      cases s.supply.checkValid with
      | true =>
        refine (TableMoved.refl _).write (List.forall₂_map_right_iff.mpr (List.forall₂_same.mpr fun e _ => ?_))
        exact ⟨rfl, warmRecord_usageKept e.2⟩
      | false =>
        exact ⟨fun _ => ⟨.nil, by simp, .nil⟩, by simp, by simp⟩ }

theorem State.step_tableMoved {s t : State} (h : step s = .next t) : TableMoved s.table t.table :=
  (tableMoved_law s.books).step rfl h

/-- Settles O55, through the law that the table moves on with every operation. -/
theorem everyStepKeepsTheTableLaws : Obligations.EveryStepKeepsTheTableLaws := by
  refine ⟨fun s t ht h => (State.step_tableMoved h).form ht, fun s t hb h => (State.step_tableMoved h).bound hb, ?_⟩
  intro s t p r r' ht hb h hr hr'
  obtain ⟨k, hmem, hp⟩ := findRecord_mem hr
  obtain ⟨k', hmem', hp'⟩ := findRecord_mem hr'
  have hk := (State.step_tableMoved h).kept ht _ hmem' _ hmem (hp.trans hp'.symm)
  exact ⟨(hk.bound (hb _ hmem)).2, hk.lastUse, hk.refunded⟩

end Sys2Proof.Machine

/-! # A lane's release, by what it does to the books

Each operation of a lane's release changes the table as its `_records` lemma says, and of the other books only what its
equation here names: the live-grant count, the queue and the lane's own seat. -/

namespace Sys2Proof.Machine

/-- A seat whose context has been granted. -/
def Seat.grant (x : Seat) : Seat := { x with stage := .granted }

def Seat.empty : Seat := { stage := .idle, ctx := none }

theorem passageAtGrant_stage (t : Tracker) : (passageAtGrant t).stage = .granted := by
  unfold passageAtGrant
  split <;> rfl

/-- A write of one lane is a write of its seat. -/
theorem State.withLane_books_seat (s : State) (n : Lane) (f : LaneUnit → LaneUnit) :
    (s.withLane n f).books = { s.books with seat := Function.update s.books.seat n (f (s.lane n)).seat } := by
  have hseat : (fun m => ((s.withLane n f).lane m).seat) =
      Function.update (fun m => (s.lane m).seat) n (f (s.lane n)).seat := by
    funext m
    by_cases hm : m = n
    · subst hm
      simp
    · rw [Function.update_of_ne hm, State.withLane_lane_other _ _ _ _ hm]
  simp only [State.books, hseat]
  simp

theorem State.updateRecord_books (s : State) (p : PassNo) (f : PassRecord → PassRecord) :
    (s.updateRecord p f).books = { s.books with table := Machine.updateRecord s.table p f } := rfl

/-- Books that differ in the table alone are known by the table. -/
theorem State.books_eq_withTable {s t : State} {u : PassTable} (h : t.books = { s.books with table := u }) :
    t.books = { s.books with table := t.table } := by
  rw [← State.books_table t, h]

theorem State.endContext_books (s : State) (n : Lane) :
    (s.endContext n).books =
      { s.books with table := (s.endContext n).table, seat := Function.update s.books.seat n .empty } := by
  have hlane : ((s.withLane n fun u => { u with passage := .idle, ctx := none }).withAdm fun a =>
      { a with notes := a.notes.set n none }).books =
      { s.books with seat := Function.update s.books.seat n .empty } := by
    rw [State.withAdm_books, State.withLane_books_seat]
    rfl
  unfold State.endContext
  dsimp only
  split
  · unfold State.unpin
    rw [State.updateRecord_books, hlane]
    rfl
  · rw [hlane]
    rfl

theorem State.beginContext_books (s : State) (n : Lane) (c : Context) (note : Note) :
    (s.beginContext n c note).books =
      { s.books with seat := Function.update s.books.seat n { (s.books.seat n) with ctx := some c.pass } } := by
  unfold State.beginContext
  rw [State.withAdm_books, State.withLane_books_seat]
  rfl

theorem State.grantLane_books (s : State) (n : Lane) :
    (s.grantLane n).books = { s.books with seat := Function.update s.books.seat n (s.books.seat n).grant } := by
  unfold State.grantLane
  rw [State.startTone_books, State.withLane_books_seat]
  simp [LaneUnit.seat, Seat.grant, passageAtGrant_stage, Function.comp_def]

theorem State.grantActions_books (s : State) (n : Lane) (p : PassNo) (d : NoteData) :
    (s.grantActions n p d).books = { s.books with table := (s.grantActions n p d).table } := by
  have hsame : ∀ t : State, t.books = s.books → t.books = { s.books with table := t.table } :=
    fun t h => by rw [State.table_eq_of_books h, h]; rfl
  unfold State.grantActions
  split
  · exact hsame _ (by simp)
  · split
    · dsimp only
      have hconsumed : ∀ t : State, t.books = (s.updateRecord p (consume s.time.lastDay)).books →
          t.books = { s.books with table := t.table } :=
        fun t h => State.books_eq_withTable (h.trans (State.updateRecord_books _ _ _))
      split <;> exact hconsumed _ (by simp)
    · split
      · split <;> exact hsame _ (by simp)
      · exact hsame _ rfl

/-- A grant raises the live-grant count and releases the lane (R88, R105). -/
theorem State.grant_books (s : State) (n : Lane) :
    (s.grant n).books =
      { s.books with
        table := (s.grant n).table, live := s.load.live + 1
        seat := Function.update s.books.seat n (s.books.seat n).grant } := by
  have hlane : ((s.withLoad fun l => { l with live := l.live + 1 }).grantLane n).books =
      { s.books with live := s.load.live + 1, seat := Function.update s.books.seat n (s.books.seat n).grant } := by
    rw [State.grantLane_books]
    rfl
  unfold State.grant
  dsimp only
  split
  · rw [State.grantActions_books, hlane]
  · rw [hlane]
    exact congrArg (fun t => { s.books with
      table := t, live := s.load.live + 1, seat := Function.update s.books.seat n (s.books.seat n).grant })
      (congrArg Books.table hlane).symm

theorem State.grantHead_books (s : State) (n : Lane) :
    (s.grantHead n).books =
      { s.books with
        table := (s.grantHead n).table, live := s.load.live + 1, queue := s.load.queue.tail
        seat := Function.update s.books.seat n (s.books.seat n).grant } := by
  unfold State.grantHead
  rw [State.table_eq_of_books (State.putVerdict_books _ _ _), State.putVerdict_books, State.grant_books]
  rfl

/-- An admit request grants the lane, or queues it (R111). -/
theorem State.requestRelease_books (s : State) (n : Lane) (p : PassNo) (cls : Nat) :
    s.requestRelease n p cls = s.grant n ∨
      ∃ e : QueueEntry, e.lane = n ∧ (s.requestRelease n p cls).books =
        { s.books with
          queue := enqueue e s.load.queue
          seat := Function.update s.books.seat n { (s.books.seat n) with stage := .queued } } := by
  unfold State.requestRelease
  split
  · exact .inl rfl
  · exact .inr ⟨{ lane := n, pass := p, cls := cls, enqueued := s.time.ms, deadline := s.time.ms + s.load.hold * 1000 },
      rfl, State.withLane_books_seat _ _ _⟩

theorem State.dropEntry_books (s : State) (n : Lane) (r : WithdrawReason) :
    (s.dropEntry n r).books =
      { s.books with
        table := (s.dropEntry n r).table, queue := s.load.queue.filter fun e => e.lane != n
        seat := Function.update s.books.seat n .empty } := by
  have hbooks : ∀ t u : State, t.books = u.books → t.books = { u.books with table := t.table } :=
    fun t u h => by rw [State.table_eq_of_books h, h]; rfl
  unfold State.dropEntry
  dsimp only
  rw [hbooks _ ((s.withLoad fun l =>
    { l with queue := l.queue.filter fun e => e.lane != n
             handed := l.handed.filter fun h => h.lane != n }).endContext n) (by simp), State.endContext_books]
  rfl

theorem State.passageWritten_books (s : State) (n : Lane) :
    (s.passageWritten n).books = { s.books with table := (s.passageWritten n).table } := by
  unfold State.passageWritten
  (repeat' split) <;> rfl

/-- A completed grant is the end of a context, from books with the passage written and one live grant fewer. -/
theorem State.completeGrant_eq_books (s : State) (n : Lane) :
    ∃ t : State, s.completeGrant n = t.endContext n ∧
      t.books = { s.books with table := (s.passageWritten n).table, live := s.load.live - 1 } := by
  obtain ⟨t, ht, hb⟩ := s.completeGrant_eq n
  have hload : (s.passageWritten n).load = s.load := by
    unfold State.passageWritten
    (repeat' split) <;> rfl
  refine ⟨t, ht, ?_⟩
  calc t.books = { (s.passageWritten n).books with live := (s.passageWritten n).load.live - 1 } := hb
    _ = _ := by rw [State.passageWritten_books, hload]

theorem State.completeGrant_books (s : State) (n : Lane) :
    (s.completeGrant n).books =
      { s.books with
        table := (s.completeGrant n).table, live := s.load.live - 1, seat := Function.update s.books.seat n .empty } := by
  obtain ⟨t, ht, hb⟩ := s.completeGrant_eq_books n
  rw [ht, State.endContext_books, hb]

theorem State.manualGrant_eq (s : State) (n : Lane) :
    ∃ c note, c.pass = none ∧ (s.manualGrant n).books = ((s.beginContext n c note).requestRelease n 0 0).books :=
  ⟨_, _, rfl, by rw [State.manualGrant, State.arbiter_books, State.putVerdict_books]⟩

/-! ## What a release leaves of the refund engine's books -/

/-- The service slot and the refund engine's part of the books stay. -/
structure State.SameRefunds (s t : State) : Prop where
  slot : t.reader.slot.map ServiceVisit.kind = s.reader.slot.map ServiceVisit.kind
  ctx : t.refund.ctx = s.refund.ctx
  journal : t.refund.journal = s.refund.journal
  nextSeq : t.refund.nextSeq = s.refund.nextSeq

theorem State.SameRefunds.of_books {s t : State} {b : Books} (h : t.books = b) (hs : b.slot = s.books.slot)
    (hc : b.ctx = s.refund.ctx) (hj : b.journal = s.refund.journal) (hn : b.nextSeq = s.refund.nextSeq) :
    s.SameRefunds t :=
  ⟨(congrArg Books.slot h).trans hs, (congrArg Books.ctx h).trans hc, (congrArg Books.journal h).trans hj,
    (congrArg Books.nextSeq h).trans hn⟩

theorem State.grant_sameRefunds (s : State) (n : Lane) : s.SameRefunds (s.grant n) :=
  .of_books (s.grant_books n) rfl rfl rfl rfl

theorem State.requestRelease_sameRefunds (s : State) (n : Lane) (p : PassNo) (cls : Nat) :
    s.SameRefunds (s.requestRelease n p cls) := by
  rcases s.requestRelease_books n p cls with h | ⟨e, _, h⟩
  · exact h ▸ s.grant_sameRefunds n
  · exact .of_books h rfl rfl rfl rfl

theorem State.endContext_sameRefunds (s : State) (n : Lane) : s.SameRefunds (s.endContext n) :=
  .of_books (s.endContext_books n) rfl rfl rfl rfl

theorem State.manualGrant_sameRefunds (s : State) (n : Lane) : s.SameRefunds (s.manualGrant n) := by
  obtain ⟨c, note, _, hbooks⟩ := s.manualGrant_eq n
  obtain ⟨hslot, hctx, hjournal, hnext⟩ := (s.beginContext n c note).requestRelease_sameRefunds n 0 0
  exact .of_books hbooks hslot hctx hjournal hnext

end Sys2Proof.Machine

/-! # O57: the service slot, the refund context, the HELD record and the journal

`RefundBody` is the part of the refund laws that does not speak of the service slot: it stands while the slot has been
emptied and the context still waits for what was in it. -/

namespace Sys2Proof.Machine

/-! ## The place of a new record spares pinned records (R8, R11) -/

theorem placeFor_spares_pinned {t : PassTable} (ht : TableForm t) {p : PassNo} {k : Nat} {q : PassNo}
    (h : placeFor t p = some (k, q)) {e : Nat × PassRecord} (he : e ∈ t) (hp : e.2.pinned = true) : e.1 ≠ k := by
  unfold placeFor at h
  split at h
  · next j hfree =>
    cases h
    exact (freeSlot_spec hfree).2 e he
  · obtain ⟨x, hx, heq⟩ := Option.map_eq_some_iff.mp h
    cases heq
    obtain ⟨hmem, _, hevict⟩ := evictionCandidate_spec hx
    intro hslot
    have hnodup : (t.map (·.1)).Nodup := ht.1.imp fun h => Nat.ne_of_lt h
    obtain rfl : e = x := List.inj_on_of_nodup_map hnodup he hmem hslot
    simp [PassRecord.evictable, hp] at hevict

theorem pinned_of_held {r : PassRecord} (h : recHeld r.state = true) : r.pinned = true := by
  unfold PassRecord.pinned
  cases hs : r.state <;> simp_all [recHeld]

/-! ## The journal's sequences (R148) -/

theorem consecutive_concat (l : List JournalEntry) (e : JournalEntry) (next : Nat) :
    consecutive (l ++ [e]) next ↔ consecutive l e.seq ∧ next = (e.seq + 1) % 65536 := by
  induction l with
  | nil => simp [consecutive]
  | cons x l ih =>
    cases l with
    | nil => simp [consecutive]
    | cons y l => simpa [consecutive, and_assoc] using fun _ => ih

theorem consecutive_tail {e : JournalEntry} {l : List JournalEntry} {next : Nat} (h : consecutive (e :: l) next) :
    consecutive l next := by
  cases l with
  | nil => trivial
  | cons x l => exact h.2

theorem consecutive_map {f : JournalEntry → JournalEntry} (hf : ∀ e, (f e).seq = e.seq) (l : List JournalEntry)
    (next : Nat) : consecutive (l.map f) next ↔ consecutive l next := by
  induction l with
  | nil => rfl
  | cons x l ih =>
    cases l with
    | nil => simp [consecutive, hf]
    | cons y l => simpa [consecutive, hf] using fun _ => ih

theorem settleEntry_seq (n : Nat) (e : JournalEntry) : (settleEntry n e).seq = e.seq := by
  unfold settleEntry
  split <;> rfl

theorem warmEntry_seq (e : JournalEntry) : (warmEntry e).seq = e.seq := by
  unfold warmEntry
  split <;> rfl

theorem warmEntry_status (e : JournalEntry) : (warmEntry e).status ≠ .pending := by
  unfold warmEntry
  split
  · simp
  · assumption

/-! ## The laws on the books -/

/-- What stands in the service slot is what the refund context waits for. -/
def SlotFits : Option SlotKind → RefundCtx → Prop
  | none, .idle => True
  | none, .quoted _ => True
  | some .read, .reading none => True
  | some (.stamp q p), .reading (some d) => q = .writeBack ∧ p = d.pass ∧ d.quote.isSome = true
  | some (.stamp q p), .committing c _ => q = .commit ∧ p = c.pass
  | _, _ => False

/-- A PENDING entry stands in the journal only in COMMITTING: the newest one, with the pending sequence. -/
def PendingFits (c : RefundCtx) (j : List JournalEntry) : Prop :=
  match c with
  | .committing _ n => ∃ older e, j = older ++ [e] ∧ e.seq = n ∧ e.status = .pending ∧ ∀ x ∈ older, x.status ≠ .pending
  | .idle | .reading _ | .quoted _ => ∀ x ∈ j, x.status ≠ .pending

structure JournalRuns (j : List JournalEntry) (next : Nat) : Prop where
  length : j.length ≤ 48
  next_lt : next < 65536
  seq_lt : ∀ e ∈ j, e.seq < 65536
  run : consecutive j next

/-- The refund laws without the service slot, of a table, a refund context, a journal and the next sequence. -/
structure RefundBody (t : PassTable) (c : RefundCtx) (j : List JournalEntry) (next : Nat) : Prop where
  form : TableForm t
  held : ∀ e ∈ t, recHeld e.2.state = true ↔ c.heldPass = some e.2.pass
  present : ∀ p, c.heldPass = some p → (findRecord t p).isSome = true
  runs : JournalRuns j next
  pending : PendingFits c j

def State.refundBody (s : State) : Prop := RefundBody s.table s.refund.ctx s.refund.journal s.refund.nextSeq

def State.slotFits (s : State) : Prop := SlotFits (s.reader.slot.map ServiceVisit.kind) s.refund.ctx

theorem State.slotFits_iff (s : State) : s.slotFits ↔ s.slotAgrees := by
  unfold State.slotFits State.slotAgrees
  cases s.reader.slot with
  | none => cases s.refund.ctx <;> rfl
  | some v =>
    cases v with
    | read made =>
      cases s.refund.ctx with
      | reading d => cases d <;> rfl
      | _ => rfl
    | stamp r =>
      cases s.refund.ctx with
      | reading d => cases d <;> rfl
      | _ => rfl

theorem State.refundAgrees_iff (s : State) : s.refundAgrees ↔ s.refundBody ∧ s.slotFits := by
  rw [s.slotFits_iff]
  constructor
  · rintro ⟨hform, hslot, ⟨hheld, hpresent⟩, hlength, hnext, hseq, hrun, hpending⟩
    refine ⟨⟨hform, hheld, hpresent, ⟨hlength, hnext, hseq, hrun⟩, ?_⟩, hslot⟩
    revert hpending
    cases s.refund.ctx <;> exact id
  · rintro ⟨⟨hform, hheld, hpresent, ⟨hlength, hnext, hseq, hrun⟩, hpending⟩, hslot⟩
    refine ⟨hform, hslot, ⟨hheld, hpresent⟩, hlength, hnext, hseq, hrun, ?_⟩
    revert hpending
    cases s.refund.ctx <;> exact id

theorem pendingFits_of_noHold {c : RefundCtx} (h : c.heldPass = none) (j : List JournalEntry) :
    PendingFits c j ↔ ∀ x ∈ j, x.status ≠ .pending := by
  cases c with
  | committing q n => cases h
  | _ => rfl

namespace RefundBody

variable {t t' : PassTable} {c : RefundCtx} {j : List JournalEntry} {next : Nat}

/-! ## Writes of the table -/

/-- Writes that leave pass numbers and HELD marks. -/
theorem write (h : RefundBody t c j next) {R : PassRecord → PassRecord → Prop} (ht : EachRecord R t t')
    (hR : ∀ r r', R r r' → r'.pass = r.pass ∧ recHeld r'.state = recHeld r.state) : RefundBody t' c j next := by
  have hform : TableForm t' := ht.form (fun r r' hr => (hR r r' hr).1) h.form
  refine ⟨hform, fun e' he' => ?_, fun p hp => ?_, h.runs, h.pending⟩
  · obtain ⟨e, he, _, hr⟩ := ht.mem_right he'
    rw [(hR _ _ hr).1, (hR _ _ hr).2]
    exact h.held e he
  · obtain ⟨r, hr⟩ := Option.isSome_iff_exists.mp (h.present p hp)
    obtain ⟨k, hmem, hpass⟩ := findRecord_mem hr
    obtain ⟨e', he', _, hw⟩ := ht.mem_left hmem
    rw [← hpass, ← (hR _ _ hw).1, findRecord_of_mem hform he']
    rfl

/-- A held pass's record, which is HELD, stands in the table. -/
theorem exists_held (h : RefundBody t c j next) {p : PassNo} (hp : c.heldPass = some p) :
    ∃ e ∈ t, e.2.pass = p ∧ recHeld e.2.state = true := by
  obtain ⟨r, hr⟩ := Option.isSome_iff_exists.mp (h.present p hp)
  obtain ⟨k, hmem, hpass⟩ := findRecord_mem hr
  exact ⟨_, hmem, hpass, (h.held _ hmem).mpr (hp.trans (congrArg some hpass.symm))⟩

/-- Removals that leave the HELD records (R24, R25). -/
theorem filter (h : RefundBody t c j next) (keep : Nat × PassRecord → Bool)
    (hk : ∀ e ∈ t, recHeld e.2.state = true → keep e = true) : RefundBody (t.filter keep) c j next := by
  have hform := h.form.filter keep
  refine ⟨hform, fun e he => h.held e (List.mem_filter.mp he).1, fun p hp => ?_, h.runs, h.pending⟩
  obtain ⟨e, he, rfl, hheld⟩ := h.exists_held hp
  rw [findRecord_of_mem hform (List.mem_filter.mpr ⟨he, hk e he hheld⟩)]
  rfl

/-- A new record that is not HELD (R5, R7, R21). -/
theorem create (h : RefundBody t c j next) {p : PassNo} {k : Nat} {q : PassNo} (h0 : p ≠ 0)
    (hn : findPass t p = none) (hplace : placeFor t p = some (k, q)) {r : PassRecord} (hr : r.pass = p)
    (hfree : recHeld r.state = false) : RefundBody (putSlot t k r) c j next := by
  have hform := h.form.create h0 hn hplace r hr
  have hmem := mem_putSlot h.form.1 k r
  have habsent := (findPass_none_of_form h.form p).mp hn
  refine ⟨hform, fun e he => ?_, fun p' hp' => ?_, h.runs, h.pending⟩
  · rcases (hmem e).mp he with rfl | ⟨he, _⟩
    · constructor
      · intro hh
        exact absurd hh (by simp [hfree])
      · intro hh
        obtain ⟨x, hx, hxp, _⟩ := h.exists_held hh
        exact absurd (hxp.trans hr) (habsent x hx)
    · exact h.held e he
  · obtain ⟨e, he, rfl, hheld⟩ := h.exists_held hp'
    have hslot := placeFor_spares_pinned h.form hplace he (pinned_of_held hheld)
    rw [findRecord_of_mem hform ((hmem e).mpr (.inr ⟨he, hslot⟩))]
    rfl

theorem newRecord_not_held (p : PassNo) (o : Origin) (st : Standing) (live : Option Lane) (now : Nat) :
    recHeld (newRecord p o st live now).state = false := by
  cases st <;> rfl

theorem cardTable (h : RefundBody t c j next) {p : PassNo} {free : Prop} (ht : CardTable p free t t') :
    RefundBody t' c j next := by
  have hwrite : ∀ r r', CardWrite p free r r' → r'.pass = r.pass ∧ recHeld r'.state = recHeld r.state :=
    fun _ _ hw => ⟨hw.pass, hw.held⟩
  cases ht with
  | found ht => exact h.write ht hwrite
  | learned h0 _ hn hplace ht => exact (h.create h0 hn hplace rfl (newRecord_not_held _ _ _ _ _)).write ht hwrite

/-! ## Changes of the refund context -/

theorem not_held (h : RefundBody t c j next) (hc : c.heldPass = none) {e : Nat × PassRecord} (he : e ∈ t) :
    recHeld e.2.state = false := by
  have hheld := h.held e he
  rw [hc] at hheld
  simpa using hheld

/-- A context without a hold takes the place of another (R133, R136). -/
theorem setCtx (h : RefundBody t c j next) (hc : c.heldPass = none) {c' : RefundCtx} (hc' : c'.heldPass = none) :
    RefundBody t c' j next := by
  refine ⟨h.form, fun e he => ?_, fun p hp => ?_, h.runs, ?_⟩
  · rw [h.not_held hc he, hc']
    simp
  · rw [hc'] at hp
    cases hp
  · rw [pendingFits_of_noHold hc']
    exact (pendingFits_of_noHold hc j).mp h.pending

/-- A hold is placed on a record that is not REFUNDED (R15, R137). -/
theorem hold (h : RefundBody t c j next) (hc : c.heldPass = none) {q : StandingQuote} {x : PassRecord}
    (hx : findRecord t q.pass = some x) (hopen : x.state ≠ .refunded) :
    RefundBody (updateRecord t q.pass fun r => { r with state := holdState r.state }) (.quoted q) j next := by
  have hform := h.form.updateRecord q.pass (fun r => { r with state := holdState r.state }) fun _ => rfl
  obtain ⟨k, hfound⟩ : ∃ k, findPass t q.pass = some (k, x) := by
    obtain ⟨⟨k, r⟩, hr, rfl⟩ := Option.map_eq_some_iff.mp hx
    exact ⟨k, hr⟩
  refine ⟨hform, fun e' he' => ?_, fun p hp => ?_, h.runs, (pendingFits_of_noHold hc j).mp h.pending⟩
  · obtain ⟨e, he, rfl⟩ := mem_updateRecord.mp he'
    split
    · next hrec =>
      obtain rfl := eq_of_isRecordOf h.form hfound he hrec
      have hpass := ((isRecordOf_iff _ _).mp hrec).2
      have hheld : recHeld (holdState x.state) = true := by
        cases hs : x.state <;> simp_all [holdState, recHeld]
      simpa [hheld, RefundCtx.heldPass] using hpass.symm
    · next hrec =>
      rw [h.not_held hc he]
      have hpass : q.pass ≠ e.2.pass := fun hp =>
        hrec ((isRecordOf_iff _ _).mpr ⟨hp ▸ (h.form.2.1 e he).2.1, hp.symm⟩)
      simpa [RefundCtx.heldPass] using hpass
  · cases hp
    rw [findRecord, findPass_updateRecord_same t q.pass (fun r => { r with state := holdState r.state }) fun _ => rfl,
      hfound]
    rfl

/-- A quote ends, and its record is HELD no more (R143, R144, R146). -/
theorem release {q : StandingQuote} (h : RefundBody t (.quoted q) j next) {f : PassRecord → PassRecord}
    (hf : ∀ r, (f r).pass = r.pass) (hfree : ∀ r, recHeld (f r).state = false) :
    RefundBody (updateRecord t q.pass f) .idle j next := by
  refine ⟨h.form.updateRecord q.pass f hf, fun e' he' => ?_, fun _ hp => (by cases hp), h.runs, h.pending⟩
  obtain ⟨e, he, rfl⟩ := mem_updateRecord.mp he'
  split
  · simp [hfree, RefundCtx.heldPass]
  · next hrec =>
    have hpass : q.pass ≠ e.2.pass := fun hp =>
      hrec ((isRecordOf_iff _ _).mpr ⟨hp ▸ (h.form.2.1 e he).2.1, hp.symm⟩)
    have hheld := h.held e he
    simpa [RefundCtx.heldPass, hpass] using hheld

/-! ## The journal's changes -/

/-- A commit appends its PENDING entry (R145). -/
theorem begin {q : StandingQuote} (h : RefundBody t (.quoted q) j next) (hroom : j.length < 48) {e : JournalEntry}
    (hseq : e.seq = next) (hstatus : e.status = .pending) :
    RefundBody t (.committing q next) (j ++ [e]) ((next + 1) % 65536) := by
  obtain ⟨_, hnext, hlt, hrun⟩ := h.runs
  refine ⟨h.form, h.held, h.present, ⟨by simpa using hroom, by omega, ?_, ?_⟩, j, e, rfl, hseq, hstatus, h.pending⟩
  · intro x hx
    rcases List.mem_append.mp hx with hx | hx
    · exact hlt x hx
    · obtain rfl := List.mem_singleton.mp hx
      omega
  · rw [consecutive_concat, hseq]
    exact ⟨hrun, rfl⟩

/-- A confirmed commit makes the PENDING entry DONE (R146, R149). -/
theorem confirm {q : StandingQuote} {n : Nat} (h : RefundBody t (.committing q n) j next) :
    RefundBody t (.quoted q) (j.map (settleEntry n)) next := by
  obtain ⟨hlength, hnext, hlt, hrun⟩ := h.runs
  obtain ⟨older, e, rfl, hseq, _, holder⟩ := h.pending
  refine ⟨h.form, h.held, h.present, ⟨by simpa using hlength, hnext, ?_, (consecutive_map (settleEntry_seq n) _ _).mpr hrun⟩,
    ?_⟩
  · intro x hx
    obtain ⟨y, hy, rfl⟩ := List.mem_map.mp hx
    rw [settleEntry_seq]
    exact hlt y hy
  · intro x hx
    obtain ⟨y, hy, rfl⟩ := List.mem_map.mp hx
    unfold settleEntry
    split
    · simp
    · next hne =>
      rcases List.mem_append.mp hy with hy | hy
      · exact holder y hy
      · obtain rfl := List.mem_singleton.mp hy
        exact absurd hseq hne

/-- A failed commit takes its entry back (R146). -/
theorem fail {q : StandingQuote} {n : Nat} (h : RefundBody t (.committing q n) j next) :
    RefundBody t (.quoted q) j.dropLast ((next + 65535) % 65536) := by
  obtain ⟨hlength, hnext, hlt, hrun⟩ := h.runs
  obtain ⟨older, e, rfl, hseq, _, holder⟩ := h.pending
  rw [List.dropLast_concat]
  obtain ⟨hrun, hstep⟩ := (consecutive_concat _ _ _).mp hrun
  have he : e.seq < 65536 := hlt e (by simp)
  have hback : (next + 65535) % 65536 = e.seq := by omega
  refine ⟨h.form, h.held, h.present, ⟨?_, by omega, fun x hx => hlt x (List.mem_append_left _ hx), hback ▸ hrun⟩, holder⟩
  simp only [List.length_append, List.length_singleton] at hlength
  omega

/-- JOURNAL REMOVE takes the oldest entry where it is not PENDING (R151). -/
theorem tail {e : JournalEntry} (h : RefundBody t c (e :: j) next) (hstatus : e.status ≠ .pending) :
    RefundBody t c j next := by
  obtain ⟨hlength, hnext, hlt, hrun⟩ := h.runs
  have hruns : JournalRuns j next :=
    ⟨by simp only [List.length_cons] at hlength; omega, hnext, fun x hx => hlt x (List.mem_cons_of_mem _ hx),
      consecutive_tail hrun⟩
  refine ⟨h.form, h.held, h.present, hruns, ?_⟩
  have hpending := h.pending
  cases c with
  | committing q n =>
    obtain ⟨older, x, hj, hrest⟩ := hpending
    cases older with
    | nil =>
      obtain ⟨rfl, rfl⟩ := List.cons.inj hj
      exact absurd hrest.2.1 hstatus
    | cons y older =>
      obtain ⟨rfl, rfl⟩ := List.cons.inj hj
      exact ⟨older, x, rfl, hrest.1, hrest.2.1, fun z hz => hrest.2.2 z (List.mem_cons_of_mem _ hz)⟩
  | _ => exact fun x hx => hpending x (List.mem_cons_of_mem _ hx)

end RefundBody

/-! ## The refund engine's operations

Each begins with an empty service slot, as the engine's operations do, and ends with the laws whole. -/

namespace State

variable {s : State}

theorem refuseQuote_agrees (h : s.refundBody) (hslot : s.reader.slot = none) (hc : s.refund.ctx.heldPass = none)
    (res : Result) (body : Body) : (s.refuseQuote res body).refundAgrees := by
  rw [refundAgrees_iff]
  constructor
  · have hidle := RefundBody.setCtx h hc (c' := .idle) rfl
    simpa [refuseQuote, refundBody, withCtx] using hidle
  · simp [refuseQuote, slotFits, SlotFits, withCtx, hslot]

theorem endHold_agrees {q : StandingQuote} (h : s.refundBody) (hslot : s.reader.slot = none)
    (hq : s.refund.ctx = .quoted q) (e : QuoteEnd) : (s.endHold q e).refundAgrees := by
  rw [refundAgrees_iff]
  constructor
  · unfold refundBody at *
    rw [hq] at h
    have hfree : ∀ r : PassRecord, recHeld (releaseState r.state) = false := fun r => by
      cases r.state with
      | held p => cases p <;> rfl
      | _ => rfl
    exact h.release (f := fun r => { r with state := releaseState r.state }) (fun _ => rfl) hfree
  · simp [endHold, endQuote, slotFits, SlotFits, hslot]

theorem openQuote_agrees {rd : Reading} {x : PassRecord} (h : s.refundBody) (hslot : s.reader.slot = none)
    (hc : s.refund.ctx.heldPass = none) (hx : s.record rd.pass = some x) (hopen : x.state ≠ .refunded) (q : Quote) :
    (s.openQuote rd q).refundAgrees := by
  have hheld := RefundBody.hold h hc (q :=
    { pass := rd.pass, readDay := rd.readDay, seq := rd.seq, quote := q, number := (s.refund.lastNumber + 1) % 65536,
      deadline := s.time.runSec + s.refund.hold, hold := s.refund.hold }) hx hopen
  rw [refundAgrees_iff]
  constructor
  · simpa [openQuote, refundBody, updateRecord] using hheld
  · simp [openQuote, slotFits, SlotFits, hslot]

theorem placeHold_agrees (h : s.refundBody) (hslot : s.reader.slot = none) (hc : s.refund.ctx.heldPass = none)
    (rd : Reading) (q : Quote) : (s.placeHold rd q).refundAgrees := by
  unfold placeHold
  split
  · exact refuseQuote_agrees h hslot hc _ _
  · next x hx =>
    split
    · exact refuseQuote_agrees h hslot hc _ _
    · next hopen => exact openQuote_agrees h hslot hc hx hopen q

theorem settleWriteBack_agrees {rd : Reading} (h : s.refundBody) (hslot : s.reader.slot = none)
    (hc : s.refund.ctx = .reading (some rd)) (hq : rd.quote.isSome = true) (ok : Bool) :
    (s.settleWriteBack ok).refundAgrees := by
  obtain ⟨q, hq⟩ := Option.isSome_iff_exists.mp hq
  have hnone : s.refund.ctx.heldPass = none := by rw [hc, RefundCtx.heldPass]
  simp only [settleWriteBack, hc, hq]
  split <;> exact placeHold_agrees h hslot hnone _ _

/-- A state with the refund laws' body whose slot is empty in IDLE or QUOTED has the laws. -/
theorem refundAgrees_of_quoted {q : StandingQuote} (h : s.refundBody) (hslot : s.reader.slot = none)
    (hq : s.refund.ctx = .quoted q) : s.refundAgrees :=
  s.refundAgrees_iff.mpr ⟨h, by simp [slotFits, SlotFits, hslot, hq]⟩

theorem commitConfirmed_agrees {q : StandingQuote} {n : Nat} (h : s.refundBody) (hslot : s.reader.slot = none)
    (hc : s.refund.ctx = .committing q n) : (s.commitConfirmed q n).1.refundAgrees := by
  rw [refundAgrees_iff]
  constructor
  · unfold refundBody at h
    rw [hc] at h
    have hreleased := h.confirm.release (f := fun r => { r with state := .refunded }) (fun _ => rfl) fun _ => rfl
    simpa [commitConfirmed, endQuote, refundBody, updateRecord] using hreleased
  · simp [commitConfirmed, endQuote, slotFits, SlotFits, hslot]

theorem commitFailed_agrees {q : StandingQuote} {n : Nat} (h : s.refundBody) (hslot : s.reader.slot = none)
    (hc : s.refund.ctx = .committing q n) (echoed : Option PassNo) : (s.commitFailed q echoed).1.refundAgrees := by
  unfold refundBody at h
  rw [hc] at h
  have hquoted : (s.withRefund fun r =>
      { r with journal := r.journal.dropLast, nextSeq := (r.nextSeq + 65535) % 65536, ctx := .quoted q }).refundBody :=
    h.fail
  unfold commitFailed
  dsimp only
  split
  · have hended := endHold_agrees hquoted (by simpa using hslot) rfl .expired
    rw [refundAgrees_iff] at hended ⊢
    exact hended
  · exact refundAgrees_of_quoted hquoted (by simpa using hslot) rfl

theorem settleCommit_agrees {q : StandingQuote} {n : Nat} (h : s.refundBody) (hslot : s.reader.slot = none)
    (hc : s.refund.ctx = .committing q n) (ok : Bool) (echoed : Option PassNo) :
    (s.settleCommit ok echoed).1.refundAgrees := by
  simp only [settleCommit, hc]
  split
  · exact commitConfirmed_agrees h hslot hc
  · exact commitFailed_agrees h hslot hc echoed

theorem refundAgrees_of_books {s t : State} (h : t.books = s.books) (hs : s.refundAgrees) : t.refundAgrees := by
  have hbody : t.refundBody = s.refundBody := congrArg (fun b : Books => RefundBody b.table b.ctx b.journal b.nextSeq) h
  have hslot : t.slotFits = s.slotFits := congrArg (fun b : Books => SlotFits b.slot b.ctx) h
  rw [refundAgrees_iff] at hs ⊢
  rwa [hbody, hslot]

theorem settleCommitLong_agrees {q : StandingQuote} {n : Nat} (h : s.refundBody) (hslot : s.reader.slot = none)
    (hc : s.refund.ctx = .committing q n) (ok : Bool) (echoed : Option PassNo) :
    (s.settleCommitLong ok echoed).refundAgrees := by
  have hsettled := settleCommit_agrees h hslot hc ok echoed
  unfold settleCommitLong
  split
  · next u res body heq =>
    rw [heq] at hsettled
    exact refundAgrees_of_books (completeLong_books _ _ _) hsettled
  · next u heq =>
    rw [heq] at hsettled
    exact hsettled

/-- A service stamp that the slot held has ended, and its requester acts on it. -/
theorem settleService_agrees {r : StampReq} (h : s.refundBody) (hslot : s.reader.slot = none)
    (hfits : SlotFits (some (.stamp r.requester r.pass)) s.refund.ctx) (ok : Bool) :
    (s.settleService r ok).refundAgrees := by
  unfold settleService
  cases hc : s.refund.ctx with
  | committing q n =>
    rw [hc] at hfits
    rw [hfits.1]
    exact settleCommitLong_agrees h hslot hc ok r.echoed
  | reading d =>
    rw [hc] at hfits
    cases d with
    | none => cases hfits
    | some d =>
      rw [hfits.1]
      exact settleWriteBack_agrees h hslot hc hfits.2.2 ok
  | idle =>
    rw [hc] at hfits
    cases hfits
  | quoted q =>
    rw [hc] at hfits
    cases hfits

end State
end Sys2Proof.Machine

namespace Sys2Proof.Machine

/-! ## The refund laws through every operation -/

namespace State

variable {s t : State}

/-- An emptied slot leaves the laws' body, and a context that waited for the slot's content. -/
theorem refundBody_of_slot (h : s.refundBody) (slot : Option ServiceVisit) :
    (s.withReader fun d => { d with slot := slot }).refundBody := h

theorem endPendingWork_agrees (h : s.refundAgrees) : (s.endPendingWork .ps).refundAgrees := by
  obtain ⟨hbody, hfits⟩ := s.refundAgrees_iff.mp h
  have hfree := refundBody_of_slot hbody none
  unfold slotFits at hfits
  unfold endPendingWork
  dsimp only
  split
  · next made hslot =>
    rw [hslot] at hfits
    refine refuseQuote_agrees hfree rfl ?_ _ _
    cases hc : s.refund.ctx with
    | reading d => simp [hc, RefundCtx.heldPass]
    | _ => simp [hc, SlotFits, ServiceVisit.kind] at hfits
  · next r hslot =>
    rw [hslot] at hfits
    exact settleService_agrees (r := { r with echoed := none }) hfree rfl hfits false
  · next hslot =>
    rw [hslot] at hfits
    exact (refundAgrees_iff _).mpr ⟨hfree, hfits⟩

/-- A service read waits only while the context waits for a card. -/
theorem ctx_of_serviceRead {made : Nat} (h : s.refundAgrees) (hslot : s.reader.slot = some (.read made)) :
    s.refund.ctx = .reading none := by
  have hfits := (s.refundAgrees_iff.mp h).2
  unfold slotFits at hfits
  rw [hslot] at hfits
  cases hc : s.refund.ctx with
  | reading d =>
    cases d with
    | none => rfl
    | some d => simp [hc, SlotFits, ServiceVisit.kind] at hfits
  | _ => simp [hc, SlotFits, ServiceVisit.kind] at hfits

theorem serviceReadMissed_agrees (h : s.refundAgrees) : s.serviceReadMissed.refundAgrees := by
  have hbody := (s.refundAgrees_iff.mp h).1
  unfold serviceReadMissed
  split
  · next made hslot =>
    have hc := ctx_of_serviceRead h hslot
    split
    · exact refuseQuote_agrees (refundBody_of_slot hbody none) rfl (by simp [hc, RefundCtx.heldPass]) _ _
    · exact refundAgrees_of_books (withReader_books _ _ (by simp [hslot, ServiceVisit.kind])) h
  all_goals exact h

/-- A card answer's writes, and the writes of a lane's release, keep the laws' body. -/
theorem refundBody_write {R : PassRecord → PassRecord → Prop} (h : s.refundBody) (ht : EachRecord R s.table t.table)
    (hR : ∀ r r', R r r' → r'.pass = r.pass ∧ recHeld r'.state = recHeld r.state) (hr : s.SameRefunds t) :
    t.refundBody := by
  unfold refundBody
  rw [hr.ctx, hr.journal, hr.nextSeq]
  exact RefundBody.write h ht hR

theorem refundAgrees_write {R : PassRecord → PassRecord → Prop} (h : s.refundAgrees) (ht : EachRecord R s.table t.table)
    (hR : ∀ r r', R r r' → r'.pass = r.pass ∧ recHeld r'.state = recHeld r.state) (hr : s.SameRefunds t) :
    t.refundAgrees := by
  obtain ⟨hbody, hfits⟩ := s.refundAgrees_iff.mp h
  refine t.refundAgrees_iff.mpr ⟨refundBody_write hbody ht hR hr, ?_⟩
  unfold slotFits at hfits ⊢
  rwa [hr.slot, hr.ctx]

theorem laneWrite_leaves {n : Lane} {o : Option PassNo} (r r' : PassRecord) (h : LaneWrite n o r r') :
    r'.pass = r.pass ∧ recHeld r'.state = recHeld r.state :=
  ⟨h.pass, congrArg recHeld h.state⟩

theorem clearBehind_records (s : State) (q : StampReq) :
    EachRecord StateKept s.table (s.clearBehind q).table :=
  s.updateRecord_records StateKept.refl fun r _ => by
    split
    · exact .of_usage rfl rfl rfl rfl rfl
    · exact .refl r

theorem clearBehind_agrees (h : s.refundAgrees) (q : StampReq) : (s.clearBehind q).refundAgrees :=
  refundAgrees_write h (s.clearBehind_records q) (fun _ _ hw => ⟨hw.pass, congrArg recHeld hw.state⟩)
    ⟨rfl, rfl, rfl, rfl⟩

theorem settleServiceStamp_agrees (h : s.refundAgrees) (o : VisitOutcome) (frame : List Byte) :
    (s.settleServiceStamp o frame).refundAgrees := by
  obtain ⟨hbody, hfits⟩ := s.refundAgrees_iff.mp h
  have hfree := refundBody_of_slot hbody none
  unfold slotFits at hfits
  unfold settleServiceStamp
  split
  · next r hslot =>
    rw [hslot] at hfits
    have hnoted : (r.noted o frame).requester = r.requester ∧ (r.noted o frame).pass = r.pass := by
      unfold StampReq.noted
      split <;> exact ⟨rfl, rfl⟩
    dsimp only
    split
    · have hcleared : ((s.withReader fun d => { d with slot := none }).clearBehind r).refundBody :=
        refundBody_write hfree (clearBehind_records _ r) (fun _ _ hw => ⟨hw.pass, congrArg recHeld hw.state⟩)
          ⟨rfl, rfl, rfl, rfl⟩
      exact settleService_agrees hcleared rfl hfits true
    · split
      · exact refundAgrees_of_books (withReader_books _ _ (by simp [hslot, ServiceVisit.kind, hnoted])) h
      · refine settleService_agrees hfree rfl ?_ false
        rw [hnoted.1, hnoted.2]
        exact hfits
  all_goals exact h

/-! ## The refund orders -/

/-- The context determines what stands in the slot: nothing in IDLE and QUOTED. -/
theorem slot_empty_of_resting (h : s.refundAgrees)
    (hc : s.refund.ctx = .idle ∨ ∃ q, s.refund.ctx = .quoted q) : s.reader.slot = none := by
  have hfits := (s.refundAgrees_iff.mp h).2
  unfold slotFits at hfits
  cases hslot : s.reader.slot with
  | none => rfl
  | some v =>
    rw [hslot] at hfits
    rcases hc with hc | ⟨q, hc⟩ <;> cases v <;> simp [hc, SlotFits, ServiceVisit.kind] at hfits

theorem refundQuoteBlock_agrees (h : s.refundAgrees) : (refundQuoteBlock s).state.refundAgrees := by
  have hbody := (s.refundAgrees_iff.mp h).1
  unfold refundQuoteBlock
  split
  · exact h
  · next hidle =>
    have hidle : s.refund.ctx = .idle := not_not.mp hidle
    split
    · exact h
    · split
      · exact h
      · split
        · exact h
        · refine refundAgrees_of_books (arbiter_books _) ((refundAgrees_iff _).mpr ⟨?_, trivial⟩)
          exact RefundBody.setCtx hbody (by rw [hidle, RefundCtx.heldPass]) rfl

theorem beginCommit_body {q : StandingQuote} (h : s.refundBody) (hq : s.refund.ctx = .quoted q)
    (hroom : s.refund.journal.length < 48) : (s.beginCommit q).refundBody := by
  unfold refundBody at h
  rw [hq] at h
  exact h.begin hroom (e := pendingEntry s q) rfl rfl

theorem commitStamp_agrees {q : StandingQuote} {n : Nat} (h : s.refundBody) (hslot : s.reader.slot = none)
    (hc : s.refund.ctx = .committing q n) : (s.commitStamp q).state.refundAgrees := by
  unfold commitStamp
  split
  · exact settleCommit_agrees h hslot hc false none
  · split
    · refine refundAgrees_of_books (arbiter_books _) ((refundAgrees_iff _).mpr ⟨h, ?_⟩)
      simp [slotFits, hc, SlotFits, ServiceVisit.kind, newStamp]
    · next hnone =>
      have hpresent : (s.record q.pass).isSome = true := RefundBody.present h q.pass (by rw [hc, RefundCtx.heldPass])
      simp [hnone] at hpresent

theorem refundCommitBlock_agrees (h : s.refundAgrees) (k : Nat) : (refundCommitBlock k s).state.refundAgrees := by
  have hbody := (s.refundAgrees_iff.mp h).1
  unfold refundCommitBlock
  split
  · next q hq =>
    have hslot := slot_empty_of_resting h (.inr ⟨q, hq⟩)
    split
    · exact h
    · split
      · exact h
      · split
        · exact h
        · next hroom => exact commitStamp_agrees (beginCommit_body hbody hq (by omega)) hslot rfl
  all_goals exact h

theorem journalRemoveBlock_agrees (h : s.refundAgrees) (k : Nat) : (journalRemoveBlock k s).state.refundAgrees := by
  obtain ⟨hbody, hfits⟩ := s.refundAgrees_iff.mp h
  unfold journalRemoveBlock
  split
  · exact h
  · next e rest hj =>
    split
    · exact h
    · split
      · exact h
      · next hstatus =>
        refine (refundAgrees_iff _).mpr ⟨?_, hfits⟩
        unfold refundBody at hbody
        rw [hj] at hbody
        exact hbody.tail hstatus

/-! ## Records that come and go -/

theorem refundAgrees_of_table {u : PassTable} (h : s.refundAgrees) (ht : t.books = { s.books with table := u })
    (hu : RefundBody u s.refund.ctx s.refund.journal s.refund.nextSeq) : t.refundAgrees := by
  have hfits := (s.refundAgrees_iff.mp h).2
  have hbody : t.refundBody = RefundBody u s.refund.ctx s.refund.journal s.refund.nextSeq :=
    congrArg (fun b : Books => RefundBody b.table b.ctx b.journal b.nextSeq) ht
  have hslot : t.slotFits = s.slotFits := congrArg (fun b : Books => SlotFits b.slot b.ctx) ht
  rw [refundAgrees_iff, hbody, hslot]
  exact ⟨hu, hfits⟩

theorem recHeld_editedState {st : Standing} {x y : RecState} (h : editedState st x = some y) : recHeld y = recHeld x := by
  cases x <;> cases h <;> cases st <;> rfl

theorem editPass_agrees (h : s.refundAgrees) (p : PassNo) (st : Standing) (create : Bool) :
    (editPass p st create s).state.refundAgrees := by
  have hbody : RefundBody _ _ _ _ := (s.refundAgrees_iff.mp h).1
  obtain ⟨htable, hbooks⟩ := editPass_table p st create s
  refine refundAgrees_of_table h hbooks ?_
  revert htable
  generalize (editPass p st create s).state.table = u
  rintro (_ | ⟨hfound, hx⟩ | ⟨h0, hn, hplace⟩)
  · exact hbody
  · next k r x =>
    refine hbody.write (R := fun r r' => r'.pass = r.pass ∧ recHeld r'.state = recHeld r.state)
      (EachRecord.update (fun r => ⟨rfl, rfl⟩) fun e he hrec => ⟨rfl, ?_⟩) fun _ _ hw => hw
    rw [eq_of_isRecordOf hbody.form hfound he hrec]
    exact recHeld_editedState hx
  · exact hbody.create h0 hn hplace rfl (RefundBody.newRecord_not_held _ _ _ _ _)

theorem passEraseBlock_agrees (h : s.refundAgrees) (p : PassNo) : (passEraseBlock p s).state.refundAgrees := by
  have hbody : RefundBody _ _ _ _ := (s.refundAgrees_iff.mp h).1
  rcases passEraseBlock_books p s with hsame | ⟨k, r, hfound, hpin, hbooks⟩
  · exact refundAgrees_of_books hsame h
  · refine refundAgrees_of_table h hbooks (hbody.filter _ fun e he hheld => ?_)
    by_contra hrec
    obtain rfl := eq_of_isRecordOf hbody.form hfound he (by simpa using hrec)
    simp [pinned_of_held hheld] at hpin

theorem clearLearnedBlock_agrees (h : s.refundAgrees) : (clearLearnedBlock s).state.refundAgrees := by
  have hbody : RefundBody _ _ _ _ := (s.refundAgrees_iff.mp h).1
  refine refundAgrees_of_table h (clearLearnedBlock_books s) (hbody.filter _ fun e _ hheld => ?_)
  simp [PassRecord.evictable, pinned_of_held hheld]

/-! ## Card answers and start-ups -/

theorem seatPass_agrees (h : s.refundAgrees) (n : Lane) (c : Context) (note : Note) (p : PassNo) (cls : Nat) :
    (s.seatPass n c note p cls).refundAgrees := by
  have hpinned : ((s.beginContext n c note).updateRecord p fun r => { r with live := some n }).refundAgrees :=
    refundAgrees_write (R := StateKept) h
      ((s.beginContext n c note).updateRecord_records StateKept.refl fun r _ => .of_usage rfl rfl rfl rfl rfl)
      (fun _ _ hw => ⟨hw.pass, congrArg recHeld hw.state⟩) ⟨rfl, rfl, rfl, rfl⟩
  exact refundAgrees_write hpinned (requestRelease_records _ n p cls) laneWrite_leaves
    (requestRelease_sameRefunds _ n p cls)

theorem scanAnswer_agrees (h : s.refundAgrees) (n : Lane) {c : Card} (hc : c.ticketOk = true → c.pass ≠ 0) :
    (s.scanAnswer n c).refundAgrees := by
  have hbody : RefundBody _ _ _ _ := (s.refundAgrees_iff.mp h).1
  rcases s.scanAnswer_books n c with hsame | ⟨_, hadm⟩
  · exact refundAgrees_of_books hsame h
  · rw [hadm]
    rcases s.admission_cases n c hc with hsame | ⟨t, hbooks, _, _, htable, hend⟩
    · exact refundAgrees_of_books hsame h
    · have ht : t.refundAgrees := refundAgrees_of_table h hbooks (hbody.cardTable htable)
      rcases hend with hsame | ⟨_, ctx, note, cls, _, _, _, hseat⟩
      · exact refundAgrees_of_books hsame ht
      · exact refundAgrees_of_books hseat (seatPass_agrees ht n ctx note c.pass cls)

theorem quoteRecord_agrees {rd : Reading} (h : s.refundBody) (hslot : s.reader.slot = none)
    (hc : s.refund.ctx.heldPass = none) {c : Card} (hpass : rd.pass = c.pass) (b : Basis) (r : PassRecord) (tf : Tariff) :
    (s.quoteRecord rd c b r tf).refundAgrees := by
  unfold quoteRecord
  dsimp only
  split
  · have hread (d : Reading) : (s.withCtx (.reading (some d))).refundBody := RefundBody.setCtx h hc rfl
    unfold requestWriteBackStamp
    split
    · exact settleWriteBack_agrees (hread _) hslot rfl rfl false
    · exact (refundAgrees_iff _).mpr ⟨hread _, rfl, hpass.symm, rfl⟩
  · exact placeHold_agrees h hslot hc _ _

theorem serviceReadAnswered_agrees (h : s.refundAgrees) {c : Card} (hc : c.ticketOk = true → c.pass ≠ 0) :
    (s.serviceReadAnswered c).refundAgrees := by
  have hbody := (s.refundAgrees_iff.mp h).1
  rcases s.serviceReadAnswered_cases c with hsame | ⟨⟨made, hslot⟩, hans⟩
  · rwa [hsame]
  · have hctx := ctx_of_serviceRead h hslot
    obtain ⟨rd, hpass, _, t, ht, hend⟩ := (s.withReader fun d => { d with slot := none }).quoteCard_ends c hc
    have hempty : t.reader.slot = none := by rw [ht.reader]; rfl
    have hnone : t.refund.ctx.heldPass = none := by rw [ht.refund, RefundCtx.heldPass]
    have htbody : t.refundBody := by
      have hread := RefundBody.setCtx (RefundBody.cardTable hbody ht.table) (by rw [hctx, RefundCtx.heldPass])
        (c' := .reading (some rd)) rfl
      unfold refundBody
      rw [ht.refund]
      exact hread
    rw [hans]
    rcases hend with ⟨res, body, hend⟩ | ⟨_, b, r, tf, _, hend⟩
    · exact hend ▸ refuseQuote_agrees htbody hempty hnone res body
    · exact hend ▸ quoteRecord_agrees htbody hempty hnone hpass b r tf

theorem startUp_agrees (h : s.refundAgrees) (cause : StartCause) (selected : PerPort Bool) :
    (s.startUp cause selected).refundAgrees := by
  have hbody : RefundBody _ _ _ _ := (s.refundAgrees_iff.mp h).1
  have hbooks := s.startUp_books cause selected
  rw [refundAgrees_iff]
  have hslot : (s.startUp cause selected).slotFits :=
    (congrArg (fun b : Books => SlotFits b.slot b.ctx) hbooks).mpr trivial
  refine ⟨(congrArg (fun b : Books => RefundBody b.table b.ctx b.journal b.nextSeq) hbooks).mpr ?_, hslot⟩
  have hfree : ∀ r, recHeld (warmRecord r).state = false := fun r => by
    unfold warmRecord
    cases r.state with
    | held p => cases p <;> rfl
    | _ => rfl
  cases s.supply.checkValid with
  | true =>
    have hkept : EachRecord (fun r r' => r'.pass = r.pass) s.table (s.table.map fun e => (e.1, warmRecord e.2)) :=
      List.forall₂_map_right_iff.mpr (List.forall₂_same.mpr fun e _ => ⟨rfl, rfl⟩)
    obtain ⟨hlength, hnext, hlt, hrun⟩ := hbody.runs
    refine ⟨hkept.form (fun _ _ hw => hw) hbody.form, ?_, by simp [RefundCtx.heldPass],
      ⟨by simpa using hlength, hnext, ?_, (consecutive_map warmEntry_seq _ _).mpr hrun⟩, ?_⟩
    · intro e he
      obtain ⟨x, _, rfl⟩ := List.mem_map.mp he
      simp [hfree, RefundCtx.heldPass]
    · intro e he
      obtain ⟨x, hx, rfl⟩ := List.mem_map.mp he
      rw [warmEntry_seq]
      exact hlt x hx
    · intro e he
      obtain ⟨x, _, rfl⟩ := List.mem_map.mp he
      exact warmEntry_status x
  | false =>
    exact ⟨⟨.nil, by simp, .nil⟩, by simp, by simp [RefundCtx.heldPass],
      ⟨by simp, by simp, by simp, trivial⟩, by simp [PendingFits]⟩

end State

/-- The refund laws are kept by every operation. -/
theorem refundAgrees_law {b : Books} (hb : ∀ s : State, s.books = b → s.refundAgrees) : Law b State.refundAgrees where
  start := hb
  same _ _ h hs := State.refundAgrees_of_books h hs
  grantHead s e _ _ hs := State.refundAgrees_write hs (s.grantHead_records e.lane) State.laneWrite_leaves
    (.of_books (s.grantHead_books e.lane) rfl rfl rfl rfl)
  dropEntry s n r _ hs := State.refundAgrees_write hs (s.dropEntry_records n r) State.laneWrite_leaves
    (.of_books (s.dropEntry_books n r) rfl rfl rfl rfl)
  leave s n _ hs :=
    have hsame := s.endContext_sameRefunds n
    State.refundAgrees_write hs (s.endContext_records n) State.laneWrite_leaves
      ⟨hsame.slot, hsame.ctx, hsame.journal, hsame.nextSeq⟩
  complete s n _ hs := State.refundAgrees_write hs (s.completeGrant_records n) State.laneWrite_leaves
    (.of_books (s.completeGrant_books n) rfl rfl rfl rfl)
  manual s n _ hs := State.refundAgrees_write hs (s.manualGrant_records n) State.laneWrite_leaves
    (s.manualGrant_sameRefunds n)
  clearBehind _ q hs := State.clearBehind_agrees hs q
  serviceEnd _ hs := State.endPendingWork_agrees hs
  readMissed _ hs := State.serviceReadMissed_agrees hs
  serviceStamp _ o frame hs := State.settleServiceStamp_agrees hs o frame
  quote _ hs := State.refundQuoteBlock_agrees hs
  commit _ k hs := State.refundCommitBlock_agrees hs k
  endHold s q e hq hs := State.endHold_agrees (s.refundAgrees_iff.mp hs).1
    (State.slot_empty_of_resting hs (.inr ⟨q, hq⟩)) hq e
  remove _ k hs := State.journalRemoveBlock_agrees hs k
  edit s p st create h := State.editPass_agrees (hb s h) p st create
  erase s p h := State.passEraseBlock_agrees (hb s h) p
  clear s h := State.clearLearnedBlock_agrees (hb s h)
  scan s n _ hc h := State.scanAnswer_agrees (hb s h) n hc
  answered s _ hc h := State.serviceReadAnswered_agrees (hb s h) hc
  startUp s cause selected h := State.startUp_agrees (hb s h) cause selected

/-- Settles O57, through the law that every operation keeps the refund laws. -/
theorem everyStepKeepsTheRefundLaws : Obligations.EveryStepKeepsTheRefundLaws := fun _ _ hs h =>
  (refundAgrees_law fun _ ht => State.refundAgrees_of_books ht hs).step rfl h

end Sys2Proof.Machine

/-! # O56: lanes, queue, contexts and records together

`Places` holds of the live-grant count, the queue and the seats (R87, R105, R110); `Holders` of the table, the passes that
the lane contexts hold, and the pass of the refund context (R12, R87). -/

namespace Sys2Proof.Machine

/-! ## The release queue -/

theorem enqueue_perm (e : QueueEntry) (q : List QueueEntry) : (enqueue e q).Perm (e :: q) := by
  induction q with
  | nil => rfl
  | cons x q ih =>
    unfold enqueue
    split
    · rfl
    · exact (ih.cons x).trans (.swap e x q)

theorem lanes_enqueue (e : QueueEntry) (q : List QueueEntry) :
    ((enqueue e q).map (·.lane)).Perm (e.lane :: q.map (·.lane)) :=
  (enqueue_perm e q).map _

theorem mem_lanes_filter (q : List QueueEntry) (n m : Lane) :
    m ∈ (q.filter fun e => e.lane != n).map (·.lane) ↔ m ≠ n ∧ m ∈ q.map (·.lane) := by
  simp only [List.mem_map, List.mem_filter, bne_iff_ne]
  constructor
  · rintro ⟨e, ⟨he, hne⟩, rfl⟩
    exact ⟨hne, e, he, rfl⟩
  · rintro ⟨hne, e, he, rfl⟩
    exact ⟨e, ⟨he, hne⟩, rfl⟩

/-! ## Places -/

def liveSeats (seat : Lane → Seat) : Nat := (Lane.all.filter fun n => (seat n).stage.isLive).length

theorem liveSeats_eq_sum (seat : Lane → Seat) : liveSeats seat =
    (seat .l0).stage.isLive.toNat + (seat .l1).stage.isLive.toNat + (seat .l2).stage.isLive.toNat +
      (seat .l3).stage.isLive.toNat := by
  simp only [liveSeats, Lane.all, ← List.countP_eq_length_filter, List.countP_cons, List.countP_nil, Bool.toNat,
    Bool.cond_eq_ite]
  omega

theorem liveSeats_update (seat : Lane → Seat) (n : Lane) (x : Seat) :
    liveSeats (Function.update seat n x) + (seat n).stage.isLive.toNat = liveSeats seat + x.stage.isLive.toNat := by
  rw [liveSeats_eq_sum, liveSeats_eq_sum]
  cases n <;> simp [Function.update] <;> omega

structure Places (live : Nat) (q : List QueueEntry) (seat : Lane → Seat) : Prop where
  live : live = liveSeats seat
  nodup : (q.map (·.lane)).Nodup
  queued : ∀ n, n ∈ q.map (·.lane) ↔ (seat n).stage = .queued
  seated : ∀ n, (seat n).ctx.isSome = true ↔ (seat n).stage ≠ .idle

namespace Places

variable {live live' : Nat} {q q' : List QueueEntry} {seat : Lane → Seat} {n : Lane} {x : Seat}

/-- One lane takes another seat, and count and queue follow. -/
theorem update (h : Places live q seat) (hlive : live' + (seat n).stage.isLive.toNat = live + x.stage.isLive.toNat)
    (hnodup : (q'.map (·.lane)).Nodup) (hn : n ∈ q'.map (·.lane) ↔ x.stage = .queued)
    (hm : ∀ m, m ≠ n → (m ∈ q'.map (·.lane) ↔ m ∈ q.map (·.lane)))
    (hx : x.ctx.isSome = true ↔ x.stage ≠ .idle) : Places live' q' (Function.update seat n x) where
  live := by
    have hsum := liveSeats_update seat n x
    have hold := h.live
    omega
  nodup := hnodup
  queued m := by
    by_cases hmn : m = n
    · subst hmn
      simpa using hn
    · rw [Function.update_of_ne hmn, hm m hmn]
      exact h.queued m
  seated m := by
    by_cases hmn : m = n
    · subst hmn
      simpa using hx
    · rw [Function.update_of_ne hmn]
      exact h.seated m

theorem not_queued (h : Places live q seat) (hn : (seat n).stage ≠ .queued) : n ∉ q.map (·.lane) :=
  fun hm => hn ((h.queued n).mp hm)

theorem ctx_none (h : Places live q seat) (hn : (seat n).stage = .idle) : (seat n).ctx = none := by
  have hseated := h.seated n
  cases hc : (seat n).ctx with
  | none => rfl
  | some c => simp [hc, hn] at hseated

/-- The head of the queue is granted (R112). -/
theorem grantHead {e : QueueEntry} (h : Places live (e :: q) seat) :
    Places (live + 1) q (Function.update seat e.lane (seat e.lane).grant) := by
  have hstage : (seat e.lane).stage = .queued := (h.queued _).mp (by simp)
  obtain ⟨hfresh, hnodup⟩ := List.nodup_cons.mp h.nodup
  refine h.update ?_ hnodup ?_ (fun m hm => by simp [hm]) ?_
  · simp [hstage, Seat.grant, Passage.isLive]
  · simpa [Seat.grant] using hfresh
  · have hseated := (h.seated e.lane).mpr (by simp [hstage])
    simpa [Seat.grant] using hseated

/-- A live grant ends (R91, R92). -/
theorem endGrant (h : Places live q seat) (hn : (seat n).stage.isLive = true) :
    Places (live - 1) q (Function.update seat n .empty) := by
  have hsum := liveSeats_update seat n .empty
  have hlive := h.live
  have hfresh : n ∉ q.map (·.lane) := h.not_queued fun hq => by simp [hq, Passage.isLive] at hn
  refine h.update ?_ h.nodup (by simpa [Seat.empty] using hfresh) (fun _ _ => Iff.rfl) (by simp [Seat.empty])
  rw [hn] at hsum ⊢
  simp only [Seat.empty, Passage.isLive, Bool.toNat_true, Bool.toNat_false] at hsum ⊢
  omega

/-- A queue entry leaves (R113). -/
theorem drop (h : Places live q seat) (hn : (seat n).stage = .queued) :
    Places live (q.filter fun e => e.lane != n) (Function.update seat n .empty) := by
  refine h.update ?_ (h.nodup.sublist (List.filter_sublist.map _)) ?_ (fun m hm => ?_) (by simp [Seat.empty])
  · simp [hn, Seat.empty, Passage.isLive]
  · rw [mem_lanes_filter]
    simp [Seat.empty]
  · rw [mem_lanes_filter]
    simp [hm]

/-- An idle lane is granted at once (R111). -/
theorem grantIdle (h : Places live q seat) (hn : (seat n).stage = .idle) (o : Option PassNo) :
    Places (live + 1) q (Function.update seat n { stage := .granted, ctx := some o }) := by
  have hfresh : n ∉ q.map (·.lane) := h.not_queued (by simp [hn])
  exact h.update (by simp [hn, Passage.isLive]) h.nodup (by simpa using hfresh) (fun _ _ => Iff.rfl) (by simp)

/-- An idle lane's request waits in the queue (R111). -/
theorem enqueueIdle (h : Places live q seat) {e : QueueEntry} (hn : (seat e.lane).stage = .idle) (o : Option PassNo) :
    Places live (enqueue e q) (Function.update seat e.lane { stage := .queued, ctx := some o }) := by
  have hfresh : e.lane ∉ q.map (·.lane) := h.not_queued (by simp [hn])
  have hperm := lanes_enqueue e q
  refine h.update (by simp [hn, Passage.isLive]) (hperm.nodup_iff.mpr (List.nodup_cons.mpr ⟨hfresh, h.nodup⟩)) ?_
    (fun m hm => ?_) (by simp)
  · rw [hperm.mem_iff]
    simp
  · rw [hperm.mem_iff]
    simp [hm]

end Places

/-! ## Holders -/

/-- A record that a rider may have: neither HELD nor REFUNDED. -/
def RecState.rides (x : RecState) : Prop := x = .active ∨ x = .blocked

theorem Standing.toState_rides (st : Standing) : st.toState.rides := by
  cases st
  · exact .inl rfl
  · exact .inr rfl

structure Holders (t : PassTable) (held : Lane → Option PassNo) (o : Option PassNo) : Prop where
  form : TableForm t
  apart : ∀ n m p, n ≠ m → held n = some p → held m ≠ some p
  refund : ∀ n p, held n = some p → o ≠ some p
  pins : ∀ e ∈ t, ∀ n, e.2.live = some n ↔ held n = some e.2.pass
  clear : ∀ e ∈ t, ∀ n, held n = some e.2.pass → e.2.state.rides

namespace Holders

variable {t t' : PassTable} {held : Lane → Option PassNo} {o o' : Option PassNo} {n : Lane} {p : PassNo}

/-- Writes that leave the pins, and give a rider's record no other state than ACTIVE or BLOCKED. -/
theorem write (h : Holders t held o) {R : PassRecord → PassRecord → Prop} (ht : EachRecord R t t')
    (hpass : ∀ r r', R r r' → r'.pass = r.pass) (hlive : ∀ r r', R r r' → r'.live = r.live)
    (hstate : ∀ r r', R r r' → r'.state = r.state ∨ r'.state.rides ∨ ∀ n, held n ≠ some r.pass) :
    Holders t' held o where
  form := ht.form hpass h.form
  apart := h.apart
  refund := h.refund
  pins e' he' n := by
    obtain ⟨e, he, _, hr⟩ := ht.mem_right he'
    rw [hlive _ _ hr, hpass _ _ hr]
    exact h.pins e he n
  clear e' he' n hn := by
    obtain ⟨e, he, _, hr⟩ := ht.mem_right he'
    rw [hpass _ _ hr] at hn
    rcases hstate _ _ hr with hs | hs | hs
    · rw [hs]
      exact h.clear e he n hn
    · exact hs
    · exact absurd hn (hs n)

theorem setRefund (h : Holders t held o) (ho : ∀ n p, held n = some p → o' ≠ some p) : Holders t held o' :=
  { h with refund := ho }

theorem filter (h : Holders t held o) (keep : Nat × PassRecord → Bool) : Holders (t.filter keep) held o where
  form := h.form.filter keep
  apart := h.apart
  refund := h.refund
  pins e he := h.pins e (List.mem_filter.mp he).1
  clear e he := h.clear e (List.mem_filter.mp he).1

/-- A new record takes the LIVE pin of the lane context that holds its pass (R7, R21). -/
theorem create (h : Holders t held o) {k : Nat} {q : PassNo} (h0 : p ≠ 0) (hn : findPass t p = none)
    (hplace : placeFor t p = some (k, q)) {r : PassRecord} (hr : r.pass = p)
    (hlive : ∀ n, r.live = some n ↔ held n = some p) (hstate : r.state.rides) : Holders (putSlot t k r) held o where
  form := h.form.create h0 hn hplace r hr
  apart := h.apart
  refund := h.refund
  pins e he := by
    rcases mem_of_mem_putSlot he with rfl | he
    · subst hr
      exact hlive
    · exact h.pins e he
  clear e he := by
    rcases mem_of_mem_putSlot he with rfl | he
    · exact fun _ _ => hstate
    · exact h.clear e he

theorem cardTable (h : Holders t held o) {free : Prop} (hfree : free → ∀ n, held n ≠ some p)
    (ht : CardTable p free t t') : Holders t' held o := by
  have hstate : ∀ r r', CardWrite p free r r' → r'.state = r.state ∨ r'.state.rides ∨ ∀ n, held n ≠ some r.pass := by
    intro r r' hw
    rcases hw.state with hs | ⟨rfl, hf⟩
    · exact .inl hs
    · exact .inr (.inr (hfree hf))
  cases ht with
  | found ht => exact h.write ht (fun _ _ hw => hw.pass) (fun _ _ hw => hw.live) hstate
  | @learned k now q h0 hf hn hplace ht =>
    have hnew := h.create h0 hn hplace (r := newRecord p .learned .active none now) rfl
      (fun n => by simpa [newRecord] using hfree hf n) (.inl rfl)
    exact hnew.write ht (fun _ _ hw => hw.pass) (fun _ _ hw => hw.live) hstate

/-- The refund engine's writes (R15, R137, R146). -/
theorem refundWrite (h : Holders t held o) (ht : EachRecord (RefundWrite o) t t') (ho : o' = none ∨ o' = o) :
    Holders t' held o' := by
  have hwritten : Holders t' held o := by
    refine h.write ht (fun _ _ hw => hw.pass) (fun _ _ hw => hw.live) fun r r' hw => ?_
    rcases hw.state with hs | hs | hs
    · exact .inl hs
    · exact .inr (.inl hs)
    · exact .inr (.inr fun n hn => h.refund n _ hn hs)
  rcases ho with rfl | rfl
  · exact hwritten.setRefund fun _ _ _ => nofun
  · exact hwritten

/-- A lane's writes that end no pin. -/
theorem laneWrite (h : Holders t held o) (ht : EachRecord (LaneWrite n none) t t') : Holders t' held o :=
  h.write ht (fun _ _ hw => hw.pass) (fun _ _ hw => by simpa using hw.live) fun _ _ hw => .inl hw.state

/-- A lane's context ends with its pin (R12, R87). -/
theorem leave (h : Holders t held o) (ht : EachRecord (LaneWrite n (held n)) t t')
    (hunpinned : ∀ e ∈ t', held n = some e.2.pass → e.2.live ≠ some n) :
    Holders t' (Function.update held n none) o where
  form := ht.form (fun _ _ hw => hw.pass) h.form
  apart a b p hab ha hb := by
    by_cases han : a = n
    · subst han
      simp at ha
    · by_cases hbn : b = n
      · subst hbn
        simp at hb
      · rw [Function.update_of_ne han] at ha
        rw [Function.update_of_ne hbn] at hb
        exact h.apart a b p hab ha hb
  refund m p hm := by
    by_cases hmn : m = n
    · subst hmn
      simp at hm
    · rw [Function.update_of_ne hmn] at hm
      exact h.refund m p hm
  pins e' he' m := by
    obtain ⟨e, he, _, hw⟩ := ht.mem_right he'
    have hpins := h.pins e he
    have hpass := hw.pass
    by_cases hmn : m = n
    · subst hmn
      simp only [Function.update_self, reduceCtorEq, iff_false]
      intro hlive
      rcases hw.live with hsame | ⟨_, _, hended⟩
      · have hheld := (hpins m).mp (hsame ▸ hlive)
        exact hunpinned e' he' (hpass ▸ hheld) hlive
      · simp [hended] at hlive
    · rw [Function.update_of_ne hmn, hpass, ← hpins m]
      rcases hw.live with hsame | ⟨_, hold, hended⟩
      · rw [hsame]
      · simp [hold, hended, Ne.symm hmn]
  clear e' he' m hm := by
    obtain ⟨e, he, _, hw⟩ := ht.mem_right he'
    by_cases hmn : m = n
    · subst hmn
      simp at hm
    · rw [Function.update_of_ne hmn, hw.pass] at hm
      rw [hw.state]
      exact h.clear e he m hm

/-- A context of a free pass begins, and its record takes the pin (R12, R68). -/
theorem begin (h : Holders t held o) (hfree : ∀ m, held m ≠ some p) (hn : held n = none) (ho : o ≠ some p)
    (hclear : ∀ e ∈ t, e.2.pass = p → e.2.state.rides) :
    Holders (updateRecord t p fun r => { r with live := some n }) (Function.update held n (some p)) o where
  form := h.form.updateRecord p _ fun _ => rfl
  apart a b x hab ha hb := by
    by_cases han : a = n
    · subst han
      rw [Function.update_self] at ha
      rw [Function.update_of_ne (Ne.symm hab), ← ha] at hb
      exact hfree b hb
    · rw [Function.update_of_ne han] at ha
      by_cases hbn : b = n
      · subst hbn
        rw [Function.update_self] at hb
        exact hfree a (ha.trans hb.symm)
      · rw [Function.update_of_ne hbn] at hb
        exact h.apart a b x hab ha hb
  refund m x hm := by
    by_cases hmn : m = n
    · subst hmn
      rw [Function.update_self] at hm
      exact hm ▸ ho
    · rw [Function.update_of_ne hmn] at hm
      exact h.refund m x hm
  pins e' he' m := by
    obtain ⟨e, he, rfl⟩ := mem_updateRecord.mp he'
    have hpins := h.pins e he m
    split
    · next hrec =>
      have hpass := ((isRecordOf_iff p e).mp hrec).2
      by_cases hmn : m = n
      · subst hmn
        simp [hpass]
      · rw [Function.update_of_ne hmn]
        simp [hpass, hfree m, Ne.symm hmn]
    · next hrec =>
      have hpass : e.2.pass ≠ p := fun hp => hrec ((isRecordOf_iff p e).mpr ⟨hp ▸ (h.form.2.1 e he).2.1, hp⟩)
      by_cases hmn : m = n
      · subst hmn
        rw [hpins, hn]
        simp [Ne.symm hpass]
      · rw [Function.update_of_ne hmn]
        exact hpins
  clear e' he' m hm := by
    obtain ⟨e, he, rfl⟩ := mem_updateRecord.mp he'
    split at hm
    · next hrec =>
      rw [if_pos hrec]
      exact hclear e he ((isRecordOf_iff p e).mp hrec).2
    · next hrec =>
      have hpass : e.2.pass ≠ p := fun hp => hrec ((isRecordOf_iff p e).mpr ⟨hp ▸ (h.form.2.1 e he).2.1, hp⟩)
      rw [if_neg hrec]
      by_cases hmn : m = n
      · subst hmn
        rw [Function.update_self] at hm
        exact absurd (Option.some.inj hm).symm hpass
      · rw [Function.update_of_ne hmn] at hm
        exact h.clear e he m hm

end Holders
end Sys2Proof.Machine

namespace Sys2Proof.Machine

/-! ## The two laws on the books -/

structure Books.Riders (b : Books) : Prop where
  places : Places b.live b.queue b.seat
  holders : Holders b.table (fun n => (b.seat n).pass) b.ctx.pass

theorem Passage.stage_isLive (x : Passage) : x.stage.isLive = x.isLive := by cases x <;> rfl

theorem Passage.stage_eq_queued (x : Passage) : x.stage = .queued ↔ x = .queued := by cases x <;> simp [Passage.stage]

theorem Passage.stage_eq_idle (x : Passage) : x.stage = .idle ↔ x = .idle := by cases x <;> simp [Passage.stage]

theorem State.liveSeats_books (s : State) : liveSeats s.books.seat = s.liveLanes := by
  simp [liveSeats, State.liveLanes, LaneUnit.seat, Passage.stage_isLive]

theorem State.releaseAgrees_iff (s : State) :
    s.releaseAgrees ↔ Places s.books.live s.books.queue s.books.seat := by
  have hqueued : ∀ n, (s.books.seat n).stage = .queued ↔ (s.lane n).passage = .queued :=
    fun n => Passage.stage_eq_queued _
  have hseated : ∀ n, ((s.books.seat n).ctx.isSome = true ↔ (s.books.seat n).stage ≠ .idle) ↔
      ((s.lane n).ctx.isSome = true ↔ (s.lane n).passage ≠ .idle) := fun n => by
    simp [LaneUnit.seat, Passage.stage_eq_idle]
  constructor
  · rintro ⟨hlive, hnodup, hq, hs⟩
    exact ⟨by rw [s.liveSeats_books]; exact hlive, hnodup, fun n => (hq n).trans (hqueued n).symm,
      fun n => (hseated n).mpr (hs n)⟩
  · rintro ⟨hlive, hnodup, hq, hs⟩
    exact ⟨by rw [← s.liveSeats_books]; exact hlive, hnodup, fun n => (hq n).trans (hqueued n),
      fun n => (hseated n).mp (hs n)⟩

/-- Over a table in its form, riders are clear of refunds exactly when each record that a context holds is. -/
theorem State.ridersClear_iff {s : State} (ht : TableForm s.table) :
    s.ridersClear ↔ ∀ e ∈ s.table, ∀ n, s.ctxPass n = some e.2.pass → e.2.state.rides := by
  constructor
  · exact fun h e he n hn => h n _ e.2 hn (findRecord_of_mem ht he)
  · intro h n p r hn hr
    obtain ⟨k, hmem, rfl⟩ := findRecord_mem hr
    exact h _ hmem n hn

theorem State.admissionAgrees_iff (s : State) : s.admissionAgrees ↔ s.books.Riders := by
  have hheld : (fun n => (s.books.seat n).pass) = s.ctxPass := funext s.seat_pass
  constructor
  · rintro ⟨hform, hrelease, ⟨hapart, hrefund⟩, hpins, hclear⟩
    refine ⟨s.releaseAgrees_iff.mp hrelease, ?_⟩
    rw [hheld]
    exact ⟨hform, hapart, hrefund, hpins, (State.ridersClear_iff hform).mp hclear⟩
  · rintro ⟨hplaces, hholders⟩
    rw [hheld] at hholders
    obtain ⟨hform, hapart, hrefund, hpins, hclear⟩ := hholders
    exact ⟨hform, s.releaseAgrees_iff.mpr hplaces, ⟨hapart, hrefund⟩, hpins, (State.ridersClear_iff hform).mpr hclear⟩

/-- The passes held after one seat is taken anew. -/
theorem pass_update (seat : Lane → Seat) (n : Lane) (x : Seat) :
    (fun m => (Function.update seat n x m).pass) = Function.update (fun m => (seat m).pass) n x.pass := by
  funext m
  by_cases hmn : m = n
  · subst hmn
    simp
  · rw [Function.update_of_ne hmn, Function.update_of_ne hmn]

/-- A grant leaves the pass of the seat. -/
theorem pass_update_grant (seat : Lane → Seat) (n : Lane) :
    (fun m => (Function.update seat n (seat n).grant m).pass) = fun m => (seat m).pass := by
  rw [pass_update]
  exact Function.update_eq_self n fun m => (seat m).pass

namespace State

variable {s t : State} {n : Lane}

/-! ## A lane's release -/

theorem grantHead_riders {e : QueueEntry} {q : List QueueEntry} (hq : s.load.queue = e :: q) (h : s.books.Riders) :
    (s.grantHead e.lane).books.Riders := by
  have hplaces := h.places
  rw [s.grantHead_books]
  simp only [books_queue, hq] at hplaces
  refine ⟨?_, ?_⟩
  · simpa [hq] using hplaces.grantHead
  · simpa only [pass_update_grant] using h.holders.laneWrite (s.grantHead_records e.lane)

theorem stage_of_inQueue (h : s.books.Riders) (hn : s.inQueue n = true) : (s.books.seat n).stage = .queued := by
  refine (h.places.queued n).mp ?_
  simpa [inQueue] using hn

/-- A lane's context ends: its pin goes with it. -/
theorem endContext_holders (h : Holders s.table (fun m => (s.books.seat m).pass) s.refund.ctx.pass) (n : Lane) :
    Holders (s.endContext n).table (fun m => (Function.update s.books.seat n .empty m).pass) s.refund.ctx.pass := by
  have hpass : (s.books.seat n).pass = s.ctxPass n := s.seat_pass n
  rw [pass_update]
  refine h.leave ?_ fun e he hheld => ?_
  · rw [hpass]
    exact s.endContext_records n
  · exact s.endContext_unpinned n h.form (hpass ▸ hheld) he rfl

theorem dropEntry_riders (hn : s.inQueue n = true) (r : WithdrawReason) (h : s.books.Riders) :
    (s.dropEntry n r).books.Riders := by
  have hended := (s.withLoad fun l =>
    { l with queue := l.queue.filter fun e => e.lane != n
             handed := l.handed.filter fun h => h.lane != n }).endContext_holders h.holders n
  have htable : (s.dropEntry n r).table = ((s.withLoad fun l =>
    { l with queue := l.queue.filter fun e => e.lane != n
             handed := l.handed.filter fun h => h.lane != n }).endContext n).table := by
    simp [dropEntry]
  rw [s.dropEntry_books, htable]
  exact ⟨h.places.drop (stage_of_inQueue h hn), hended⟩

theorem leave_riders (hn : (s.lane n).passage.isLive = true) (h : s.books.Riders) :
    ((s.endContext n).withLoad fun l => { l with live := l.live - 1 }).books.Riders := by
  have hbooks : ((s.endContext n).withLoad fun l => { l with live := l.live - 1 }).books =
      { (s.endContext n).books with live := (s.endContext n).books.live - 1 } := rfl
  have hlive : (s.books.seat n).stage.isLive = true := (Passage.stage_isLive _).trans hn
  rw [hbooks, s.endContext_books]
  exact ⟨h.places.endGrant hlive, s.endContext_holders h.holders n⟩

theorem completeGrant_riders (hn : (s.lane n).passage = .entering) (h : s.books.Riders) :
    (s.completeGrant n).books.Riders := by
  obtain ⟨t, ht, hb⟩ := s.completeGrant_eq_books n
  have hlive : (s.books.seat n).stage.isLive = true := (Passage.stage_isLive _).trans (by rw [hn]; rfl)
  have hwritten := h.holders.laneWrite (s.passageWritten_records n)
  have hholders : Holders t.table (fun m => (t.books.seat m).pass) t.refund.ctx.pass := by
    rw [← books_table t, ← books_ctx t, hb]
    exact hwritten
  have hended := t.endContext_holders hholders n
  rw [← books_ctx t, hb] at hended
  rw [s.completeGrant_books, ht]
  exact ⟨h.places.endGrant hlive, hended⟩

/-- An idle lane whose context has begun asks for its release, and is granted or queued (R68, R97, R111). -/
theorem requestRelease_riders {u : State} {o : Option PassNo} (h : s.books.Riders) (hn : (s.lane n).passage = .idle)
    (hb : u.books = { s.books with
      table := u.table, seat := Function.update s.books.seat n { stage := .idle, ctx := some o } })
    (hu : Holders u.table (Function.update (fun m => (s.books.seat m).pass) n o) s.refund.ctx.pass) (p : PassNo)
    (cls : Nat) : (u.requestRelease n p cls).books.Riders := by
  have hidle : (s.books.seat n).stage = .idle := (Passage.stage_eq_idle _).mpr hn
  have hseat : (u.books.seat n) = { stage := .idle, ctx := some o } := by rw [hb]; simp
  rcases u.requestRelease_books n p cls with hgrant | ⟨e, rfl, hqueue⟩
  · have hbooks : (u.grant n).books = { s.books with
        table := (u.grant n).table, live := s.load.live + 1
        seat := Function.update s.books.seat n { stage := .granted, ctx := some o } } := by
      have hlive : u.load.live = s.load.live := congrArg Books.live hb
      rw [u.grant_books, hseat, hlive, hb]
      simp [Seat.grant]
    rw [hgrant, hbooks]
    refine ⟨h.places.grantIdle hidle o, ?_⟩
    simp only [pass_update]
    exact hu.laneWrite (u.grant_records n)
  · have hbooks : (u.requestRelease e.lane p cls).books = { s.books with
        table := u.table, queue := enqueue e s.load.queue
        seat := Function.update s.books.seat e.lane { stage := .queued, ctx := some o } } := by
      have hq : u.load.queue = s.load.queue := congrArg Books.queue hb
      rw [hqueue, hseat, hq, hb]
      simp
    rw [hbooks]
    refine ⟨h.places.enqueueIdle hidle o, ?_⟩
    simp only [pass_update]
    exact hu

theorem ctxPass_none_of_idle (h : s.books.Riders) (hn : (s.lane n).passage = .idle) : (s.books.seat n).pass = none := by
  have hidle : (s.books.seat n).stage = .idle := (Passage.stage_eq_idle _).mpr hn
  rw [Seat.pass, h.places.ctx_none hidle]
  rfl

theorem beginContext_seat (hn : (s.lane n).passage = .idle) (c : Context) (note : Note) :
    (s.beginContext n c note).books =
      { s.books with seat := Function.update s.books.seat n { stage := .idle, ctx := some c.pass } } := by
  have hidle : (s.books.seat n).stage = .idle := (Passage.stage_eq_idle _).mpr hn
  have hseat : ({ (s.books.seat n) with ctx := some c.pass } : Seat) = { stage := .idle, ctx := some c.pass } := by
    rw [← hidle]
  rw [beginContext_books, hseat]

theorem manualGrant_riders (hn : (s.lane n).passage = .idle) (h : s.books.Riders) : (s.manualGrant n).books.Riders := by
  obtain ⟨c, note, hpass, hbooks⟩ := s.manualGrant_eq n
  rw [hbooks]
  refine requestRelease_riders (o := none) h hn ?_ ?_ 0 0
  · rw [beginContext_seat hn, hpass]
    rfl
  · have hnone : Function.update (fun m => (s.books.seat m).pass) n none = fun m => (s.books.seat m).pass := by
      rw [← ctxPass_none_of_idle h hn]
      exact Function.update_eq_self n fun m => (s.books.seat m).pass
    rw [hnone]
    exact h.holders

/-- A pass that no context holds is seated at an idle lane (R68). -/
theorem seatPass_riders (h : s.books.Riders) (hn : (s.lane n).passage = .idle) {c : Context} {p : PassNo}
    (hc : c.pass = some p) (hfree : ∀ m, (s.books.seat m).pass ≠ some p) (ho : s.refund.ctx.pass ≠ some p)
    (hclear : ∀ e ∈ s.table, e.2.pass = p → e.2.state.rides) (note : Note) (cls : Nat) :
    (s.seatPass n c note p cls).books.Riders := by
  refine requestRelease_riders (o := some p) h hn ?_ ?_ p cls
  · rw [updateRecord_books, beginContext_seat hn, hc]
    rfl
  · exact h.holders.begin hfree (ctxPass_none_of_idle h hn) ho hclear

/-! ## The refund engine -/

theorem riders_of_refundMoves (h : s.books.Riders) (hm : s.RefundMoves t) : t.books.Riders := by
  have hseat : t.books.seat = s.books.seat := by
    funext m
    simp [lane, hm.lanes]
  refine ⟨?_, ?_⟩
  · rw [hseat, books_live, books_queue, hm.load]
    exact h.places
  · rw [hseat]
    exact h.holders.refundWrite hm.records hm.ctx

/-! ## Records that come and go -/

theorem ctxPass_ne_of_holderOf {p : PassNo} (h : s.holderOf p = none) (m : Lane) : (s.books.seat m).pass ≠ some p := by
  have hall := List.find?_eq_none.mp h m (by cases m <;> simp [Lane.all])
  intro hm
  have hm : s.ctxPass m = some p := (s.seat_pass m).symm.trans hm
  unfold laneHolds at hall
  unfold ctxPass at hm
  cases hc : (s.lane m).ctx with
  | none => simp [hc] at hm
  | some c => simp_all

theorem laneHolds_iff (s : State) (m : Lane) (p : PassNo) : s.laneHolds m p = true ↔ (s.books.seat m).pass = some p := by
  have hpass : (s.books.seat m).pass = s.ctxPass m := s.seat_pass m
  rw [hpass]
  unfold laneHolds ctxPass
  cases (s.lane m).ctx <;> simp

/-- The lane that a look over the lanes finds is the one whose context holds the pass. -/
theorem holderOf_eq_some_iff (h : s.books.Riders) (p : PassNo) (m : Lane) :
    s.holderOf p = some m ↔ (s.books.seat m).pass = some p := by
  constructor
  · exact fun hf => (s.laneHolds_iff m p).mp (List.find?_some (p := fun n => s.laneHolds n p) hf)
  · intro hm
    cases hf : s.holderOf p with
    | none => exact absurd hm (ctxPass_ne_of_holderOf hf m)
    | some k =>
      have hk := (s.laneHolds_iff k p).mp (List.find?_some (p := fun n => s.laneHolds n p) hf)
      by_contra hne
      exact h.holders.apart k m p (fun heq => hne (by rw [heq])) hk hm

theorem riders_of_table {u : PassTable} (h : s.books.Riders) (hb : t.books = { s.books with table := u })
    (hu : Holders u (fun m => (s.books.seat m).pass) s.refund.ctx.pass) : t.books.Riders := by
  rw [hb]
  exact ⟨h.places, hu⟩

theorem editedState_rides {st : Standing} {x y : RecState} (hx : x.rides) (h : editedState st x = some y) : y.rides := by
  rcases hx with rfl | rfl <;> cases h <;> exact st.toState_rides

theorem editPass_riders (h : s.books.Riders) (p : PassNo) (st : Standing) (create : Bool) :
    (editPass p st create s).state.books.Riders := by
  obtain ⟨htable, hbooks⟩ := editPass_table p st create s
  refine riders_of_table h hbooks ?_
  revert htable
  generalize (editPass p st create s).state.table = u
  have hform : TableForm s.table := h.holders.form
  rintro (_ | ⟨hfound, hx⟩ | ⟨h0, hn, hplace⟩)
  · exact h.holders
  · next k r x =>
    have hmem := (findPass_spec hfound).1
    refine h.holders.write (R := fun r r' => r'.pass = r.pass ∧ r'.live = r.live ∧
        (r'.state = r.state ∨ r'.state.rides ∨ ∀ n, (s.books.seat n).pass ≠ some r.pass))
      (EachRecord.update (fun r => ⟨rfl, rfl, .inl rfl⟩) fun e he hrec => ⟨rfl, rfl, .inr ?_⟩)
      (fun _ _ hw => hw.1) (fun _ _ hw => hw.2.1) (fun _ _ hw => hw.2.2)
    obtain rfl := eq_of_isRecordOf hform hfound he hrec
    by_cases hheld : ∃ n, (s.books.seat n).pass = some r.pass
    · obtain ⟨n, hn⟩ := hheld
      exact .inl (editedState_rides (h.holders.clear _ hmem n hn) hx)
    · exact .inr (not_exists.mp hheld)
  · exact h.holders.create h0 hn hplace rfl (holderOf_eq_some_iff h p) st.toState_rides

theorem passEraseBlock_riders (h : s.books.Riders) (p : PassNo) : (passEraseBlock p s).state.books.Riders := by
  rcases passEraseBlock_books p s with hsame | ⟨_, _, _, _, hbooks⟩
  · exact hsame ▸ h
  · exact riders_of_table h hbooks (h.holders.filter _)

theorem clearLearnedBlock_riders (h : s.books.Riders) : (clearLearnedBlock s).state.books.Riders :=
  riders_of_table h (clearLearnedBlock_books s) (h.holders.filter _)

/-! ## Card answers and start-ups -/

theorem names_iff (c : RefundCtx) (p : PassNo) : c.names p = true ↔ c.pass = some p := by
  cases c with
  | reading d => cases d <;> simp [RefundCtx.names, RefundCtx.pass]
  | _ => simp [RefundCtx.names, RefundCtx.pass]

/-- A pass held at no other lane is held at no lane, where its own lane has no context. -/
theorem free_of_not_heldElsewhere {p : PassNo} (hn : (s.books.seat n).pass = none)
    (h : s.heldElsewhere n p = false) (m : Lane) : (s.books.seat m).pass ≠ some p := by
  by_cases hmn : m = n
  · rw [hmn, hn]
    exact nofun
  · intro hm
    have hall : ∀ k ∈ Lane.all, (k != n && s.laneHolds k p) = false := by
      simpa [heldElsewhere] using h
    have hm := (s.laneHolds_iff m p).mpr hm
    have := hall m (by cases m <;> simp [Lane.all])
    simp [hm, hmn] at this

/-- The checks that need no rule let pass what may take a lane: a record neither HELD nor REFUNDED, of a pass that
neither the refund context nor another lane names (R67, Table 3-3). -/
theorem earlyRefusal_none {c : Card} {b : Basis} (h : earlyRefusal s n c b = none) :
    (∀ r, b.record = some r → r.state.rides) ∧ s.refund.ctx.pass ≠ some c.pass ∧ s.heldElsewhere n c.pass = false := by
  unfold earlyRefusal at h
  dsimp only at h
  split at h
  · cases h
  · split at h
    · cases h
    · next hrefunded =>
      split at h
      · cases h
      · split at h
        · cases h
        · next hheld =>
          split at h
          · cases h
          · next helse =>
            simp only [Bool.or_eq_true, not_or, Bool.not_eq_true] at hrefunded hheld
            refine ⟨fun r hr => ?_, fun ho => ?_, by simpa using helse⟩
            · rw [hr] at hrefunded hheld
              cases hs : r.state with
              | active => exact .inl rfl
              | blocked => exact .inr rfl
              | held x => simp [hs, recHeld] at hheld
              | refunded => simp [hs] at hrefunded
            · rw [(names_iff _ _).mpr ho] at hheld
              simp at hheld

theorem scanAnswer_riders (h : s.books.Riders) (n : Lane) {c : Card} (hc : c.ticketOk = true → c.pass ≠ 0) :
    (s.scanAnswer n c).books.Riders := by
  rcases s.scanAnswer_books n c with hsame | ⟨hidle, hadm⟩
  · exact hsame ▸ h
  · rw [hadm]
    rcases s.admission_cases n c hc with hsame | ⟨t, hbooks, hlanes, hrefund, htable, hend⟩
    · exact hsame ▸ h
    · have hfree := free_of_not_heldElsewhere (p := c.pass) (ctxPass_none_of_idle h hidle)
      have ht : t.books.Riders := riders_of_table h hbooks (h.holders.cardTable hfree htable)
      rcases hend with hsame | ⟨b, ctx, note, cls, hrecord, hearly, hpass, hseat⟩
      · exact hsame ▸ ht
      · obtain ⟨hclear, hrefund, helse⟩ := earlyRefusal_none hearly
        have hidle : (t.lane n).passage = .idle := by rw [lane, hlanes]; exact hidle
        rw [hseat]
        refine seatPass_riders ht hidle hpass
          (free_of_not_heldElsewhere (ctxPass_none_of_idle ht hidle) helse) hrefund (fun e he hp => ?_) note cls
        refine hclear e.2 (hrecord.trans ?_)
        rw [← hp]
        exact findRecord_of_mem ht.holders.form he

theorem serviceReadAnswered_riders (h : s.books.Riders) {c : Card} (hc : c.ticketOk = true → c.pass ≠ 0) :
    (s.serviceReadAnswered c).books.Riders := by
  rcases s.serviceReadAnswered_cases c with hsame | ⟨_, hans⟩
  · rwa [hsame]
  · obtain ⟨rd, _, _, t, ht, hend⟩ := (s.withReader fun d => { d with slot := none }).quoteCard_ends c hc
    have hseat : t.books.seat = s.books.seat := by
      funext m
      simp [lane, ht.lanes]
    have hload : t.load = s.load := ht.load
    have hctx : t.refund.ctx.pass = some rd.pass := by rw [ht.refund, RefundCtx.pass]
    have hfree : s.holderOf rd.pass = none → ∀ m, (s.books.seat m).pass ≠ some rd.pass := ctxPass_ne_of_holderOf
    have hholders := h.holders.cardTable hfree ht.table
    have hplaces : Places t.load.live t.load.queue s.books.seat := by
      rw [hload]
      exact h.places
    rw [hans]
    rcases hend with ⟨res, body, hend⟩ | ⟨hnone, b, r, tf, _, hend⟩
    · rw [hend]
      have hrefused : (t.refuseQuote res body).books = { t.books with ctx := .idle } := by
        rw [refuseQuote, completeLong_books]
        rfl
      rw [hrefused]
      refine ⟨hseat ▸ hplaces, ?_⟩
      simp only [hseat]
      exact hholders.setRefund fun _ _ _ => nofun
    · rw [hend]
      refine riders_of_refundMoves ⟨hseat ▸ hplaces, ?_⟩ (quoteRecord_moves hctx c b r tf)
      simp only [hseat, books_ctx, hctx]
      exact hholders.setRefund fun n p hn hp => hfree hnone n (hn.trans hp.symm)

theorem startUp_riders (h : s.books.Riders) (cause : StartCause) (selected : PerPort Bool) :
    (s.startUp cause selected).books.Riders := by
  rw [s.startUp_books]
  refine ⟨⟨by simp [liveSeats_eq_sum, Passage.isLive], by simp, by simp, by simp⟩, ?_⟩
  have hempty : ∀ t : PassTable, TableForm t → (∀ e ∈ t, e.2.live = none) →
      Holders t (fun _ => none) RefundCtx.idle.pass := fun t ht hlive =>
    ⟨ht, nofun, nofun, fun e he n => by simp [hlive e he], fun _ _ _ => nofun⟩
  cases s.supply.checkValid with
  | true =>
    have hkept : EachRecord (fun r r' => r'.pass = r.pass) s.table (s.table.map fun e => (e.1, warmRecord e.2)) :=
      List.forall₂_map_right_iff.mpr (List.forall₂_same.mpr fun e _ => ⟨rfl, rfl⟩)
    refine hempty _ (hkept.form (fun _ _ hw => hw) h.holders.form) fun e he => ?_
    obtain ⟨x, _, rfl⟩ := List.mem_map.mp he
    rfl
  | false => exact hempty [] ⟨.nil, by simp, .nil⟩ (by simp)

end State

/-- The laws of lanes and records are kept by every operation. -/
theorem riders_law {b : Books} (hb : b.Riders) : Law b fun s => s.books.Riders where
  start _ h := h ▸ hb
  same _ _ h hs := h ▸ hs
  grantHead _ _ _ hq hs := State.grantHead_riders hq hs
  dropEntry _ _ r hn hs := State.dropEntry_riders hn r hs
  leave _ _ hn hs := State.leave_riders hn hs
  complete _ _ hn hs := State.completeGrant_riders hn hs
  manual _ _ hn hs := State.manualGrant_riders hn hs
  clearBehind s q hs := State.riders_of_refundMoves hs (s.clearBehind_moves q)
  serviceEnd s hs := State.riders_of_refundMoves hs s.endPendingWork_moves
  readMissed s hs := State.riders_of_refundMoves hs s.serviceReadMissed_moves
  serviceStamp s o frame hs := State.riders_of_refundMoves hs (s.settleServiceStamp_moves o frame)
  quote s hs := State.riders_of_refundMoves hs (refundQuoteBlock_moves s)
  commit s k hs := State.riders_of_refundMoves hs (refundCommitBlock_moves k s)
  endHold s q e _ hs := State.riders_of_refundMoves hs (s.endHold_moves q e)
  remove s k hs := State.riders_of_refundMoves hs (journalRemoveBlock_moves k s)
  edit _ p st create h := State.editPass_riders (h ▸ hb) p st create
  erase _ p h := State.passEraseBlock_riders (h ▸ hb) p
  clear _ h := State.clearLearnedBlock_riders (h ▸ hb)
  scan _ n _ hc h := State.scanAnswer_riders (h ▸ hb) n hc
  answered _ _ hc h := State.serviceReadAnswered_riders (h ▸ hb) hc
  startUp _ cause selected h := State.startUp_riders (h ▸ hb) cause selected

/-- Settles O56, through the law that every operation keeps the laws of lanes and records. -/
theorem everyStepKeepsLanesAndRecordsTogether : Obligations.EveryStepKeepsLanesAndRecordsTogether := by
  intro s t hs h
  exact t.admissionAgrees_iff.mpr ((riders_law (s.admissionAgrees_iff.mp hs)).step rfl h)

end Sys2Proof.Machine

/-! # The orders of the pass table and the reads (O13, O14, O15, O19) -/

namespace Sys2Proof.Machine

/-- An order whose block answers it at the taking. -/
theorem takeOrder_answered {p : Port} {code : Byte} {rights : Rights} {block : State → Answer} {s t : State}
    {res : Result} {body : Body} (h : s.portOpen p = true) (hr : rights = true)
    (hb : block (s.taken p) = ⟨t, some (res, body)⟩) :
    (Host.Outcome.next (takeOrder p code .raised rights block s) : Host.Outcome State Fault Refusal) =
      .next (t.answered p code res body) := by
  rw [takeOrder_replied _ _ _ _ _ _ _ _ _ h hr hb, State.replyNow_raised]

/-! ## PASS PUT, PASS BLOCK, PASS UNBLOCK -/

theorem standingOf_code (st : Standing) : standingOf st.code = some st := by cases st <;> rfl

theorem standingOf_above {b : Byte} (h : 1 < b.toNat) : standingOf b = none := by
  unfold standingOf
  split
  · omega
  · omega
  · rfl

theorem editPass_zero (st : Standing) (create : Bool) (s : State) : editPass 0 st create s = refuseWith s .badArg := rfl

theorem editPass_placed (s : State) {p : PassNo} {k : Nat} {evicted : PassNo} (h0 : p ≠ 0)
    (hn : findPass s.table p = none) (hplace : placeFor s.table p = some (k, evicted)) (st : Standing) :
    editPass p st true s = answerOk
      ((s.withTable fun t => putSlot t k (newRecord p .resident st (s.holderOf p) s.time.runSec)).handBlocked p st)
      (.passEdit true (k / 4) (k % 4) evicted) := by
  simp only [editPass, if_neg h0, hn, hplace, Bool.not_true, Bool.false_eq_true, if_false]

theorem editPass_full (s : State) {p : PassNo} (h0 : p ≠ 0) (hn : findPass s.table p = none)
    (hplace : placeFor s.table p = none) (st : Standing) : editPass p st true s = refuseWith s .tableFull := by
  simp only [editPass, if_neg h0, hn, hplace, Bool.not_true, Bool.false_eq_true, if_false]

theorem editPass_unknown (s : State) {p : PassNo} (h0 : p ≠ 0) (hn : findPass s.table p = none) (st : Standing) :
    editPass p st false s = refuseWith s .notFound := by
  simp only [editPass, if_neg h0, hn, Bool.not_false, if_true]

theorem editPass_present (s : State) {p : PassNo} {k : Nat} {r : PassRecord} {x : RecState} {st : Standing}
    (h0 : p ≠ 0) (hfound : findPass s.table p = some (k, r)) (hx : editedState st r.state = some x) (create : Bool) :
    editPass p st create s = answerOk
      ((s.updateRecord p fun r => { r with state := x, origin := .resident }).handBlocked p st)
      (.passEdit false (k / 4) (k % 4) 0) := by
  simp only [editPass, if_neg h0, hfound, hx]

theorem editPass_refunded (s : State) {p : PassNo} {k : Nat} {r : PassRecord} {st : Standing} (h0 : p ≠ 0)
    (hfound : findPass s.table p = some (k, r)) (hr : r.state = .refunded) (create : Bool) :
    editPass p st create s = refuseWith s .state := by
  simp only [editPass, if_neg h0, hfound, hr, editedState]

/-- An edit reaches a HELD record's prior state, and the state of any other record that is not REFUNDED (R21). -/
theorem editedState_of_open (st : Standing) {x : RecState} (h : x ≠ .refunded) :
    editedState st x = some (if recHeld x then .held st else st.toState) := by
  cases x with
  | refunded => exact absurd rfl h
  | _ => rfl

theorem passPutBlock_code (p : PassNo) (st : Standing) (s : State) :
    passPutBlock p st.code s = editPass p st true s := by
  simp [passPutBlock, standingOf_code]

theorem passPutBlock_badArg {p : PassNo} {b : Byte} (h : p = 0 ∨ 1 < b.toNat) (s : State) :
    passPutBlock p b s = refuseWith s .badArg := by
  unfold passPutBlock
  rcases h with rfl | h
  · split <;> rfl
  · rw [standingOf_above h]

/-- What a block hands over, and what it does not (R23). -/
theorem State.handBlocked_blocked (s : State) (p : PassNo) :
    (∀ n, s.holderOf p = some n → (s.lane n).passage = .queued →
      s.handBlocked p .blocked = s.handWithdrawal n .blocked) ∧
    (∀ n, s.holderOf p = some n → (s.lane n).passage ≠ .queued → s.handBlocked p .blocked = s) ∧
    (s.holderOf p = none → s.handBlocked p .blocked = s) :=
  ⟨fun n hn hq => by simp [State.handBlocked, hn, hq], fun n hn hq => by simp [State.handBlocked, hn, hq],
    fun hn => by simp [State.handBlocked, hn]⟩

/-- Settles O13, by the cases of an edit. -/
theorem stationEditsSetTheState : Obligations.StationEditsSetTheState := by
  refine ⟨fun q b s h => ⟨fun hbad => ?_, ?_, ?_⟩, fun p st s h h0 hn => ⟨fun k evicted hplace => ⟨?_, ?_⟩, ?_, ?_⟩,
    fun p k r st s h h0 hfound => ⟨fun hopen => ?_, fun hr => ⟨?_, ?_, ?_⟩⟩, fun p s => ⟨rfl, s.handBlocked_blocked p⟩⟩
  · exact takeOrder_answered h rfl (passPutBlock_badArg hbad _)
  · exact takeOrder_answered h rfl (editPass_zero _ _ _)
  · exact takeOrder_answered h rfl (editPass_zero _ _ _)
  · exact takeOrder_answered h rfl ((passPutBlock_code p st _).trans (editPass_placed (s.taken _) h0 hn hplace st))
  · rintro rfl
    exact takeOrder_answered h rfl (editPass_placed (s.taken _) h0 hn hplace .blocked)
  · exact fun hfull => ⟨takeOrder_answered h rfl
        ((passPutBlock_code p st _).trans (editPass_full (s.taken _) h0 hn hfull st)),
      takeOrder_answered h rfl (editPass_full (s.taken _) h0 hn hfull .blocked)⟩
  · exact takeOrder_answered h rfl (editPass_unknown (s.taken _) h0 hn .active)
  · have hx := fun st => editedState_of_open st hopen
    exact ⟨takeOrder_answered h rfl
        ((passPutBlock_code p st _).trans (editPass_present (s.taken _) h0 hfound (hx st) true)),
      takeOrder_answered h rfl (editPass_present (s.taken _) h0 hfound (hx .blocked) true),
      takeOrder_answered h rfl (editPass_present (s.taken _) h0 hfound (hx .active) false)⟩
  · exact takeOrder_answered h rfl ((passPutBlock_code p st _).trans (editPass_refunded (s.taken _) h0 hfound hr true))
  · exact takeOrder_answered h rfl (editPass_refunded (s.taken _) h0 hfound hr true)
  · exact takeOrder_answered h rfl (editPass_refunded (s.taken _) h0 hfound hr false)

/-! ## PASS ERASE, PASS CLEAR LEARNED -/

theorem passEraseBlock_absent (s : State) {p : PassNo} (h0 : p ≠ 0) (hn : findPass s.table p = none) :
    passEraseBlock p s = refuseWith s .notFound := by
  simp only [passEraseBlock, if_neg h0, hn]

theorem passEraseBlock_pinned (s : State) {p : PassNo} {k : Nat} {r : PassRecord} (h0 : p ≠ 0)
    (hfound : findPass s.table p = some (k, r)) (hr : r.pinned = true) :
    passEraseBlock p s = refuseWith s .pinned := by
  simp only [passEraseBlock, if_neg h0, hfound, hr, if_true]

theorem passEraseBlock_erased (s : State) {p : PassNo} {k : Nat} {r : PassRecord} (h0 : p ≠ 0)
    (hfound : findPass s.table p = some (k, r)) (hr : r.pinned = false) :
    passEraseBlock p s = answerOk (s.withTable fun t => t.filter fun e => !isRecordOf p e) .none := by
  simp only [passEraseBlock, if_neg h0, hfound, hr, Bool.false_eq_true, if_false]

theorem findPass_filter_self (t : PassTable) (p : PassNo) : findPass (t.filter fun e => !isRecordOf p e) p = none := by
  simp [findPass]

/-- The erased record's way becomes free, and the other entries stay (R24). -/
theorem mem_erased_iff {t : PassTable} (ht : TableForm t) {p : PassNo} {k : Nat} {r : PassRecord}
    (hfound : findPass t p = some (k, r)) (e : Nat × PassRecord) :
    e ∈ t.filter (fun e => !isRecordOf p e) ↔ e ∈ t ∧ e.1 ≠ k := by
  obtain ⟨hmem, hbucket, hpass⟩ := findPass_spec hfound
  have hnodup : (t.map (·.1)).Nodup := ht.1.imp fun h => Nat.ne_of_lt h
  simp only [List.mem_filter, Bool.not_eq_true', and_congr_right_iff]
  intro he
  constructor
  · intro hrec hk
    have heq : e = (k, r) := List.inj_on_of_nodup_map hnodup he hmem hk
    rw [heq, (isRecordOf_iff p _).mpr ⟨hbucket, hpass⟩] at hrec
    cases hrec
  · intro hne
    by_contra hrec
    exact hne (congrArg Prod.fst (eq_of_isRecordOf ht hfound he (by simpa using hrec)))

/-- Settles O14, by what a lookup of the pass finds. -/
theorem passEraseRemovesUnpinned : Obligations.PassEraseRemovesUnpinned := by
  refine ⟨fun s h => takeOrder_answered h rfl rfl, fun p s h h0 => ⟨fun hn => ?_, fun k r hfound hr => ?_,
    fun k r hfound hr => ⟨_, ?_, rfl, findPass_filter_self s.table p, fun ht => ?_⟩⟩⟩
  · exact takeOrder_answered h rfl (passEraseBlock_absent (s.taken _) h0 hn)
  · exact takeOrder_answered h rfl (passEraseBlock_pinned (s.taken _) h0 hfound hr)
  · exact takeOrder_answered h rfl (passEraseBlock_erased (s.taken _) h0 hfound hr)
  · exact ⟨fun e he => ((mem_erased_iff ht hfound e).mp he).2, fun e he hk => (mem_erased_iff ht hfound e).mpr ⟨he, hk⟩⟩

/-- The slots of a table in its form are distinct and below 4,096, so it has at most 4,096 entries. -/
theorem TableForm.length_le {t : PassTable} (ht : TableForm t) : t.length ≤ 4096 := by
  have hnodup : (t.map (·.1)).Nodup := ht.1.imp fun h => Nat.ne_of_lt h
  have hsub : t.map (·.1) ⊆ List.range 4096 := by
    intro k hk
    obtain ⟨e, he, rfl⟩ := List.mem_map.mp hk
    exact List.mem_range.mpr (ht.2.1 e he).1
  simpa using (hnodup.subperm hsub).length_le

theorem evictable_eq_decide (e : Nat × PassRecord) :
    e.2.evictable = (decide (e.2.origin = .learned) && !e.2.pinned) := by
  rw [PassRecord.evictable, beq_eq_decide]

/-- Settles O15: what PASS CLEAR LEARNED takes away is what may be evicted. -/
theorem clearLearnedKeepsResidentAndPinned : Obligations.ClearLearnedKeepsResidentAndPinned := by
  intro s h gone
  have hgone : (fun e : Nat × PassRecord => e.2.evictable) = gone := funext evictable_eq_decide
  refine ⟨?_, fun ht => (List.length_filter_le _ _).trans ht.length_le⟩
  have hblock : ∀ t, clearLearnedBlock t =
      ⟨t.withTable fun t => t.filter fun e => !gone e, some (.ok, .cleared (t.table.filter gone).length)⟩ := by
    intro t
    rw [← hgone]
    rfl
  exact takeOrder_answered h rfl (hblock _)

/-! ## PASS QUERY, TABLE STATUS, RULE QUERY, VERDICT FETCH -/

theorem ridesToday_eq (t : TimeUnit) (r : PassRecord) : ridesToday t r =
    match r.rides with
    | some g => if t.tod.isSome = true ∧ g.day = t.lastDay then g.count else 0
    | none => 0 := by
  unfold ridesToday
  cases r.rides with
  | none => rfl
  | some g =>
    cases t.tod with
    | none => simp
    | some x => simp

theorem passQueryBlock_absent (s : State) {p : PassNo} (h0 : p ≠ 0) (hn : findPass s.table p = none) :
    passQueryBlock p s = refuseWith s .notFound := by
  simp only [passQueryBlock, if_neg h0, hn]

theorem passQueryBlock_found (s : State) {p : PassNo} {k : Nat} {r : PassRecord} (h0 : p ≠ 0)
    (hfound : findPass s.table p = some (k, r)) :
    passQueryBlock p s = answerOk s (.passRecord (k / 4) (k % 4) r (ridesToday s.time r)) := by
  simp only [passQueryBlock, if_neg h0, hfound]

theorem tableStatusBlock_eq (s : State) : tableStatusBlock s =
    answerOk s (.tableStatus (s.table.filter fun e => decide (e.2.origin = .resident)).length
      (s.table.filter fun e => decide (e.2.origin = .learned)).length
      (s.table.filter fun e => e.2.pinned).length (fullBuckets s.table) s.counts.current.lift.learnFailures) := by
  simp only [tableStatusBlock, beq_eq_decide]

theorem ruleQueryBlock_rule {value : Nat} (h : value < 16) (s : State) :
    ruleQueryBlock 0 value s = answerOk s (.laneRule none s.adm.rules[value]) := by
  have hget : s.adm.rules[value]? = some s.adm.rules[value] := Vector.getElem?_eq_getElem h
  simp [ruleQueryBlock, hget]

theorem ruleQueryBlock_no_rule {value : Nat} (h : 16 ≤ value) (s : State) :
    ruleQueryBlock 0 value s = refuseWith s .badArg := by
  have hget : s.adm.rules[value]? = none := Vector.getElem?_eq_none h
  simp [ruleQueryBlock, hget]

theorem ruleQueryBlock_no_selector {selector : Byte} (h : 1 < selector.toNat) (value : Nat) (s : State) :
    ruleQueryBlock selector value s = refuseWith s .badArg := by
  unfold ruleQueryBlock
  split
  · omega
  · omega
  · rfl

theorem ruleQueryBlock_product_range {value : Nat} (h : 4095 < value) (s : State) :
    ruleQueryBlock 1 value s = refuseWith s .badArg := by
  simp [ruleQueryBlock, h]

theorem ruleQueryBlock_governing {value : Nat} (h : value ≤ 4095) (s : State) {i : Nat} {r : LaneRule}
    (hrule : governingRule s.adm.rules value = some (i, r)) :
    ruleQueryBlock 1 value s = answerOk s (.laneRule (some i) r) := by
  simp [ruleQueryBlock, Nat.not_lt.mpr h, hrule]

theorem ruleQueryBlock_ungoverned {value : Nat} (h : value ≤ 4095) (s : State)
    (hrule : governingRule s.adm.rules value = none) : ruleQueryBlock 1 value s = refuseWith s .notFound := by
  simp [ruleQueryBlock, Nat.not_lt.mpr h, hrule]

theorem laneOf_laneCode (n : Lane) : laneOf (laneCode n) = some n := by cases n <;> rfl

theorem verdictFetchBlock_stored {n : Lane} (s : State) {v : Verdict} (hv : s.adm.verdicts.get n = some v) :
    verdictFetchBlock (laneCode n) s = answerOk s (.verdict v) := by
  simp [verdictFetchBlock, laneOf_laneCode, hv]

theorem verdictFetchBlock_empty {n : Lane} (s : State) (hv : s.adm.verdicts.get n = none) :
    verdictFetchBlock (laneCode n) s = refuseWith s .notFound := by
  simp [verdictFetchBlock, laneOf_laneCode, hv]

theorem verdictFetchBlock_no_lane {lane : Byte} (h : laneOf lane = none) (s : State) :
    verdictFetchBlock lane s = refuseWith s .badArg := by
  simp [verdictFetchBlock, h]

/-- A port may name its own lane, and a lane byte without a lane (R171). -/
theorem ownLane_laneCode {p : Port} {n : Lane} (h : p = .sp ∨ p = .lp n) : ownLane p (laneCode n) = true := by
  rcases h with rfl | rfl
  · rfl
  · simp [ownLane, laneOf_laneCode]

theorem ownLane_no_lane (p : Port) {lane : Byte} (h : laneOf lane = none) : ownLane p lane = true := by
  cases p <;> simp [ownLane, h]

/-- Settles O19, by the cases of each read. -/
theorem tableAndAdmissionReadsChangeNothing : Obligations.TableAndAdmissionReadsChangeNothing := by
  refine ⟨fun p s h => takeOrder_answered h rfl rfl, fun p q s h h0 => ⟨fun hn => ?_, fun k r hfound => ?_, ?_⟩,
    fun s => ⟨fun value h => ⟨fun hv => ?_, fun hv => ?_, fun selector hs => ?_, fun hv => ?_,
      fun hv => ⟨fun i r hrule => ?_, fun hrule => ?_⟩⟩, fun p n h hp => ⟨fun v hv => ?_, fun hv => ?_,
        fun lane hl => ?_⟩⟩⟩
  · exact takeOrder_answered h rfl (passQueryBlock_absent (s.taken _) h0 hn)
  · have hrides := congrArg (fun x => answerOk (s.taken p) (.passRecord (k / 4) (k % 4) r x)) (ridesToday_eq s.time r)
    exact takeOrder_answered h rfl ((passQueryBlock_found (s.taken p) h0 hfound).trans hrides)
  · rintro rfl
    exact takeOrder_answered h rfl (tableStatusBlock_eq _)
  · exact takeOrder_answered h rfl (ruleQueryBlock_rule hv _)
  · exact takeOrder_answered h rfl (ruleQueryBlock_no_rule hv _)
  · exact takeOrder_answered h rfl (ruleQueryBlock_no_selector hs _ _)
  · exact takeOrder_answered h rfl (ruleQueryBlock_product_range hv _)
  · exact takeOrder_answered h rfl (ruleQueryBlock_governing hv _ hrule)
  · exact takeOrder_answered h rfl (ruleQueryBlock_ungoverned hv _ hrule)
  · exact takeOrder_answered h (ownLane_laneCode hp) (verdictFetchBlock_stored (s.taken p) hv)
  · exact takeOrder_answered h (ownLane_laneCode hp) (verdictFetchBlock_empty (s.taken p) hv)
  · exact takeOrder_answered h (ownLane_no_lane p hl) (verdictFetchBlock_no_lane hl _)

end Sys2Proof.Machine

/-! # O12: buckets, and the place of a new record -/

namespace Sys2Proof.Machine

/-- The bucket of a pass number written in its four groups (R4). -/
theorem bucketOf_groups {g0 g1 g2 g3 : Nat} (h0 : g0 < 1024) (h1 : g1 < 1024) (h2 : g2 < 1024) (h3 : g3 < 1024) :
    bucketOf (BitVec.ofNat 40 (g3 * 2 ^ 30 + g2 * 2 ^ 20 + g1 * 2 ^ 10 + g0)) = g3 ^^^ g2 ^^^ g1 ^^^ g0 := by
  have hlt : g3 * 2 ^ 30 + g2 * 2 ^ 20 + g1 * 2 ^ 10 + g0 < 2 ^ 40 := by omega
  have hgroup : ∀ start, ((BitVec.ofNat 40 (g3 * 2 ^ 30 + g2 * 2 ^ 20 + g1 * 2 ^ 10 + g0)).extractLsb' start 10).toNat =
      (g3 * 2 ^ 30 + g2 * 2 ^ 20 + g1 * 2 ^ 10 + g0) / 2 ^ start % 1024 := by
    intro start
    rw [BitVec.extractLsb'_toNat, BitVec.toNat_ofNat, Nat.mod_eq_of_lt hlt, Nat.shiftRight_eq_div_pow]
  have hg3 : (g3 * 2 ^ 30 + g2 * 2 ^ 20 + g1 * 2 ^ 10 + g0) / 2 ^ 30 % 1024 = g3 := by omega
  have hg2 : (g3 * 2 ^ 30 + g2 * 2 ^ 20 + g1 * 2 ^ 10 + g0) / 2 ^ 20 % 1024 = g2 := by omega
  have hg1 : (g3 * 2 ^ 30 + g2 * 2 ^ 20 + g1 * 2 ^ 10 + g0) / 2 ^ 10 % 1024 = g1 := by omega
  have hg0 : (g3 * 2 ^ 30 + g2 * 2 ^ 20 + g1 * 2 ^ 10 + g0) / 2 ^ 0 % 1024 = g0 := by omega
  unfold bucketOf
  simp only [BitVec.toNat_xor, hgroup, hg3, hg2, hg1, hg0]

/-! ## The lowest free way -/

/-- A way of the bucket that no entry has. -/
def FreeWay (t : PassTable) (b k : Nat) : Prop := k / 4 = b ∧ ∀ e ∈ t, e.1 ≠ k

theorem mem_ways_iff (b k : Nat) : k ∈ [4 * b, 4 * b + 1, 4 * b + 2, 4 * b + 3] ↔ k / 4 = b := by
  simp only [List.mem_cons, List.not_mem_nil, or_false]
  omega

theorem freeSlot_none_iff (t : PassTable) (b : Nat) : freeSlot t b = none ↔ ∀ k, ¬FreeWay t b k := by
  simp only [freeSlot, List.find?_eq_none, mem_ways_iff, FreeWay, List.all_eq_true, bne_iff_ne, not_and]

/-- The way found is the lowest free one (R5). -/
theorem freeSlot_least {t : PassTable} {b k : Nat} (h : freeSlot t b = some k) : ∀ j, FreeWay t b j → k ≤ j := by
  intro j ⟨hj, hfree⟩
  have hway := (mem_ways_iff b j).mpr hj
  obtain ⟨_, before, after, hsplit, hbefore⟩ := List.find?_eq_some_iff_append.mp h
  have hsorted : [4 * b, 4 * b + 1, 4 * b + 2, 4 * b + 3].Pairwise (· < ·) := by simp
  rw [hsplit] at hway hsorted
  rcases List.mem_append.mp hway with hin | hin
  · have hused := hbefore j hin
    simp only [Bool.not_eq_true', List.all_eq_false, bne_iff_ne, not_not] at hused
    obtain ⟨e, he, heq⟩ := hused
    exact absurd heq (hfree e he)
  · rcases List.mem_cons.mp hin with rfl | hin
    · exact le_refl _
    · exact Nat.le_of_lt ((List.pairwise_cons.mp (List.pairwise_append.mp hsorted).2.1).1 j hin)

/-! ## The eviction candidate -/

/-- Of two candidates, `e` is evicted before `x`: the smaller last seen, or the lower way among equals (R8). -/
def GoesFirst (e x : Nat × PassRecord) : Prop :=
  e.2.lastSeen < x.2.lastSeen ∨ (e.2.lastSeen = x.2.lastSeen ∧ e.1 ≤ x.1)

theorem GoesFirst.refl (e : Nat × PassRecord) : GoesFirst e e := .inr ⟨rfl, le_refl _⟩

theorem GoesFirst.trans {e x y : Nat × PassRecord} (h : GoesFirst e x) (h' : GoesFirst x y) : GoesFirst e y := by
  unfold GoesFirst at *
  omega

/-- Of a candidate and an entry of a higher way, the one that goes first goes before both. -/
theorem firstToEvict_goesFirst {b x : Nat × PassRecord} (h : b.1 < x.1) :
    ∃ e, firstToEvict (some b) x = some e ∧ GoesFirst e b ∧ GoesFirst e x ∧ e.1 ≤ x.1 := by
  simp only [firstToEvict]
  split
  · next hlt => exact ⟨x, rfl, .inl hlt, .refl x, le_refl _⟩
  · next hge => exact ⟨b, rfl, .refl b, by unfold GoesFirst; omega, by omega⟩

/-- Over entries of rising ways the fold keeps a candidate that goes before all that it has seen. -/
theorem firstToEvict_foldl {l : List (Nat × PassRecord)} {b : Nat × PassRecord}
    (hl : (l.map (·.1)).Pairwise (· < ·)) (hb : ∀ x ∈ l, b.1 < x.1) :
    ∃ e, l.foldl firstToEvict (some b) = some e ∧ GoesFirst e b ∧ ∀ x ∈ l, GoesFirst e x := by
  induction l generalizing b with
  | nil => exact ⟨b, rfl, .refl b, by simp⟩
  | cons x l ih =>
    obtain ⟨hx, hl⟩ := List.pairwise_cons.mp hl
    obtain ⟨c, hc, hcb, hcx, hle⟩ := firstToEvict_goesFirst (hb x List.mem_cons_self)
    obtain ⟨e, he, hec, hrest⟩ := ih (b := c) hl fun y hy =>
      Nat.lt_of_le_of_lt hle (hx y.1 (List.mem_map_of_mem hy))
    refine ⟨e, by rw [List.foldl_cons, hc, he], hec.trans hcb, fun y hy => ?_⟩
    rcases List.mem_cons.mp hy with rfl | hy
    · exact hec.trans hcx
    · exact hrest y hy

/-- An entry that may leave for a new record of the bucket: LEARNED and unpinned (R8, R11). -/
def Loser (t : PassTable) (b : Nat) (e : Nat × PassRecord) : Prop :=
  e ∈ t ∧ e.1 / 4 = b ∧ e.2.origin = .learned ∧ e.2.pinned = false

theorem mem_candidates_iff (t : PassTable) (b : Nat) (e : Nat × PassRecord) :
    e ∈ t.filter (fun e => e.1 / 4 == b && e.2.evictable) ↔ Loser t b e := by
  simp [List.mem_filter, PassRecord.evictable, Loser]

/-- The candidate is the loser that goes first; without a loser there is none (R8). -/
theorem evictionCandidate_cases {t : PassTable} (ht : TableForm t) (b : Nat) :
    (evictionCandidate t b = none ∧ ∀ e, ¬Loser t b e) ∨
      ∃ e, evictionCandidate t b = some e ∧ Loser t b e ∧ ∀ x, Loser t b x → GoesFirst e x := by
  have hmem := mem_candidates_iff t b
  have hsorted := (ht.filter fun e => e.1 / 4 == b && e.2.evictable).1
  cases hc : t.filter (fun e => e.1 / 4 == b && e.2.evictable) with
  | nil =>
    refine .inl ⟨by simp [evictionCandidate, hc], fun e he => ?_⟩
    have := (hmem e).mpr he
    simp [hc] at this
  | cons x l =>
    rw [hc] at hmem hsorted
    obtain ⟨hx, hl⟩ := List.pairwise_cons.mp hsorted
    obtain ⟨e, he, hex, hrest⟩ := firstToEvict_foldl hl fun y hy => hx y.1 (List.mem_map_of_mem hy)
    have hcandidate : evictionCandidate t b = some e := by
      rw [evictionCandidate, hc]
      exact he
    obtain ⟨hin, hbucket, hevict⟩ := evictionCandidate_spec hcandidate
    refine .inr ⟨e, hcandidate, ?_, fun y hy => ?_⟩
    · have hkeep : e ∈ t.filter (fun e => e.1 / 4 == b && e.2.evictable) :=
        List.mem_filter.mpr ⟨hin, by simp [hbucket, hevict]⟩
      exact (mem_candidates_iff t b e).mp hkeep
    · rcases List.mem_cons.mp ((hmem y).mpr hy) with rfl | hy
      · exact hex
      · exact hrest y hy

/-! ## The place -/

theorem placeFor_of_free {t : PassTable} {p : PassNo} {k : Nat} (h : freeSlot t (bucketOf p) = some k) :
    placeFor t p = some (k, 0) := by
  simp [placeFor, h]

theorem placeFor_of_full {t : PassTable} {p : PassNo} (h : freeSlot t (bucketOf p) = none) :
    placeFor t p = (evictionCandidate t (bucketOf p)).map fun e => (e.1, e.2.pass) := by
  simp [placeFor, h]

/-- The place of a new record, by whether its bucket has a free way, and else whether it has a loser. -/
theorem placeFor_cases {t : PassTable} (ht : TableForm t) (p : PassNo) :
    (∃ k, placeFor t p = some (k, 0) ∧ FreeWay t (bucketOf p) k ∧ ∀ j, FreeWay t (bucketOf p) j → k ≤ j) ∨
      ((∀ j, ¬FreeWay t (bucketOf p) j) ∧
        ((placeFor t p = none ∧ ∀ e, ¬Loser t (bucketOf p) e) ∨
          ∃ e, placeFor t p = some (e.1, e.2.pass) ∧ Loser t (bucketOf p) e ∧
            ∀ x, Loser t (bucketOf p) x → GoesFirst e x)) := by
  cases hfree : freeSlot t (bucketOf p) with
  | some k => exact .inl ⟨k, placeFor_of_free hfree, freeSlot_spec hfree, freeSlot_least hfree⟩
  | none =>
    refine .inr ⟨(freeSlot_none_iff t _).mp hfree, ?_⟩
    rw [placeFor_of_full hfree]
    rcases evictionCandidate_cases ht (bucketOf p) with ⟨hnone, hno⟩ | ⟨e, he, hloser, hleast⟩
    · exact .inl ⟨by rw [hnone]; rfl, hno⟩
    · exact .inr ⟨e, by rw [he]; rfl, hloser, hleast⟩

/-- Settles O12, by whether the bucket has a free way or a loser. -/
theorem recordsArePlacedInTheirBucket : Obligations.RecordsArePlacedInTheirBucket := by
  refine ⟨⟨fun _ _ _ _ => bucketOf_groups, fun _ _ _ _ => findPass_spec⟩, ?_⟩
  intro t p ht free loser
  rcases placeFor_cases ht p with ⟨k, hk, hfree, hleast⟩ | ⟨hfull, ⟨hnone, hno⟩ | ⟨e, he, hloser, hleast⟩⟩
  · refine ⟨fun k' evicted h => ?_, ?_⟩
    · obtain ⟨rfl, rfl⟩ : k = k' ∧ 0 = evicted := by simpa using hk.symm.trans h
      exact .inl ⟨hfree, rfl, hleast⟩
    · rw [hk]
      exact ⟨nofun, fun h => absurd hfree (h.1 k)⟩
  · refine ⟨fun k' evicted h => ?_, fun _ => ⟨hfull, hno⟩, fun _ => hnone⟩
    rw [hnone] at h
    cases h
  · refine ⟨fun k' evicted h => ?_, ?_⟩
    · obtain ⟨hk, hpass⟩ : e.1 = k' ∧ e.2.pass = evicted := by simpa using he.symm.trans h
      exact .inr ⟨hfull, e, hloser, hk, hpass, fun x hx => hk ▸ hleast x hx⟩
    · rw [he]
      exact ⟨nofun, fun h => absurd hloser (h.2 e)⟩

end Sys2Proof.Machine

/-! # O45: the hold, placed and ended -/

namespace Sys2Proof.Machine

/-! ## The placing -/

theorem State.placeHold_absent {s : State} {rd : Reading} (h : s.record rd.pass = none) (q : Quote) :
    s.placeHold rd q = s.refuseQuote .notFound (.cardPass rd.pass) := by
  simp [State.placeHold, h]

theorem State.placeHold_refunded {s : State} {rd : Reading} {x : PassRecord} (h : s.record rd.pass = some x)
    (hx : x.state = .refunded) (q : Quote) : s.placeHold rd q = s.refuseQuote .refunded (.cardPass rd.pass) := by
  simp [State.placeHold, h, hx]

theorem State.placeHold_open {s : State} {rd : Reading} {x : PassRecord} (h : s.record rd.pass = some x)
    (hx : x.state ≠ .refunded) (q : Quote) : s.placeHold rd q = s.openQuote rd q := by
  simp [State.placeHold, h, hx]

theorem Standing.toState_ne_refunded (st : Standing) : st.toState ≠ .refunded := by cases st <;> nofun

theorem holdState_toState (st : Standing) : holdState st.toState = .held st := by cases st <;> rfl

/-- The end of a long order makes its reply ready (R170, R173). -/
theorem State.completeLong_slot {s : State} {code : Byte} (h : (s.port .sp).slot = .inProgress code) (res : Result)
    (body : Body) : ((s.completeLong res body).port .sp).slot =
      .ready { code := code, result := res, lost := (s.port .sp).lost, body := body } := by
  simp [State.completeLong, h]

/-- The quote that an opened hold stands for. -/
def State.standingQuote (s : State) (rd : Reading) (q : Quote) : StandingQuote :=
  { pass := rd.pass, readDay := rd.readDay, seq := rd.seq, quote := q, number := (s.refund.lastNumber + 1) % 65536,
    deadline := s.time.runSec + s.refund.hold, hold := s.refund.hold }

/-- The record of an opened quote is HELD (R15, R137). -/
theorem State.openQuote_record {s : State} {rd : Reading} {x : PassRecord} (h : s.record rd.pass = some x) (q : Quote) :
    (s.openQuote rd q).record rd.pass = some { x with state := holdState x.state } := by
  have hheld := s.record_updateRecord_same rd.pass (fun x => { x with state := holdState x.state }) fun _ => rfl
  rw [h] at hheld
  simpa [State.openQuote] using hheld

theorem State.openQuote_refund (s : State) (rd : Reading) (q : Quote) :
    (s.openQuote rd q).refund = { s.refund with
      ctx := .quoted (s.standingQuote rd q), lastNumber := (s.refund.lastNumber + 1) % 65536
      lastQuote := some { number := (s.refund.lastNumber + 1) % 65536, pass := rd.pass, refund := q.refund,
                          outcome := .opened } } := by
  simp [State.openQuote, State.standingQuote]

theorem State.openQuote_slot {s : State} {code : Byte} (h : (s.port .sp).slot = .inProgress code) (rd : Reading)
    (q : Quote) : ((s.openQuote rd q).port .sp).slot =
      .ready { code := code, result := .ok, lost := (s.port .sp).lost, body := .quote (s.standingQuote rd q) } := by
  refine State.completeLong_slot (code := code) ?_ _ _
  exact h

/-! ## The ends -/

/-- A hold's end gives the record its prior state back (R15, R143, R144). -/
theorem State.endHold_eq {f : PassRecord → PassRecord} (hf : ∀ r, f r = { r with state := releaseState r.state })
    (s : State) (q : StandingQuote) (e : QuoteEnd) :
    ((s.updateRecord q.pass f).withRefund fun r =>
      { r with ctx := .idle, lastQuote := r.lastQuote.map fun l => { l with outcome := e } }) = s.endHold q e := by
  rw [funext hf]
  rfl

theorem refundReleaseBlock_state {s : State} (h : ∀ q, s.refund.ctx ≠ .quoted q) (k : Nat) :
    refundReleaseBlock k s = refuseWith s .state := by
  unfold refundReleaseBlock
  split
  · next q hq => exact absurd hq (h q)
  all_goals rfl

theorem refundReleaseBlock_badArg {s : State} {q : StandingQuote} (h : s.refund.ctx = .quoted q) {k : Nat}
    (hk : q.number ≠ k) : refundReleaseBlock k s = refuseWith s .badArg := by
  simp [refundReleaseBlock, h, hk]

theorem refundReleaseBlock_released {s : State} {q : StandingQuote} (h : s.refund.ctx = .quoted q) {k : Nat}
    (hk : q.number = k) : refundReleaseBlock k s = answerOk (s.endHold q .released) .none := by
  simp [refundReleaseBlock, h, hk]

/-- REFUND HOLD EXPIRY ends the hold once its deadline has passed (R144). -/
theorem execRefundHoldExpiry_quoted {s : State} {q : StandingQuote} (hrun : s.stopped = false)
    (h : s.refund.ctx = .quoted q) :
    execRefundHoldExpiry s = .next (if q.deadline ≤ s.time.runSec then s.expireHold q else s) := by
  unfold execRefundHoldExpiry State.running
  simp only [hrun, Bool.false_eq_true, if_false, State.expiredQuote, h]
  by_cases hdue : q.deadline ≤ s.time.runSec
  · simp only [hdue, if_true]
  · simp only [hdue, if_false]

/-- Settles O45, from the cases of the placing and of the two ends. -/
theorem holdsArePlacedAndEnded : Obligations.HoldsArePlacedAndEnded := by
  refine ⟨fun rd q x st s hx hst => ?_, fun rd q s => ⟨fun h => State.placeHold_absent h q, fun x h hx =>
    State.placeHold_refunded h hx q⟩, ?_⟩
  · have hopen : x.state ≠ .refunded := hst ▸ st.toState_ne_refunded
    dsimp only
    rw [State.placeHold_open hx hopen, State.openQuote_record hx, State.openQuote_refund, hst, holdState_toState]
    exact ⟨rfl, rfl, rfl, rfl, rfl, fun code hcode => State.openQuote_slot hcode rd q⟩
  · intro n s ended
    have hended : ∀ s q e, ended s q e = s.endHold q e :=
      State.endHold_eq fun r => congrArg (fun x => { r with state := x }) (by cases r.state <;> rfl)
    refine ⟨fun h => ⟨fun hnot => ?_, fun q hq => ⟨fun hne => ?_, fun heq => ?_⟩⟩, fun hrun q hq => ?_⟩
    · exact takeOrder_answered h rfl (refundReleaseBlock_state (s := s.taken .sp) hnot _)
    · exact takeOrder_answered h rfl (refundReleaseBlock_badArg (s := s.taken .sp) hq hne)
    · rw [hended]
      exact takeOrder_answered h rfl (refundReleaseBlock_released (s := s.taken .sp) hq heq)
    · rw [hended]
      exact execRefundHoldExpiry_quoted hrun hq

end Sys2Proof.Machine

/-! # O16: what a card, a grant and a passage write into a record -/

namespace Sys2Proof.Machine

/-! ## The merge write (R16, R17) -/

theorem dayAhead_iff (a b : Option Nat) : dayAhead a b = true ↔ ∃ d, a = some d ∧ ∀ e, b = some e → e < d := by
  cases a with
  | none => simp [dayAhead]
  | some d => cases b <;> simp [dayAhead]

/-- The record is ahead of the card, or the card's usage cannot be trusted (R16). -/
theorem aheadOf_iff (c : Card) (r : PassRecord) : aheadOf c r = true ↔
    c.usageOk = false ∨ c.offeredUsed < r.used ∨ ∃ d, r.lastUse = some d ∧ ∀ e, c.offeredLastUse = some e → e < d := by
  unfold aheadOf
  cases c.usageOk with
  | false => simp
  | true => simp [dayAhead_iff]

theorem forceRefunded_eq_refunded_iff (mark : Bool) (x : RecState) :
    forceRefunded mark x = .refunded ↔ x = .refunded ∨ (mark = true ∧ recHeld x = false) := by
  cases x <;> cases mark <;> simp [forceRefunded, recHeld]

theorem forceRefunded_of_ne {mark : Bool} {x : RecState} (h : forceRefunded mark x ≠ .refunded) :
    forceRefunded mark x = x := by
  cases mark with
  | false => cases x <;> rfl
  | true => cases x <;> simp_all [forceRefunded]

theorem mergeWrite_usage_of_ok {c : Card} (h : c.usageOk = true) (r : PassRecord) :
    (mergeWrite c r).used = min (r.ticket.getD c.ticket).days (max r.used c.offeredUsed) ∧
      (mergeWrite c r).lastUse = laterDay r.lastUse c.offeredLastUse := by
  simp [mergeWrite, h]

theorem mergeWrite_usage_of_not_ok {c : Card} (h : c.usageOk = false) (r : PassRecord) :
    (mergeWrite c r).used = r.used ∧ (mergeWrite c r).lastUse = r.lastUse := by
  simp [mergeWrite, h]

theorem mergeWrite_behind_iff (c : Card) (r : PassRecord) :
    (mergeWrite c r).behind = true ↔ r.behind = true ∨ aheadOf c r = true := by
  simp [mergeWrite]

/-! ## The consumption and the passage write (R18, R19) -/

/-- A consumption of a record whose days used are within the days bought (R18). -/
theorem consume_eq {r : PassRecord} {k : Ticket} (hk : r.ticket = some k) (hused : r.used ≤ k.days) (today : Nat) :
    consume today r =
      { r with
        used := min k.days (r.used + 1)
        lastUse := some (match r.lastUse with
          | some d => max d today
          | none => today)
        consumedHere := some today
        behind := true } := by
  have hmin : (if r.used < k.days then r.used + 1 else r.used) = min k.days (r.used + 1) := by
    split <;> omega
  have hlater : laterDay r.lastUse (some today) = some (match r.lastUse with
      | some d => max d today
      | none => today) := by
    cases r.lastUse <;> rfl
  simp only [consume, hk, hmin, hlater]

theorem passageWrite_eq (now today : Nat) (n : Lane) (r : PassRecord) : passageWrite now today n r =
    { r with
      lastPassage := some { second := now, lane := n }
      rides := some
        { count := match r.rides with
            | some g => if g.day = today then min 255 (g.count + 1) else 1
            | none => 1
          day := today }
      lastSeen := now } := by
  unfold passageWrite
  cases r.rides with
  | none => rfl
  | some g =>
    by_cases hday : g.day = today
    · subst hday
      simp [addSat]
    · simp [hday]

/-! ## A grant of a context that holds a pass (R72 to R74) -/

/-- A request of a lane stamp joins the stamps where its position can work it off (R36, R75). -/
theorem State.requestLaneStamp_reader (s : State) (r : StampReq) : (s.requestLaneStamp r).reader =
    if s.reader.map.get r.position = none ∨ (s.reader.pos.get r.position).fault = true then s.reader
    else { s.reader with stamps := s.reader.stamps ++ [r] } := by
  unfold State.requestLaneStamp State.unworkable
  simp only [Bool.or_eq_true, Option.isNone_iff_eq_none]
  split <;> rfl

theorem State.grantActions_unlearned {d : NoteData} (h : d.flags.unlearned = true) (s : State) (n : Lane) (p : PassNo) :
    s.grantActions n p d = s.countLift fun l =>
      { l with unlearned := addSat max32 1 l.unlearned
               unrecorded := if d.flags.newDay then addSat max32 1 l.unrecorded else l.unrecorded } := by
  simp [State.grantActions, h]

/-- A consumption changes the record of its pass alone. -/
theorem State.consumed_record {s : State} {p : PassNo} {r : PassRecord} (h : s.record p = some r) (today : Nat) :
    (s.updateRecord p (consume today)).record p = some (consume today r) ∧
      ∀ q, q ≠ p → (s.updateRecord p (consume today)).record q = s.record q := by
  have hsame := s.record_updateRecord_same p (consume today) fun _ => rfl
  rw [h] at hsame
  exact ⟨hsame, fun q hq => s.record_updateRecord_other p q _ (fun _ => rfl) hq⟩

/-- A grant of a new day: the record is consumed, the day counted, and the day stamp requested (R73). -/
theorem State.grantActions_newDay {d : NoteData} (hu : d.flags.unlearned = false) (hd : d.flags.newDay = true)
    {s : State} {p : PassNo} {r : PassRecord} (hr : s.record p = some r) (n : Lane) :
    s.grantActions n p d =
      ((s.updateRecord p (consume s.time.lastDay)).countLane n fun c =>
        { c with newDays := addSat max32 1 c.newDays }).requestLaneStamp
        (s.newStamp (.lane n) .dayStamp p (consume s.time.lastDay r) false d.seq) := by
  have hconsumed : ((s.updateRecord p (consume s.time.lastDay)).countLane n fun c =>
      { c with newDays := addSat max32 1 c.newDays }).record p = some (consume s.time.lastDay r) :=
    (State.consumed_record hr s.time.lastDay).1
  simp only [State.grantActions, hu, hd, Bool.false_eq_true, if_false, if_true, hconsumed]
  rfl

theorem State.grantActions_behind {d : NoteData} (hu : d.flags.unlearned = false) (hd : d.flags.newDay = false)
    (hb : d.flags.behind = true) {s : State} {p : PassNo} {r : PassRecord} (hr : s.record p = some r) (n : Lane) :
    s.grantActions n p d = s.requestLaneStamp (s.newStamp (.lane n) .writeBack p r false d.seq) := by
  simp [State.grantActions, hu, hd, hb, hr]

theorem State.grantActions_nothing {d : NoteData} (hu : d.flags.unlearned = false) (hd : d.flags.newDay = false)
    (hb : d.flags.behind = false) (s : State) (n : Lane) (p : PassNo) : s.grantActions n p d = s := by
  simp [State.grantActions, hu, hd, hb]

/-- The state of a grant before the admission unit acts. -/
def State.releasing (s : State) (n : Lane) : State :=
  (s.withLoad fun l => { l with live := l.live + 1 }).grantLane n

theorem State.releasing_frame (s : State) (n : Lane) :
    (s.releasing n).table = s.table ∧ (s.releasing n).reader = s.reader ∧ (s.releasing n).counts = s.counts ∧
      (s.releasing n).time = s.time := by
  simp [State.releasing]

/-- A lane stamp asked for while a grant is in hand is the one that the state before the grant makes (R44, R75). -/
theorem State.releasing_requests {s u : State} {n : Lane} (hreader : u.reader = (s.releasing n).reader) (q : Requester)
    (p : PassNo) (r : PassRecord) (mark : Bool) (seq : Nat) :
    (u.requestLaneStamp ((s.releasing n).newStamp (.lane n) q p r mark seq)).reader =
      if s.reader.map.get (.lane n) = none ∨ (s.reader.pos.get (.lane n)).fault = true then s.reader
      else { s.reader with stamps := s.reader.stamps ++ [s.newStamp (.lane n) q p r mark seq] } := by
  obtain ⟨_, hsame, _, htime⟩ := s.releasing_frame n
  rw [State.requestLaneStamp_reader, hreader, hsame]
  simp only [State.newStamp, hsame, htime]

theorem State.grant_of_pass {s : State} {n : Lane} {p : PassNo} {c : Context} {note : Note} {d : NoteData}
    (hc : (s.lane n).ctx = some c) (hp : c.pass = some p) (hnote : s.adm.notes.get n = some note)
    (hd : note.data = some d) : s.grant n = (s.releasing n).grantActions n p d := by
  have hpass : (s.releasing n).ctxPass n = some p := by
    have hbooks : (s.releasing n).books = { s.books with
        live := s.load.live + 1, seat := Function.update s.books.seat n (s.books.seat n).grant } :=
      State.grantLane_books _ _
    rw [← State.seat_pass, ← State.books_seat, hbooks]
    simpa [Seat.grant, LaneUnit.seat, Seat.pass, hc] using hp
  have hdata : ((s.releasing n).note n).data = some d := by
    simpa [State.note, State.releasing, hnote] using hd
  unfold State.grant
  dsimp only
  split
  · next q e hq he =>
    obtain rfl : p = q := Option.some.inj (hpass.symm.trans hq)
    obtain rfl : d = e := Option.some.inj (hdata.symm.trans he)
    rfl
  · next hnot => exact absurd hdata (hnot p d hpass)

/-! ## The end of a context (R12, R87) -/

/-- A record without the LIVE pin of a lane; another lane's pin stays. -/
def PassRecord.unpinned (n : Lane) (x : PassRecord) : PassRecord :=
  { x with live := if x.live = some n then none else x.live }

theorem State.endContext_table_unpinned {s : State} {n : Lane} {p : PassNo} (h : s.ctxPass n = some p) :
    (s.endContext n).table = Machine.updateRecord s.table p (PassRecord.unpinned n) := by
  rw [State.endContext_table_of_pass h]
  congr 1
  funext x
  unfold PassRecord.unpinned
  split <;> rfl

/-- The end of a context takes the lane's own LIVE pin off the record, and leaves every other record. -/
theorem State.endContext_record {s : State} {n : Lane} {p : PassNo} (h : s.ctxPass n = some p) :
    (s.endContext n).record p = (s.record p).map (PassRecord.unpinned n) ∧
      ∀ q, q ≠ p → (s.endContext n).record q = s.record q := by
  simp only [State.record, State.endContext_table_unpinned h]
  exact ⟨s.record_updateRecord_same p _ fun _ => rfl, fun q hq => s.record_updateRecord_other p q _ (fun _ => rfl) hq⟩

theorem State.record_eq_of_table {s t : State} (h : t.table = s.table) (q : PassNo) : t.record q = s.record q := by
  simp [State.record, h]

/-- The record after a completed passage, before its context ends (R19). -/
theorem State.passageWritten_record {s : State} {n : Lane} {p : PassNo} (h : s.ctxPass n = some p) :
    (s.passageWritten n).record p =
        (if s.noteUnlearned n then s.record p
          else (s.record p).map (passageWrite s.time.runSec s.time.lastDay n)) ∧
      ∀ q, q ≠ p → (s.passageWritten n).record q = s.record q := by
  unfold State.passageWritten
  simp only [h]
  split
  · exact ⟨rfl, fun _ _ => rfl⟩
  · exact ⟨s.record_updateRecord_same p _ fun _ => rfl, fun q hq => s.record_updateRecord_other p q _ (fun _ => rfl) hq⟩

theorem State.noteUnlearned_iff (s : State) (n : Lane) : s.noteUnlearned n = true ↔
    ∃ x d, s.adm.notes.get n = some x ∧ x.data = some d ∧ d.flags.unlearned = true := by
  unfold State.noteUnlearned State.note
  cases hx : s.adm.notes.get n with
  | none => simp
  | some x => cases hd : x.data <;> simp [hd]

theorem State.completeGrant_record {s : State} {n : Lane} {p : PassNo} (h : s.ctxPass n = some p) :
    (s.completeGrant n).record p =
        ((s.passageWritten n).record p).map (PassRecord.unpinned n) ∧
      ∀ q, q ≠ p → (s.completeGrant n).record q = s.record q := by
  obtain ⟨t, ht, hb⟩ := s.completeGrant_eq n
  have hctx : t.ctxPass n = some p := (State.ctxPass_eq_of_books hb n).trans ((s.passageWritten_ctxPass n n).trans h)
  have htable : t.table = (s.passageWritten n).table := congrArg Books.table hb
  obtain ⟨hsame, hother⟩ := State.endContext_record hctx
  rw [ht]
  refine ⟨?_, fun q hq => ?_⟩
  · rw [hsame, State.record_eq_of_table htable]
  · rw [hother q hq, State.record_eq_of_table htable, (State.passageWritten_record h).2 q hq]

theorem State.dropEntry_record {s : State} {n : Lane} {p : PassNo} (h : s.ctxPass n = some p) (reason : WithdrawReason) :
    (s.dropEntry n reason).record p =
        (s.record p).map (PassRecord.unpinned n) ∧
      ∀ q, q ≠ p → (s.dropEntry n reason).record q = s.record q := by
  have hended := State.endContext_record (s := s.withLoad fun l =>
    { l with queue := l.queue.filter fun e => e.lane != n
             handed := l.handed.filter fun h => h.lane != n }) h
  simpa [State.dropEntry] using hended

/-- An expired grant: the context has ended before the queue is served (R89). -/
theorem State.expireGrant_record {s : State} {n : Lane} {p : PassNo} (h : s.ctxPass n = some p) :
    ∃ t : State, s.expireGrant n = t.serviceStep ∧
      t.record p = (s.record p).map (PassRecord.unpinned n) ∧
      ∀ q, q ≠ p → t.record q = s.record q := by
  obtain ⟨hsame, hother⟩ := State.endContext_record h
  refine ⟨_, rfl, ?_, fun q hq => ?_⟩
  · simpa using hsame
  · simpa using hother q hq

theorem execGrantExpiry_due {s : State} {n : Lane} (hrun : s.stopped = false) (hgranted : (s.lane n).passage = .granted)
    {c : Context} {e : Nat} (hc : (s.lane n).ctx = some c) (he : c.windowEnd = some e) (hdue : e ≤ s.time.ms) :
    execGrantExpiry n s = .next (s.expireGrant n).arbiter := by
  have hpassed : s.windowPassed n = true := by simp [State.windowPassed, hc, he, hdue]
  simp [execGrantExpiry, State.running, hrun, hgranted, hpassed]

/-! ## The statement -/

theorem mergeWrite_raises (c : Card) (r : PassRecord) (h : UsageBound r) :
    UsageBound (mergeWrite c r) ∧ r.used ≤ (mergeWrite c r).used :=
  (mergeWrite_usageKept c r).bound h

/-- Settles O16, from the equations of the merge write, the consumption, the grant's actions and the ends of a
context. -/
theorem usageWritesRaiseTheRecord : Obligations.UsageWritesRaiseTheRecord := by
  refine ⟨fun c r hr => ?_, fun today r k hk hused => ?_, fun n p c note d s hc hp hnote hd => ?_,
    fun n p r s hctx hr => ?_⟩
  · obtain ⟨hbound, hle⟩ := mergeWrite_raises c r hr
    have hahead := aheadOf_iff c r
    exact ⟨rfl, hbound, hle, mergeWrite_usage_of_ok (r := r), mergeWrite_usage_of_not_ok (r := r),
      (mergeWrite_behind_iff c r).trans (or_congr_right hahead), hahead, forceRefunded_eq_refunded_iff _ _,
      forceRefunded_of_ne, rfl, rfl, rfl, rfl, rfl, rfl, rfl⟩
  · exact consume_eq hk hused today
  · obtain ⟨htable, hreader, hcounts, htime⟩ := s.releasing_frame n
    have hrecord : ∀ q, (s.releasing n).record q = s.record q := State.record_eq_of_table htable
    dsimp only
    rw [State.grant_of_pass hc hp hnote hd]
    refine ⟨fun hu => ?_, fun hu hnew r hr => ?_, fun hu hnew hb r hr => ?_, fun hu hnew hb => ?_⟩
    · rw [State.grantActions_unlearned hu]
      exact ⟨htable, hreader, by simp [hcounts, addSat, State.countLift], by simp [hcounts, State.countLift]⟩
    · rw [State.grantActions_newDay hu hnew ((hrecord p).trans hr), htime]
      obtain ⟨hsame, hother⟩ := State.consumed_record ((hrecord p).trans hr) s.time.lastDay
      refine ⟨?_, fun q hq => ?_, State.releasing_requests (by simp) _ _ _ _ _, ?_⟩
      · simpa using hsame
      · simpa using (hother q hq).trans (hrecord q)
      · simp [State.countLane, hcounts, addSat]
    · rw [State.grantActions_behind hu hnew hb ((hrecord p).trans hr)]
      exact ⟨by simp [htable], by simp [hcounts], State.releasing_requests rfl _ _ _ _ _⟩
    · rw [State.grantActions_nothing hu hnew hb]
      exact ⟨htable, hcounts, hreader⟩
  · have unpinned : ∀ {o o' : Option PassRecord} {x : PassRecord}, o = o'.map (PassRecord.unpinned n) → o' = some x →
        o = some (x.unpinned n) := fun ho hx => by rw [ho, hx]; rfl
    refine ⟨fun hent => ?_, fun hrun hgranted hdue => ?_, fun reason => ?_⟩
    · have hforward : s.forwardPassage n = s.completeGrant n := by simp [State.forwardPassage, hent]
      obtain ⟨hsame, hother⟩ := State.completeGrant_record hctx
      have hwritten := (State.passageWritten_record hctx).1
      rw [hforward]
      refine ⟨hother, fun hu => ?_, fun hu => ?_⟩
      · rw [if_pos (s.noteUnlearned_iff n |>.mpr hu)] at hwritten
        exact unpinned hsame (hwritten.trans hr)
      · rw [if_neg fun h => hu (s.noteUnlearned_iff n |>.mp h), hr, Option.map_some, passageWrite_eq] at hwritten
        exact unpinned hsame hwritten
    · obtain ⟨c, e, hc, he, hle⟩ := hdue
      obtain ⟨t, ht, hsame, hother⟩ := State.expireGrant_record hctx
      refine ⟨t, ?_, unpinned hsame hr, hother⟩
      rw [← ht]
      exact execGrantExpiry_due hrun hgranted hc he hle
    · obtain ⟨hsame, hother⟩ := State.dropEntry_record hctx reason
      exact ⟨unpinned hsame hr, hother⟩

end Sys2Proof.Machine
/-! # Ranges, lamps and sums: what every operation carries along

`Steady s t` says that `t` keeps, block by block, the bounds, the lamps and the sums that `s` has (R31, R99, R104, R123,
R126). Every operation of the part carries them along on its own, so the relation is closed under composition, and each
operation has one lemma. -/

namespace Sys2Proof.Machine

/-! ## The relation -/

/-- The reader's share of the bounds (R31, R49, R52). -/
structure Reader.InBounds (d : Reader) : Prop where
  target : 0 < d.settings.target
  visit : ∀ a t o, d.visit = some (.tune a t o) → 0 < t
  levels : ∀ a, 1 ≤ d.levels.get a ∧ d.levels.get a ≤ 15
  pos : ∀ p, (d.pos.get p).faultCount ≤ 31 ∧ (d.pos.get p).collideRun ≤ 2

/-- Every lane unit shows the lamp state of Table 4-3. -/
def LampsShown (v : PerLane LaneUnit) : Prop := ∀ n, (v.get n).lamp = (v.get n).lampState

/-- `t` keeps what `s` has of the bounds, the lamps and the sums. -/
structure State.Steady (s t : State) : Prop where
  occupancy : s.load.occupancy ≤ 255 → t.load.occupancy ≤ 255
  ring : s.counts.ring.length ≤ 60 → t.counts.ring.length ≤ 60
  sums : s.counts.agree → t.counts.agree
  reader : s.reader.InBounds → t.reader.InBounds
  lamps : LampsShown s.lanes → LampsShown t.lanes

namespace State

variable {s t u : State}

theorem Steady.refl (s : State) : s.Steady s := ⟨id, id, id, id, id⟩

theorem Steady.trans (h : s.Steady t) (k : t.Steady u) : s.Steady u where
  occupancy x := k.occupancy (h.occupancy x)
  ring x := k.ring (h.ring x)
  sums x := k.sums (h.sums x)
  reader x := k.reader (h.reader x)
  lamps x := k.lamps (h.lamps x)

/-- An operation that leaves the four blocks concerned, as its frame lemma says. -/
theorem Steady.of_same (hload : t.load = s.load) (hcounts : t.counts = s.counts) (hreader : t.reader = s.reader)
    (hlanes : t.lanes = s.lanes) : s.Steady t where
  occupancy := by rw [hload]; exact id
  ring := by rw [hcounts]; exact id
  sums := by rw [hcounts]; exact id
  reader := by rw [hreader]; exact id
  lamps := by rw [hlanes]; exact id

/-- An operation that changes the reader alone. -/
theorem Steady.of_reader (hload : t.load = s.load) (hcounts : t.counts = s.counts) (hlanes : t.lanes = s.lanes)
    (h : s.reader.InBounds → t.reader.InBounds) : s.Steady t where
  occupancy := by rw [hload]; exact id
  ring := by rw [hcounts]; exact id
  sums := by rw [hcounts]; exact id
  reader := h
  lamps := by rw [hlanes]; exact id

/-- An operation that changes the counts alone. -/
theorem Steady.of_counts (hload : t.load = s.load) (hreader : t.reader = s.reader) (hlanes : t.lanes = s.lanes)
    (hring : s.counts.ring.length ≤ 60 → t.counts.ring.length ≤ 60) (hsums : s.counts.agree → t.counts.agree) :
    s.Steady t where
  occupancy := by rw [hload]; exact id
  ring := hring
  sums := hsums
  reader := by rw [hreader]; exact id
  lamps := by rw [hlanes]; exact id

/-- A fold is steady where each of its rounds is. -/
theorem Steady.foldl {α : Type} {f : State → α → State} (h : ∀ (s : State) a, s.Steady (f s a)) (l : List α)
    (s : State) : s.Steady (l.foldl f s) := by
  induction l generalizing s with
  | nil => exact .refl s
  | cons a l ih => exact (h s a).trans (ih (f s a))

theorem Steady.ite {c : Prop} [Decidable c] (h : s.Steady t) (k : s.Steady u) : s.Steady (if c then t else u) := by
  split
  · exact h
  · exact k

theorem inBounds_iff (s : State) :
    s.inBounds ↔ s.load.occupancy ≤ 255 ∧ s.counts.ring.length ≤ 60 ∧ s.reader.InBounds :=
  ⟨fun ⟨hocc, hring, htarget, hvisit, hlevels, hpos⟩ => ⟨hocc, hring, htarget, hvisit, hlevels, hpos⟩,
    fun ⟨hocc, hring, h⟩ => ⟨hocc, hring, h.target, h.visit, h.levels, h.pos⟩⟩

theorem lampsAgree_iff (s : State) : s.lampsAgree ↔ LampsShown s.lanes := Iff.rfl

theorem Steady.lampsAgree (h : s.Steady t) (hs : s.lampsAgree) : t.lampsAgree :=
  t.lampsAgree_iff.mpr (h.lamps (s.lampsAgree_iff.mp hs))

theorem Steady.inBounds (h : s.Steady t) (hs : s.inBounds) : t.inBounds := by
  obtain ⟨hocc, hring, hreader⟩ := s.inBounds_iff.mp hs
  exact t.inBounds_iff.mpr ⟨h.occupancy hocc, h.ring hring, h.reader hreader⟩

/-! ## One write of a block -/

theorem withLane_steady (s : State) (n : Lane) (f : LaneUnit → LaneUnit) : s.Steady (s.withLane n f) where
  occupancy := id
  ring := id
  sums := id
  reader := id
  lamps h m := by
    change ((s.withLane n f).lane m).lamp = ((s.withLane n f).lane m).lampState
    rw [withLane_lane]
    split
    · simp [LaneUnit.lampState]
    · exact h m

theorem withAdm_steady (s : State) (f : Admission → Admission) : s.Steady (s.withAdm f) := .of_same rfl rfl rfl rfl

theorem withRefund_steady (s : State) (f : RefundEngine → RefundEngine) : s.Steady (s.withRefund f) :=
  .of_same rfl rfl rfl rfl

theorem withTime_steady (s : State) (f : TimeUnit → TimeUnit) : s.Steady (s.withTime f) := .of_same rfl rfl rfl rfl

theorem withSupply_steady (s : State) (f : Supply → Supply) : s.Steady (s.withSupply f) := .of_same rfl rfl rfl rfl

theorem withTable_steady (s : State) (f : PassTable → PassTable) : s.Steady (s.withTable f) := .of_same rfl rfl rfl rfl

theorem withPort_steady (s : State) (p : Port) (f : PortCtx → PortCtx) : s.Steady (s.withPort p f) :=
  .of_same rfl rfl rfl rfl

theorem updateRecord_steady (s : State) (p : PassNo) (f : PassRecord → PassRecord) : s.Steady (s.updateRecord p f) :=
  withTable_steady s _

/-- A write of the reader that leaves the target, the visit, the levels and the positions. -/
theorem withReader_steady (s : State) (f : Reader → Reader) (htarget : (f s.reader).settings = s.reader.settings)
    (hvisit : (f s.reader).visit = s.reader.visit) (hlevels : (f s.reader).levels = s.reader.levels)
    (hpos : (f s.reader).pos = s.reader.pos) : s.Steady (s.withReader f) :=
  .of_reader rfl rfl rfl fun h =>
    ⟨by simpa [htarget] using h.target, by simpa [hvisit] using h.visit, by simpa [hlevels] using h.levels,
      by simpa [hpos] using h.pos⟩

theorem withLoad_steady (s : State) (f : Loading → Loading) (h : (f s.load).occupancy = s.load.occupancy) :
    s.Steady (s.withLoad f) :=
  ⟨by rw [withLoad_load, h]; exact id, id, id, id, id⟩

/-- A write of the counts that leaves both sets and the ring. -/
theorem withCounts_steady (s : State) (f : Counts → Counts) (hcurrent : (f s.counts).current = s.counts.current)
    (hprevious : (f s.counts).previous = s.counts.previous) (hring : (f s.counts).ring = s.counts.ring) :
    s.Steady (s.withCounts f) :=
  .of_counts rfl rfl rfl (by rw [withCounts_counts, hring]; exact id)
    (by rw [withCounts_counts, Counts.agree, Counts.agree, hcurrent, hprevious]; exact id)

/-! ## Counts -/

/-- A write of one lane's counts that keeps its forward passages. -/
theorem countLane_steady (s : State) (n : Lane) (f : LaneCounts → LaneCounts) (h : ∀ c, (f c).forward = c.forward) :
    s.Steady (s.countLane n f) := by
  refine .of_counts rfl rfl rfl id fun ⟨hcurrent, hprevious⟩ => ⟨?_, hprevious⟩
  unfold CountSet.agrees at hcurrent ⊢
  cases n <;> simpa [countLane, PerLane.get, PerLane.set, h] using hcurrent

/-- A write of the lift's counts that keeps its total passages. -/
theorem countLift_steady (s : State) (f : LiftCounts → LiftCounts) (h : ∀ c, (f c).total = c.total) :
    s.Steady (s.countLift f) := by
  refine .of_counts rfl rfl rfl id fun ⟨hcurrent, hprevious⟩ => ⟨?_, hprevious⟩
  simpa [CountSet.agrees, countLift, h] using hcurrent

theorem countRefusal_steady (s : State) (n : Lane) (r : RefuseReason) : s.Steady (s.countRefusal n r) :=
  .of_counts rfl rfl rfl id id

/-- The lane's counter and the total rise together (R123). -/
theorem countPassage_steady (s : State) (n : Lane) (f : LaneCounts → LaneCounts)
    (h : ∀ c, (f c).forward = c.forward + 1) : s.Steady (s.countPassage n f) := by
  have hopen := s.withCounts_steady
    (fun c => { c with openBin := { c.openBin with passages := addSat max16 1 c.openBin.passages } }) rfl rfl rfl
  unfold countPassage
  dsimp only
  split
  · refine hopen.trans (.of_counts rfl rfl rfl id fun ⟨hcurrent, hprevious⟩ => ⟨?_, hprevious⟩)
    unfold CountSet.agrees at hcurrent ⊢
    cases n <;> simp [countLift, countLane, PerLane.get, PerLane.set, h] at hcurrent ⊢ <;> omega
  · exact hopen

theorem closeBin_steady (s : State) (minute : Option Nat) : s.Steady (s.withCounts (Counts.closeBin minute)) :=
  .of_counts rfl rfl rfl (fun _ => by simp [Counts.closeBin]; omega) id

theorem roll_steady (s : State) (day : Nat) : s.Steady (s.withCounts (Counts.roll day s.load.occupancy)) := by
  refine .of_counts rfl rfl rfl id fun ⟨hcurrent, _⟩ => ⟨?_, ?_⟩
  · simp [CountSet.agrees, Counts.roll, CountSet.zero, LiftCounts.zero, LaneCounts.forward, LaneCounts.zero]
  · rintro p hp
    cases hp
    exact hcurrent

theorem occupancyUp_steady (s : State) : s.Steady s.occupancyUp := by
  unfold occupancyUp
  split
  · next h =>
    have hup : s.Steady (s.withLoad fun l => { l with occupancy := l.occupancy + 1 }) :=
      ⟨fun _ => by simp; omega, id, id, id, id⟩
    exact hup.trans (countLift_steady _ _ fun _ => rfl)
  · exact .refl s

theorem occupancyDown_steady (s : State) : s.Steady s.occupancyDown :=
  ⟨fun h => by simp [occupancyDown]; omega, id, id, id, id⟩

end State
end Sys2Proof.Machine

/-! ## The reader -/

namespace Sys2Proof.Machine

namespace Reader

variable {d : Reader}

theorem InBounds.setVisit (h : d.InBounds) {v : Option Visit} (hv : ∀ a t o, v = some (.tune a t o) → 0 < t) :
    ({ d with visit := v } : Reader).InBounds := by
  exact ⟨h.target, hv, h.levels, h.pos⟩

theorem InBounds.setPos (h : d.InBounds) (p : Position) {m : PosMemory} (hm : m.faultCount ≤ 31 ∧ m.collideRun ≤ 2) :
    ({ d with pos := d.pos.set p m } : Reader).InBounds := by
  refine ⟨h.target, h.visit, h.levels, fun q => ?_⟩
  simp only [PerPos.get_set]
  split
  · exact hm
  · exact h.pos q

theorem InBounds.setLevel (h : d.InBounds) (a : Antenna) {k : Nat} (hk : 1 ≤ k ∧ k ≤ 15) :
    ({ d with levels := d.levels.set a k } : Reader).InBounds := by
  refine ⟨h.target, h.visit, fun b => ?_, h.pos⟩
  simp only [PerAnt.get_set]
  split
  · exact hk
  · exact h.levels b

end Reader

namespace State

variable {s t u : State}

theorem setPos_steady (s : State) (p : Position) (m : PosMemory)
    (hm : s.reader.InBounds → m.faultCount ≤ 31 ∧ m.collideRun ≤ 2) :
    s.Steady (s.withReader fun d => { d with pos := d.pos.set p m }) :=
  .of_reader rfl rfl rfl fun h => h.setPos p (hm h)

theorem startVisit_card_steady (s : State) (v : CardVisit) : s.Steady (s.startVisit (.card v)) :=
  .of_reader rfl rfl rfl fun h => h.setVisit fun _ _ _ hv => by cases hv

theorem startVisit_tune_steady (s : State) (a : Antenna) (o : Bool) :
    s.Steady (s.startVisit (.tune a s.reader.settings.target o)) :=
  .of_reader rfl rfl rfl fun h => h.setVisit fun _ _ _ hv => by cases hv; exact h.target

theorem serviceChoice_card {v : Visit} (h : s.serviceChoice = some v) : ∃ c, v = .card c := by
  unfold serviceChoice at h
  split at h
  · cases h; exact ⟨_, rfl⟩
  · cases h; exact ⟨_, rfl⟩
  · cases h

theorem stampChoice_card {v : Visit} (h : s.stampChoice = some v) : ∃ c, v = .card c := by
  unfold stampChoice at h
  split at h
  · cases h
  · obtain ⟨a, _, hv⟩ := Option.map_eq_some_iff.mp h
    exact ⟨_, hv.symm⟩

theorem startScan_steady (s : State) (n : Lane) : s.Steady (s.startScan n) := by
  unfold startScan
  split
  · exact (startVisit_card_steady s _).trans (withReader_steady _ _ rfl rfl rfl rfl)
  · exact .refl s

/-- A tune that the arbiter starts has the target of the settings, which is not 0 (R52). -/
theorem arbiter_steady (s : State) : s.Steady s.arbiter := by
  unfold arbiter
  split
  · exact .refl s
  · split
    · next v hv =>
      obtain ⟨c, rfl⟩ := serviceChoice_card hv
      exact startVisit_card_steady s c
    · split
      · next v hv =>
        obtain ⟨c, rfl⟩ := stampChoice_card hv
        exact startVisit_card_steady s c
      · split
        · exact (startVisit_tune_steady s _ _).trans (withReader_steady _ _ rfl rfl rfl rfl)
        · split
          · exact startScan_steady s _
          · exact .refl s

theorem requestLaneStamp_steady (s : State) (r : StampReq) : s.Steady (s.requestLaneStamp r) :=
  .ite (.refl s) (withReader_steady _ _ rfl rfl rfl rfl)

theorem requestTune_steady (s : State) (a : Antenna) : s.Steady (s.requestTune a) :=
  .ite (.refl s) (withReader_steady _ _ rfl rfl rfl rfl)

theorem orderTune_steady (s : State) (a : Antenna) : s.Steady (s.orderTune a) := by
  unfold orderTune
  apply withReader_steady <;> split <;> rfl

theorem raiseLane_steady (s : State) (n : Lane) (x : LaneNotice) : s.Steady (s.raiseLane n x) :=
  .of_same (by simp) (by simp) (by simp) (by simp)

theorem raiseStation_steady (s : State) (x : StationNotice) : s.Steady (s.raiseStation x) :=
  .of_same (by simp) (by simp) (by simp) (by simp)

theorem raiseAt_steady (s : State) (p : Position) (x : LaneNotice) : s.Steady (s.raiseAt p x) :=
  .of_same (by simp) (by simp) (by simp) (by simp)

/-! ### Outcomes of visits -/

theorem faultCountAfter_le (o : VisitOutcome) {c : Nat} (h : c ≤ 31) : faultCountAfter o c ≤ 31 := by
  cases o <;> simp [faultCountAfter, addSat]; omega

theorem applyFaults_steady (s : State) (p : Position) (a : Antenna) (o : VisitOutcome) :
    s.Steady (s.applyFaults p a o) := by
  unfold applyFaults
  dsimp only
  refine (setPos_steady s p _ fun h => ?_).trans
    (.ite ((requestTune_steady _ _).trans (raiseAt_steady _ _ _)) (.refl _))
  exact ⟨faultCountAfter_le o (h.pos p).1, (h.pos p).2⟩

/-- A run of collides is set back to 0 where it would reach 3 (R49). -/
theorem applyCollide_steady (s : State) (p : Position) (o : VisitOutcome) : s.Steady (s.applyCollide p o) := by
  cases p with
  | ps => exact .refl s
  | lane n =>
    unfold applyCollide
    dsimp only
    refine (setPos_steady s (.lane n) _ fun h => ?_).trans (.ite (raiseLane_steady _ _ _) (.refl _))
    obtain ⟨hcount, hrun⟩ := h.pos (.lane n)
    have hback : ∀ run, run ≤ 3 → (if run = 3 then 0 else run) ≤ 2 := fun run h => by split <;> omega
    exact ⟨hcount, hback _ (by split <;> omega)⟩

theorem applyClip_steady (s : State) (a : Antenna) (o : VisitOutcome) : s.Steady (s.applyClip a o) := by
  refine .ite ⟨id, id, id, fun h => h.setLevel a ?_, id⟩ (.refl s)
  have hlevel := h.levels a
  omega

theorem applyOutcome_steady (s : State) (p : Position) (a : Antenna) (o : VisitOutcome) :
    s.Steady (s.applyOutcome p a o) :=
  ((applyFaults_steady s p a o).trans (applyCollide_steady _ p o)).trans (applyClip_steady _ a o)

end State
end Sys2Proof.Machine

/-! ## Lanes, contexts and the release queue -/

namespace Sys2Proof.Machine
namespace State

variable {s t u : State}

theorem startSignal_steady (s : State) (n : Lane) (k : SignalKind) : s.Steady (s.startSignal n k) :=
  withLane_steady s n _

theorem startTone_steady (s : State) (n : Lane) (p : Pattern) : s.Steady (s.startTone n p) := withLane_steady s n _

theorem putVerdict_steady (s : State) (n : Lane) (v : Verdict) : s.Steady (s.putVerdict n v) :=
  ((withAdm_steady s _).trans (withLane_steady _ n _)).trans (raiseLane_steady _ _ _)

theorem putReport_steady (s : State) (n : Lane) (k : ReportKind) (p : PassNo) : s.Steady (s.putReport n k p) :=
  (withLane_steady s n _).trans (raiseLane_steady _ _ _)

theorem beginContext_steady (s : State) (n : Lane) (c : Context) (note : Note) :
    s.Steady (s.beginContext n c note) :=
  (withLane_steady s n _).trans (withAdm_steady _ _)

theorem endContext_steady (s : State) (n : Lane) : s.Steady (s.endContext n) := by
  unfold endContext
  dsimp only
  split
  · exact ((withLane_steady s n _).trans (withAdm_steady _ _)).trans (updateRecord_steady _ _ _)
  · exact (withLane_steady s n _).trans (withAdm_steady _ _)

theorem grantLane_steady (s : State) (n : Lane) : s.Steady (s.grantLane n) :=
  (withLane_steady s n _).trans (startTone_steady _ n _)

theorem requestStampOf_steady (s t : State) (p : PassNo) (r : PassRecord → StampReq) (h : s.Steady t) :
    s.Steady (match t.record p with
      | some x => t.requestLaneStamp (r x)
      | none => t) := by
  split
  · exact h.trans (requestLaneStamp_steady t _)
  · exact h

theorem grantActions_steady (s : State) (n : Lane) (p : PassNo) (d : NoteData) : s.Steady (s.grantActions n p d) := by
  unfold grantActions
  split
  · exact countLift_steady s _ fun _ => by rfl
  · split
    · exact requestStampOf_steady s _ p _
        ((updateRecord_steady s p _).trans (countLane_steady _ n _ fun _ => by rfl))
    · split
      · exact requestStampOf_steady s s p _ (.refl s)
      · exact .refl s

theorem grant_steady (s : State) (n : Lane) : s.Steady (s.grant n) := by
  have hlane : s.Steady ((s.withLoad fun l => { l with live := l.live + 1 }).grantLane n) :=
    (withLoad_steady s _ rfl).trans (grantLane_steady _ n)
  unfold grant
  dsimp only
  split
  · exact hlane.trans (grantActions_steady _ n _ _)
  · exact hlane

theorem requestRelease_steady (s : State) (n : Lane) (p : PassNo) (cls : Nat) : s.Steady (s.requestRelease n p cls) :=
  .ite (grant_steady s n) ((withLoad_steady s _ rfl).trans (withLane_steady _ n _))

theorem grantHead_steady (s : State) (n : Lane) : s.Steady (s.grantHead n) :=
  ((withLoad_steady s _ rfl).trans (grant_steady _ n)).trans (putVerdict_steady _ n _)

theorem dropEntry_steady (s : State) (n : Lane) (r : WithdrawReason) : s.Steady (s.dropEntry n r) := by
  unfold dropEntry
  dsimp only
  exact (((((withLoad_steady s _ rfl).trans (endContext_steady _ n)).trans (putVerdict_steady _ n _)).trans
    (startSignal_steady _ n _)).trans (startTone_steady _ n _)).trans (countLane_steady _ n _ fun _ => by rfl)

theorem serveHead_steady (s : State) (n : Lane) : s.Steady (s.serveHead n) := by
  unfold serveHead
  split
  · exact dropEntry_steady s n _
  · exact grantHead_steady s n

theorem serviceRounds_steady (k : Nat) : ∀ s : State, s.Steady (serviceRounds k s) := by
  induction k with
  | zero => exact .refl
  | succ k ih =>
    intro s
    unfold serviceRounds
    split
    · exact .refl s
    · exact .ite ((serveHead_steady s _).trans (ih _)) (.refl s)

theorem serviceStep_steady (s : State) : s.Steady s.serviceStep := serviceRounds_steady _ s

theorem withdraw_steady (s : State) (n : Lane) (r : WithdrawReason) : s.Steady (s.withdraw n r) :=
  .ite ((dropEntry_steady s n r).trans (serviceStep_steady _)) (.refl s)

theorem withdrawAll_steady (s : State) : s.Steady s.withdrawAll :=
  .foldl (fun s n => withdraw_steady s n .lowSupply) _ s

theorem handWithdrawal_steady (s : State) (n : Lane) (r : WithdrawReason) : s.Steady (s.handWithdrawal n r) :=
  withLoad_steady s _ rfl

/-! ## The refund engine -/

theorem completeLong_steady (s : State) (res : Result) (b : Body) : s.Steady (s.completeLong res b) :=
  .of_same (by simp) (by simp) (by simp) (by simp)

theorem refuseQuote_steady (s : State) (res : Result) (b : Body) : s.Steady (s.refuseQuote res b) :=
  .of_same (by simp) (by simp) (by simp) (by simp)

theorem placeHold_steady (s : State) (r : Reading) (q : Quote) : s.Steady (s.placeHold r q) :=
  .of_same (by simp) (by simp) (by simp) (by simp)

theorem settleWriteBack_steady (s : State) (ok : Bool) : s.Steady (s.settleWriteBack ok) :=
  .of_same (by simp) (by simp) (by simp) (by simp)

/-- A confirmed commit counts the refund; the passages stand. -/
theorem commitConfirmed_steady (s : State) (q : StandingQuote) (seq : Nat) :
    s.Steady (s.commitConfirmed q seq).1 :=
  ((((withRefund_steady s _).trans (updateRecord_steady _ q.pass _)).trans (withRefund_steady _ _)).trans
    (countLift_steady _ _ fun _ => by rfl)).trans (raiseStation_steady _ _)

theorem settleCommit_steady (s : State) (ok : Bool) (echoed : Option PassNo) :
    s.Steady (s.settleCommit ok echoed).1 := by
  unfold settleCommit
  split
  · cases ok with
    | true => exact commitConfirmed_steady s _ _
    | false => exact .of_same (by simp) (by simp) (by simp) (by simp)
  all_goals exact .refl s

theorem settleCommitLong_steady (s : State) (ok : Bool) (echoed : Option PassNo) :
    s.Steady (s.settleCommitLong ok echoed) := by
  have hsettled := settleCommit_steady s ok echoed
  unfold settleCommitLong
  split
  · next h => rw [h] at hsettled; exact hsettled.trans (completeLong_steady _ _ _)
  · next h => rw [h] at hsettled; exact hsettled

theorem settleService_steady (s : State) (r : StampReq) (ok : Bool) : s.Steady (s.settleService r ok) := by
  unfold settleService
  split
  · exact settleCommitLong_steady s ok _
  · exact settleWriteBack_steady s ok
  · exact .refl s

/-! ## Ends of work, and the antenna map -/

theorem endPendingWork_steady (s : State) (p : Position) : s.Steady (s.endPendingWork p) := by
  have hslot : s.Steady (s.withReader fun d => { d with slot := none }) := withReader_steady s _ rfl rfl rfl rfl
  unfold endPendingWork
  cases p with
  | lane n => exact withReader_steady s _ rfl rfl rfl rfl
  | ps =>
    dsimp only
    split
    · exact hslot.trans (refuseQuote_steady _ _ _)
    · exact hslot.trans (settleService_steady _ _ _)
    · exact hslot

theorem endIfUnworkable_steady (s : State) (p : Position) : s.Steady (s.endIfUnworkable p) :=
  .ite (endPendingWork_steady s p) (.refl s)

theorem remapPosition_steady (s : State) (p : Position) : s.Steady (s.remapPosition p) :=
  ((setPos_steady s p _ fun _ => by simp).trans (endIfUnworkable_steady _ p)).trans (raiseAt_steady _ _ _)

theorem applyMap_steady (s : State) (changes : List (Position × Option Antenna)) : s.Steady (s.applyMap changes) :=
  (withReader_steady s _ rfl rfl rfl rfl).trans (.foldl (fun s c => remapPosition_steady s c.1) changes _)

theorem applyDeferred_steady (s : State) : s.Steady s.applyDeferred :=
  (withReader_steady s _ rfl rfl rfl rfl).trans (applyMap_steady _ _)

theorem endVisit_steady (s : State) : s.Steady s.endVisit :=
  have hfreed : s.applyDeferred.Steady (s.applyDeferred.withReader fun d => { d with visit := none }) :=
    .of_reader rfl rfl rfl fun h => h.setVisit fun _ _ _ hv => by cases hv
  ((applyDeferred_steady s).trans hfreed).trans (arbiter_steady _)

theorem installMap_steady (s : State) (new : PerPos (Option Antenna)) : s.Steady (s.installMap new) :=
  (withReader_steady s _ rfl rfl rfl rfl).trans (applyMap_steady _ _)

/-! ## Card answers -/

theorem learn_steady (s : State) (pos : Position) (p : PassNo) : s.Steady (s.learn pos p) := by
  unfold learn
  split
  · split
    · exact .of_same (by simp) (by simp) (by simp) (by simp)
    · exact countLift_steady s _ fun _ => by rfl
  · exact .refl s

theorem mergeCard_steady (s : State) (c : Card) (r : PassRecord) : s.Steady (s.mergeCard c r).1 :=
  .of_same (by simp) (by simp) (by simp) (by simp)

theorem seeRecord_steady (s : State) (p : PassNo) : s.Steady (s.seeRecord p) := updateRecord_steady s _ _

theorem reachTable_steady (s : State) (n : Lane) (c : Card) : s.Steady (s.reachTable n c).1 := by
  have hseen := seeRecord_steady s c.pass
  have hlearned := learn_steady s (.lane n) c.pass
  unfold reachTable
  dsimp only
  split
  · split <;> exact hseen
  · split
    · split
      · exact hseen.trans (mergeCard_steady _ _ _)
      · exact hseen
    · split
      · exact hlearned.trans (mergeCard_steady _ _ _)
      · exact hlearned

theorem refuse_steady (s : State) (n : Lane) (c : Card) (v : Verdict) (r : RefuseReason) :
    s.Steady (s.refuse n c v r) :=
  ((((putVerdict_steady s n _).trans (withAdm_steady _ _)).trans (countRefusal_steady _ n r)).trans
    (startSignal_steady _ n _)).trans (startTone_steady _ n _)

theorem writeBack_steady (s : State) (n : Lane) (c : Card) (b : Basis) : s.Steady (s.writeBack n c b) :=
  .ite (requestStampOf_steady s s c.pass _ (.refl s)) (.refl s)

theorem admitCard_steady (s : State) (n : Lane) (c : Card) (b : Basis) (rule : LaneRule) :
    s.Steady (s.admitCard n c b rule) := by
  unfold admitCard
  dsimp only
  split
  · exact (((beginContext_steady s n _ _).trans (updateRecord_steady _ _ _)).trans
      (requestRelease_steady _ n _ _)).trans (putVerdict_steady _ n _)
  · exact ((((putVerdict_steady s n _).trans (startSignal_steady _ n _)).trans (startTone_steady _ n _)).trans
      (countLane_steady _ n _ fun _ => by rfl)).trans (writeBack_steady _ n c b)

theorem judge_steady (s : State) (n : Lane) (c : Card) (b : Basis) : s.Steady (s.judge n c b) := by
  unfold judge
  split
  · exact (refuse_steady s n c _ _).trans (writeBack_steady _ n c b)
  · dsimp only
    split
    · exact (refuse_steady s n c _ _).trans (writeBack_steady _ n c b)
    · exact admitCard_steady s n c b _
    · exact .refl s

theorem admission_steady (s : State) (n : Lane) (c : Card) : s.Steady (s.admission n c) :=
  .ite (refuse_steady s n c _ _) (.ite (refuse_steady s n c _ _) (.ite (refuse_steady s n c _ _)
    ((reachTable_steady s n c).trans (judge_steady _ n c _))))

theorem scanAnswer_steady (s : State) (n : Lane) (c : Card) : s.Steady (s.scanAnswer n c) :=
  .ite (.refl s) (.ite (.of_same rfl rfl rfl rfl) (admission_steady s n c))

theorem requestWriteBackStamp_steady (s : State) (r : StampReq) : s.Steady (s.requestWriteBackStamp r) :=
  .ite (settleWriteBack_steady s false) (withReader_steady s _ rfl rfl rfl rfl)

theorem quoteRecord_steady (s : State) (rd : Reading) (c : Card) (b : Basis) (r : PassRecord) (t : Tariff) :
    s.Steady (s.quoteRecord rd c b r t) :=
  .ite ((withRefund_steady s _).trans (requestWriteBackStamp_steady _ _)) (placeHold_steady s rd _)

theorem quoteAbsent_steady (s : State) (rd : Reading) (c : Card) (t : Tariff) : s.Steady (s.quoteAbsent rd c t) := by
  have hlearned := learn_steady s .ps c.pass
  unfold quoteAbsent
  dsimp only
  split
  · exact hlearned.trans (refuseQuote_steady _ _ _)
  · split
    · exact (hlearned.trans (mergeCard_steady _ c _)).trans (quoteRecord_steady _ _ _ _ _ _)
    · exact hlearned.trans (mergeCard_steady _ c _)

theorem quoteCard_steady (s : State) (c : Card) : s.Steady (s.quoteCard c) := by
  have hread : ∀ x, s.Steady (s.withCtx x) := fun _ => withRefund_steady s _
  have hrefused : ∀ {t : State}, s.Steady t → ∀ res body, s.Steady (t.refuseQuote res body) :=
    fun h res body => h.trans (refuseQuote_steady _ res body)
  unfold quoteCard
  dsimp only
  refine .ite (hrefused (hread _) _ _) (.ite (hrefused (hread _) _ _) ?_)
  have hseen := (hread (.reading (some
    { pass := c.pass, readDay := s.time.lastDay, seq := c.seq, quote := none }))).trans (seeRecord_steady _ c.pass)
  generalize seeRecord _ _ = t at hseen ⊢
  split
  · next r _ =>
    have hmerged : s.Steady (if (t.holderOf c.pass).isSome then (t, recordBasis c r) else t.mergeCard c r).1 := by
      split
      · exact hseen
      · exact hseen.trans (mergeCard_steady t c r)
    generalize (if (t.holderOf c.pass).isSome then (t, recordBasis c r) else t.mergeCard c r) = m at hmerged ⊢
    split
    · split
      · exact hrefused hmerged _ _
      · exact hmerged.trans (quoteRecord_steady _ _ _ _ _ _)
    · exact hmerged
  · have hlearned := hseen.trans (learn_steady t .ps c.pass)
    split
    · split
      · exact hrefused hseen _ _
      · exact hseen
    · refine .ite (hrefused hseen _ _) (.ite (hrefused ?_ _ _) ?_)
      · split
        · exact hlearned.trans (mergeCard_steady _ c _)
        · exact hlearned
      · split
        · exact hrefused hseen _ _
        · exact hseen.trans (quoteAbsent_steady t _ c _)

end State
end Sys2Proof.Machine

/-! ## Passages and inputs -/

namespace Sys2Proof.Machine
namespace State

variable {s t u : State}

theorem expireGrant_steady (s : State) (n : Lane) : s.Steady (s.expireGrant n) := by
  unfold expireGrant
  dsimp only
  exact ((((endContext_steady s n).trans (withLoad_steady _ _ rfl)).trans
    (countLane_steady _ n _ fun _ => by rfl)).trans (putReport_steady _ n _ _)).trans (serviceStep_steady _)

/-- A completed grant raises one of the four counters that make up the total (R123). -/
theorem forward_admitted_or_manual (b : Bool) (c : LaneCounts) :
    (if b then { c with admitted := c.admitted + 1 } else { c with manual := c.manual + 1 }).forward =
      c.forward + 1 := by
  cases b <;> simp [LaneCounts.forward] <;> omega

theorem completeGrant_steady (s : State) (n : Lane) : s.Steady (s.completeGrant n) := by
  have hwritten : s.Steady (match s.ctxPass n with
      | some p => if s.noteUnlearned n then s else s.updateRecord p (passageWrite s.time.runSec s.time.lastDay n)
      | none => s) := by
    split
    · exact .ite (.refl s) (updateRecord_steady s _ _)
    · exact .refl s
  unfold completeGrant
  dsimp only
  exact ((((hwritten.trans (withLoad_steady _ _ rfl)).trans (occupancyUp_steady _)).trans
    (countPassage_steady _ n _ (forward_admitted_or_manual _))).trans (putReport_steady _ n _ _)).trans
    (endContext_steady _ n)

theorem freePassage_steady (s : State) (n : Lane) : s.Steady (s.freePassage n) := by
  unfold freePassage
  dsimp only
  exact ((occupancyUp_steady s).trans
    (countPassage_steady _ n _ fun c => by simp [LaneCounts.forward]; omega)).trans (putReport_steady _ n _ _)

theorem intrusion_steady (s : State) (n : Lane) : s.Steady (s.intrusion n) := by
  unfold intrusion
  dsimp only
  exact (((((occupancyUp_steady s).trans
    (countPassage_steady _ n _ fun c => by simp [LaneCounts.forward]; omega)).trans (putReport_steady _ n _ _)).trans
    (raiseStation_steady _ _)).trans (startSignal_steady _ n _)).trans (startTone_steady _ n _)

theorem reversePassage_steady (s : State) (n : Lane) : s.Steady (s.reversePassage n) := by
  unfold reversePassage
  dsimp only
  exact (((occupancyDown_steady s).trans (countLane_steady _ n _ fun _ => by rfl)).trans
    (putReport_steady _ n _ _)).trans (serviceStep_steady _)

theorem forwardPassage_steady (s : State) (n : Lane) : s.Steady (s.forwardPassage n) := by
  unfold forwardPassage
  split
  · exact completeGrant_steady s n
  all_goals
    split
    · exact freePassage_steady s n
    all_goals exact intrusion_steady s n

theorem handOver_steady (s : State) (n : Lane) (h : HandOver) : s.Steady (s.handOver n h) := by
  cases h with
  | entryBegun => exact .ite (withLane_steady s n _) (.refl s)
  | exitBegun => exact .refl s
  | forward => exact forwardPassage_steady s n
  | reverse => exact reversePassage_steady s n
  | cleared seen =>
    exact .ite (.refl s) (.ite (.ite (expireGrant_steady s n) (withLane_steady s n _)) (.refl s))
  | nothing => exact .refl s

theorem beamChanged_steady (s : State) (n : Lane) (b : Beam) : s.Steady (s.beamChanged n b) :=
  (withLane_steady s n _).trans (handOver_steady _ n _)

theorem beamIfDue_steady (s : State) (n : Lane) (b : Beam) : s.Steady (s.beamIfDue n b) :=
  .ite (beamChanged_steady s n b) (.refl s)

theorem boardPulse_steady (s : State) : s.Steady s.boardPulse := by
  unfold boardPulse
  dsimp only
  exact (((occupancyDown_steady s).trans (countLift_steady _ _ fun _ => by rfl)).trans
    (withCounts_steady _ _ rfl rfl rfl)).trans (serviceStep_steady _)

theorem boardChanged_steady (s : State) : s.Steady s.boardChanged :=
  have hboard : s.Steady (s.withLoad fun l => { l with board := s.load.board.settle }) := withLoad_steady s _ rfl
  .ite (hboard.trans (boardPulse_steady _)) hboard

theorem boardIfDue_steady (s : State) : s.Steady s.boardIfDue := .ite (boardChanged_steady s) (.refl s)

theorem settleInputs_steady (s : State) : s.Steady s.settleInputs :=
  (Steady.foldl (fun t n => (beamIfDue_steady t n .enb).trans (beamIfDue_steady _ n .exb)) _ s).trans
    (boardIfDue_steady _)

/-! ## Completions of visits -/

theorem serviceReadMissed_steady (s : State) : s.Steady s.serviceReadMissed := by
  unfold serviceReadMissed
  split
  · exact .ite ((withReader_steady s _ rfl rfl rfl rfl).trans (refuseQuote_steady _ _ _))
      (withReader_steady s _ rfl rfl rfl rfl)
  all_goals exact .refl s

theorem serviceReadAnswered_steady (s : State) (c : Card) : s.Steady (s.serviceReadAnswered c) := by
  unfold serviceReadAnswered
  split
  · exact (withReader_steady s _ rfl rfl rfl rfl).trans (quoteCard_steady _ c)
  all_goals exact .refl s

theorem deliverRead_steady (s : State) (v : CardVisit) (o : VisitOutcome) (frame : List Byte) :
    s.Steady (s.deliverRead v o frame) := by
  unfold deliverRead
  split
  · exact .ite (scanAnswer_steady s _ _) (.refl s)
  · exact .ite (serviceReadAnswered_steady s _) (serviceReadMissed_steady s)

theorem readVisit_steady (s : State) (r : Reception) : s.Steady (s.readVisit r) := by
  unfold readVisit
  split
  · exact .ite (((applyOutcome_steady s _ _ _).trans (deliverRead_steady _ _ _ _)).trans (endVisit_steady _)) (.refl s)
  all_goals exact .refl s

theorem settleLaneStamp_steady (s : State) (n : Lane) (o : VisitOutcome) (frame : List Byte) :
    s.Steady (s.settleLaneStamp n o frame) := by
  unfold settleLaneStamp
  split
  · exact .refl s
  · exact .ite ((withReader_steady s _ rfl rfl rfl rfl).trans (updateRecord_steady _ _ _))
      (.ite (withReader_steady s _ rfl rfl rfl rfl) (withReader_steady s _ rfl rfl rfl rfl))

theorem settleServiceStamp_steady (s : State) (o : VisitOutcome) (frame : List Byte) :
    s.Steady (s.settleServiceStamp o frame) := by
  have hfreed : s.Steady (s.withReader fun d => { d with slot := none }) := withReader_steady s _ rfl rfl rfl rfl
  unfold settleServiceStamp
  split
  · exact .ite ((hfreed.trans (updateRecord_steady _ _ _)).trans (settleService_steady _ _ true))
      (.ite (withReader_steady s _ rfl rfl rfl rfl) (hfreed.trans (settleService_steady _ _ false)))
  all_goals exact .refl s

theorem stampAttempt_steady (s : State) (r : Reception) : s.Steady (s.stampAttempt r) := by
  unfold stampAttempt
  split
  · refine .ite ?_ (.refl s)
    have hout := fun v : CardVisit => applyOutcome_steady s v.position v.antenna (outcomeOf 14 0xB6 r)
    unfold stampCompleted
    dsimp only
    split
    · exact ((hout _).trans (settleLaneStamp_steady _ _ _ _)).trans (endVisit_steady _)
    · exact ((hout _).trans (settleServiceStamp_steady _ _ _)).trans (endVisit_steady _)
  all_goals exact .refl s

/-! ## Tunes -/

theorem ceilDiv_pos {a b : Nat} (ha : 0 < a) (hb : 0 < b) : 0 < ceilDiv a b :=
  Nat.div_pos (by omega) hb

/-- A tune leaves a level from 1 to 15, whatever it measures (R31, R52). -/
theorem computedRecord_newLevel {target level current : Nat} (ht : 0 < target) (hl : 0 < level) (hc : 0 < current) :
    1 ≤ (computedRecord target level current).newLevel ∧ (computedRecord target level current).newLevel ≤ 15 := by
  have hraw : 0 < ceilDiv (target * level) current := ceilDiv_pos (Nat.mul_pos ht hl) hc
  unfold computedRecord
  dsimp only
  split <;> simp; omega

@[simp] theorem openRecord_newLevel (i4 i12 level : Nat) : (openRecord i4 i12 level).newLevel = level := by
  unfold openRecord
  (repeat' split) <;> rfl

theorem tuneOutcome_newLevel {target level : Nat} (i4 i12 : Nat) (ht : 0 < target) (hl : 1 ≤ level ∧ level ≤ 15) :
    1 ≤ (tuneOutcome target i4 i12 level).newLevel ∧ (tuneOutcome target i4 i12 level).newLevel ≤ 15 := by
  unfold tuneOutcome
  split
  · split
    · simpa using hl
    · split
      · exact computedRecord_newLevel ht (by omega) (by omega)
      · exact computedRecord_newLevel ht (by omega) (by omega)
  · split
    · exact hl
    · exact computedRecord_newLevel ht (by omega) (by omega)

theorem applyTune_steady (s : State) (p : Position) (res : TuneResult) : s.Steady (s.applyTune p res) := by
  unfold applyTune
  dsimp only
  have hended := (setPos_steady s p
    (if res.good then { s.reader.pos.get p with fault := false, degraded := false, faultCount := 0 }
      else { s.reader.pos.get p with fault := true }) fun h => by
        obtain ⟨hcount, hrun⟩ := h.pos p
        split
        · exact ⟨Nat.zero_le _, hrun⟩
        · exact ⟨hcount, hrun⟩).trans (endIfUnworkable_steady _ p)
  split
  · exact .ite (hended.trans (raiseAt_steady _ _ _)) hended
  all_goals exact hended.trans (raiseAt_steady _ _ _)

/-- The tune in flight has a target above 0, so its record has a level in range (R31, R52). -/
theorem tuneVisit_steady (s : State) (i4 i12 : Nat) : s.Steady (s.tuneVisit i4 i12) := by
  unfold tuneVisit
  split
  · next a target ordered hv =>
    have hrec : s.Steady (s.withReader fun d =>
        { d with tunes := d.tunes.set a (some (tuneOutcome target i4 i12 (s.reader.levels.get a)))
                 levels := d.levels.set a (tuneOutcome target i4 i12 (s.reader.levels.get a)).newLevel }) :=
      .of_reader rfl rfl rfl fun h =>
        have hset := h.setLevel a (tuneOutcome_newLevel i4 i12 (h.visit a target ordered hv) (h.levels a))
        ⟨hset.target, hset.visit, hset.levels, hset.pos⟩
    unfold tuneCompleted
    dsimp only
    refine .trans ?_ (endVisit_steady _)
    refine .trans (.trans ?_ (raiseStation_steady _ .antenna)) (.ite (completeLong_steady _ _ _) (.refl _))
    split
    · exact hrec.trans (applyTune_steady _ _ _)
    · exact hrec
  all_goals exact .refl s

end State
end Sys2Proof.Machine

/-! ## Orders -/

namespace Sys2Proof.Machine

theorem takeOrder_steady (p : Port) (code : Byte) (done : DoneNotice) (rights : Rights) {block : State → Answer}
    (hblock : ∀ s : State, s.Steady (block s).state) (s : State) : s.Steady (takeOrder p code done rights block s) := by
  have hreply : ∀ (t : State) (res : Result) (body : Body), t.Steady (t.replyNow p code done res body) :=
    fun _ _ _ => .of_same (by simp) (by simp) (by simp) (by simp)
  have htaken := s.withPort_steady p fun c => { c with slot := .empty, delivered := false, sent := [] }
  have hanswered := htaken.trans (hblock _)
  unfold takeOrder State.running
  refine .ite (.refl s) (.ite (s.withPort_steady p _) ?_)
  split
  · exact s.withPort_steady p _
  all_goals
    refine .ite ?_ (htaken.trans (hreply _ _ _))
    dsimp only
    split
    · exact hanswered.trans (hreply _ _ _)
    · exact hanswered.trans (State.withPort_steady _ p _)

theorem changeMode_steady (s : State) (n : Lane) (m : Mode) (station : Bool) : s.Steady (s.changeMode n m station) := by
  unfold State.changeMode
  dsimp only
  exact (((((s.withLane_steady n _).trans (.ite (State.handWithdrawal_steady _ n _) (.refl _))).trans
    (.ite (State.withAdm_steady _ _) (.refl _))).trans
    (.ite (State.raiseLane_steady _ n _) (.refl _)))).trans (State.arbiter_steady _)

theorem laneModeBlock_steady (station : Bool) (lane mode : Byte) (s : State) :
    s.Steady (laneModeBlock station lane mode s).state := by
  unfold laneModeBlock
  split
  · exact .ite (.refl s) (changeMode_steady s _ _ _)
  · exact .refl s

theorem setLanes_steady (s : State) (ns : List Lane) (x : LaneSettings) (d : Nat) : s.Steady (s.setLanes ns x d) := by
  have hset : s.Steady (ns.foldl (fun s n => s.setLane n x) s) :=
    .foldl (fun t n => t.withLane_steady n _) ns s
  have hdebounce : ∀ t : State, t.Steady { t with debounce := d } := fun _ => .of_same rfl rfl rfl rfl
  exact ((hset.trans (hdebounce _)).trans (State.settleInputs_steady _)).trans (State.arbiter_steady _)

theorem manualGrantBlock_steady (lane : Byte) (s : State) : s.Steady (manualGrantBlock lane s).state := by
  unfold manualGrantBlock
  split
  · exact .refl s
  · split
    · exact .refl s
    · split
      · exact .refl s
      · exact (((State.beginContext_steady s _ _ _).trans (State.requestRelease_steady _ _ _ _)).trans
          (State.putVerdict_steady _ _ _)).trans (State.arbiter_steady _)

theorem loadingSetBlock_steady (limit hold : Nat) (s : State) : s.Steady (loadingSetBlock limit hold s).state := by
  unfold loadingSetBlock
  split
  · exact ((s.withLoad_steady _ (by rfl)).trans (State.serviceStep_steady _)).trans (State.arbiter_steady _)
  · exact .refl s

/-- READER SET accepts a target from 50 (R55). -/
theorem readerSettingsOf_target {attempts threshold coarse fine window : Byte} {target : BitVec 16} {x : ReaderSettings}
    (h : readerSettingsOf attempts threshold coarse fine window target = some x) : 0 < x.target := by
  unfold readerSettingsOf at h
  split at h
  · cases h
    simp only
    omega
  · cases h

theorem readerSetBlock_steady {x : Option ReaderSettings} (hx : ∀ y, x = some y → 0 < y.target) (s : State) :
    s.Steady (readerSetBlock x s).state := by
  unfold readerSetBlock
  split
  · next y => exact .of_reader rfl rfl rfl fun h => ⟨hx y rfl, h.visit, h.levels, h.pos⟩
  · exact .refl s

theorem antennaMapBlock_steady (m : Option (PerPos (Option Antenna))) (s : State) :
    s.Steady (antennaMapBlock m s).state := by
  unfold antennaMapBlock
  split
  · exact (State.installMap_steady s _).trans (State.arbiter_steady _)
  · exact .refl s

theorem antennaTuneBlock_steady (a : Option Antenna) (s : State) : s.Steady (antennaTuneBlock a s).state := by
  unfold antennaTuneBlock
  split
  · exact .refl s
  · split
    · exact .refl s
    · exact (State.orderTune_steady s _).trans (State.arbiter_steady _)

theorem editPass_steady (p : PassNo) (st : Standing) (create : Bool) (s : State) :
    s.Steady (editPass p st create s).state := by
  have hhanded : ∀ t : State, t.Steady (t.handBlocked p st) := fun t => by
    unfold State.handBlocked
    split
    · exact .ite (State.handWithdrawal_steady t _ _) (.refl t)
    all_goals exact .refl t
  unfold editPass
  split
  · exact .refl s
  · split
    · split
      · exact .refl s
      · exact (State.updateRecord_steady s _ _).trans (hhanded _)
    · split
      · exact .refl s
      · split
        · exact .refl s
        · exact (State.withTable_steady s _).trans (hhanded _)

theorem commitStamp_steady (s : State) (q : StandingQuote) : s.Steady (s.commitStamp q).state := by
  unfold State.commitStamp
  split
  · exact State.settleCommit_steady s false none
  · split
    · exact (s.withReader_steady _ (by rfl) (by rfl) (by rfl) (by rfl)).trans (State.arbiter_steady _)
    · exact .refl s

theorem refundQuoteBlock_steady (s : State) : s.Steady (refundQuoteBlock s).state := by
  unfold refundQuoteBlock
  split
  · exact .refl s
  split
  · exact .refl s
  split
  · exact .refl s
  split
  · exact .refl s
  exact ((State.withRefund_steady s _).trans (State.withReader_steady _ _ (by rfl) (by rfl) (by rfl) (by rfl))).trans
    (State.arbiter_steady _)

theorem refundCommitBlock_steady (quote : Nat) (s : State) : s.Steady (refundCommitBlock quote s).state := by
  have hbegun : ∀ q, s.Steady (s.beginCommit q) := fun q =>
    (State.withRefund_steady s _).trans (State.raiseStation_steady _ _)
  unfold refundCommitBlock
  split
  · next q _ =>
    split
    · exact .refl s
    split
    · exact .refl s
    split
    · exact .refl s
    exact (hbegun q).trans (commitStamp_steady _ q)
  all_goals exact .refl s

/-! ## The clock -/

theorem rollover_steady (s : State) (day : Nat) : s.Steady (s.rollover day) :=
  (((s.withTime_steady _).trans (State.roll_steady _ day)).trans (State.withAdm_steady _ _)).trans
    (State.raiseStation_steady _ _)

theorem setClock_steady (s : State) (day tod hour : Nat) : s.Steady (s.setClock day tod hour) := by
  unfold State.setClock
  dsimp only
  exact ((State.Steady.ite (rollover_steady s day) (.refl s)).trans (State.withTime_steady _ _)).trans
    (.ite (State.closeBin_steady _ _) (.refl _))

theorem advanceTod_steady (s : State) (tod : Nat) : s.Steady (s.advanceTod tod) := by
  have hday : ∀ t : State, t.Steady t.dayBoundary := fun t =>
    .ite (rollover_steady t _) (State.raiseStation_steady t _)
  unfold State.advanceTod
  dsimp only
  exact ((s.withTime_steady _).trans (.ite (hday _) (.refl _))).trans (.ite (State.closeBin_steady _ _) (.refl _))

theorem secondBoundary_steady (s : State) : s.Steady s.secondBoundary := by
  unfold State.secondBoundary
  dsimp only
  split
  · exact (s.withTime_steady _).trans (advanceTod_steady _ _)
  · exact s.withTime_steady _

theorem orderEffect_steady (i : Instr) (s : State) : s.Steady (orderEffect i s) := by
  cases i with
  | passPut p pass state =>
    refine takeOrder_steady _ _ _ _ (fun t => ?_) s
    unfold passPutBlock
    split
    · exact editPass_steady _ _ _ t
    · exact .refl t
  | passBlock p pass => exact takeOrder_steady _ _ _ _ (editPass_steady _ _ _) s
  | passUnblock p pass => exact takeOrder_steady _ _ _ _ (editPass_steady _ _ _) s
  | readerSet p attempts threshold coarse fine window target =>
    exact takeOrder_steady _ _ _ _ (readerSetBlock_steady fun _ => readerSettingsOf_target) s
  | antennaMap p p0 p1 p2 p3 ps => exact takeOrder_steady _ _ _ _ (antennaMapBlock_steady _) s
  | antennaTune p antenna => exact takeOrder_steady _ _ _ _ (antennaTuneBlock_steady _) s
  | laneMode p lane mode => exact takeOrder_steady _ _ _ _ (laneModeBlock_steady _ _ _) s
  | laneSet p lane window debounce high low mute =>
    refine takeOrder_steady _ _ _ _ (fun t => ?_) s
    unfold laneSetBlock
    split
    · exact setLanes_steady t _ _ _
    · exact .refl t
  | manualGrant p lane => exact takeOrder_steady _ _ _ _ (manualGrantBlock_steady _) s
  | loadingSet p limit hold => exact takeOrder_steady _ _ _ _ (loadingSetBlock_steady _ _) s
  | refundQuote p => exact takeOrder_steady _ _ _ _ refundQuoteBlock_steady s
  | refundCommit p quote => exact takeOrder_steady _ _ _ _ (refundCommitBlock_steady _) s
  | clockSet p day time hour =>
    refine takeOrder_steady _ _ _ _ (fun t => ?_) s
    unfold clockSetBlock
    split
    · exact setClock_steady t _ _ _
    · exact .refl t
  | _ => exact .of_same (by simp [orderEffect]) (by simp [orderEffect]) (by simp [orderEffect]) (by simp [orderEffect])

end Sys2Proof.Machine

/-! ## Frames, the supply, and start-ups -/

namespace Sys2Proof.Machine

theorem refuseFrame_steady (s : State) (p : Port) (code : Byte) (res : Result) : s.Steady (s.refuseFrame p code res) :=
  .of_same (by simp) (by simp) (by simp) (by simp)

theorem checkFrame_steady (p : Port) (code : Byte) (bytes : List Byte) (insideByte : Bool) (s : State) :
    s.Steady (checkFrame p code bytes insideByte s) := by
  unfold checkFrame
  refine .ite (refuseFrame_steady s p code _) ?_
  split
  · exact refuseFrame_steady s p code _
  · refine .ite (refuseFrame_steady s p code _) ?_
    unfold orderEffectOf
    split
    · exact orderEffect_steady _ s
    · exact takeOrder_steady _ _ _ _ (fun t => .refl t) s

theorem takeFrame_steady (s : State) (p : Port) (bytes : List Byte) (insideByte : Bool) :
    s.Steady (s.takeFrame p bytes insideByte) := by
  have hport : ∀ f, s.Steady (s.withPort p f) := s.withPort_steady p
  have hfree : ∀ t : State, t.Steady { t with free := s.free + 1 } := fun _ => .of_same rfl rfl rfl rfl
  unfold State.takeFrame
  refine .ite (hport _) ?_
  split
  · exact .ite (hport _) (.refl s)
  · exact .ite ((refuseFrame_steady s p _ _).trans (hfree _)) (.refl s)
  · refine .ite (hport _) ?_
    split
    · exact hport _
    all_goals exact checkFrame_steady _ _ _ _ s

theorem running_steady {s : State} {f : State → State} (h : s.Steady (f s)) : s.Steady (s.running f) :=
  .ite (.refl s) h

theorem enterDown_steady (s : State) : s.Steady s.enterDown :=
  (s.withSupply_steady _).trans (State.withdrawAll_steady _)

theorem enterLow_steady (s : State) : s.Steady s.enterLow :=
  ((s.withSupply_steady _).trans (State.raiseStation_steady _ _)).trans (State.withdrawAll_steady _)

theorem monitorRunning_steady (s : State) : s.Steady s.monitorRunning := by
  unfold State.monitorRunning
  split
  · exact .ite (enterDown_steady s) (.ite (enterLow_steady s) (.refl s))
  · exact .ite (enterDown_steady s) (s.withSupply_steady _)
  · exact .refl s

theorem enterRun_steady (s : State) : s.Steady s.enterRun :=
  (((s.withSupply_steady _).trans (State.raiseStation_steady _ _)).trans (State.serviceStep_steady _)).trans
    (State.arbiter_steady _)

theorem countedPulse_steady (s : State) : s.Steady s.countedPulse :=
  .of_same (by simp) (by simp) (by simp) (by simp)

/-! ### Start-ups -/

/-- The cold values are in range, and both count sets are empty (Table 10-2). -/
theorem State.coldContent_reader_counts (s : State) :
    0 < s.coldContent.reader.settings.target ∧
      (∀ a, 1 ≤ s.coldContent.reader.levels.get a ∧ s.coldContent.reader.levels.get a ≤ 15) ∧
      s.coldContent.counts.agree := by
  refine ⟨by simp [State.coldContent, ReaderSettings.cold], fun a => by simp [State.coldContent], ?_, ?_⟩
  · simp [State.coldContent, CountSet.agrees, CountSet.zero, LiftCounts.zero, LaneCounts.zero, LaneCounts.forward]
  · simp [State.coldContent]

theorem Reader.start_inBounds {d : Reader} (htarget : 0 < d.settings.target)
    (hlevels : ∀ a, 1 ≤ d.levels.get a ∧ d.levels.get a ≤ 15) : d.start.InBounds where
  target := htarget
  visit _ _ _ h := by cases h
  levels := hlevels
  pos p := by
    rcases p with n | _
    · cases n <;> simp [Reader.start, Reader.startPos, PosMemory.start, PerPos.get, PerLane.get]
    · simp [Reader.start, Reader.startPos, PosMemory.start, PerPos.get]

theorem LaneUnit.start_lamp (u : LaneUnit) : u.start.lamp = u.start.lampState := rfl

/-- A start-up empties occupancy, ring and fault memories and shows every lamp anew; the target, the levels and the count
sets are those of the retained content, as it stands or cold (R57, R103, R118, R129, R186, R187). -/
theorem startUp_steady (s : State) (cause : StartCause) (selected : PerPort Bool) :
    s.Steady (s.startUp cause selected) := by
  unfold State.startUp
  dsimp only
  refine .trans ?_ (State.arbiter_steady _)
  have hstart : ∀ c : State, (s.reader.InBounds → 0 < c.reader.settings.target ∧
      ∀ a, 1 ≤ c.reader.levels.get a ∧ c.reader.levels.get a ≤ 15) → (s.counts.agree → c.counts.agree) →
      ∀ adm debounce refund table time ports supply free pending, s.Steady
        { table := table, reader := c.reader.start, adm := adm, lanes := c.lanes.map LaneUnit.start,
          debounce := debounce, load := c.load.start, counts := c.counts.start, refund := refund, time := time,
          ports := ports, supply := supply, free := free, pending := pending } := by
    intro c hreader hcounts adm debounce refund table time ports supply free pending
    exact
      { occupancy := fun _ => Nat.zero_le _
        ring := fun _ => Nat.zero_le _
        sums := hcounts
        reader := fun h => Reader.start_inBounds (hreader h).1 (hreader h).2
        lamps := fun _ n => by rw [PerLane.get_map]; exact LaneUnit.start_lamp _ }
  cases hvalid : s.supply.checkValid with
  | true => exact hstart s.warmContent (fun h => ⟨h.target, h.levels⟩) id _ _ _ _ _ _ _ _ _
  | false =>
    obtain ⟨htarget, hlevels, hcounts⟩ := s.coldContent_reader_counts
    exact hstart s.coldContent (fun _ => ⟨htarget, hlevels⟩) (fun _ => hcounts) _ _ _ _ _ _ _ _ _

/-! ## Commands and steps -/

theorem exec_steady (i : Instr) (s : State) : ∃ t, exec i s = .next t ∧ s.Steady t := by
  have event : ∀ f : State → State, exec i s = .next (s.running f) → s.Steady (f s) →
      ∃ t, exec i s = .next t ∧ s.Steady t := fun f h hf => ⟨_, h, running_steady hf⟩
  have order : exec i s = .next (orderEffect i s) → ∃ t, exec i s = .next t ∧ s.Steady t :=
    fun h => ⟨_, h, orderEffect_steady i s⟩
  have port : ∀ p f, s.Steady (s.withPort p f) := s.withPort_steady
  cases i with
  | orderFrame p bytes insideByte => exact event _ rfl (takeFrame_steady s p bytes insideByte)
  | orderFrameDiscarded p =>
    refine event _ rfl ?_
    split
    · exact port _ _
    all_goals exact .refl s
  | fetchTransaction p clocked => exact event _ rfl (.ite (port _ _) (port _ _))
  | fetchStatusFixed p => exact event _ rfl (.ite (.refl s) (port _ _))
  | readVisitCompletion r => exact event _ rfl (State.readVisit_steady s r)
  | stampAttemptCompletion r => exact event _ rfl (State.stampAttempt_steady s r)
  | tuneCompletion i4 i12 => exact event _ rfl (State.tuneVisit_steady s i4 i12)
  | beamRawChange n m broken => exact ⟨_, rfl, s.withLane_steady n _⟩
  | beamDebouncedChange n m =>
    exact event _ rfl (.ite ((State.beamChanged_steady s n m).trans (State.arbiter_steady _)) (.refl s))
  | boardRawChange active => exact ⟨_, rfl, s.withLoad_steady _ rfl⟩
  | boardPulse => exact event _ rfl (.ite ((State.boardChanged_steady s).trans (State.arbiter_steady _)) (.refl s))
  | boardDebouncedInactive => exact event _ rfl (.ite (.refl s) (State.boardIfDue_steady s))
  | liftStop active =>
    have hload : s.Steady (s.withLoad fun l => { l with liftStop := active }) := s.withLoad_steady _ rfl
    exact ⟨_, rfl, .ite hload ((hload.trans (State.serviceStep_steady _)).trans (State.arbiter_steady _))⟩
  | grantExpiry n =>
    exact event _ rfl (.ite ((State.expireGrant_steady s n).trans (State.arbiter_steady _)) (.refl s))
  | holdTimeout n =>
    exact event _ rfl (.ite ((State.withdraw_steady s n _).trans (State.arbiter_steady _)) (.refl s))
  | withdrawalTaken n r =>
    exact event _ rfl (.ite (((s.withLoad_steady _ rfl).trans (State.withdraw_steady _ n r)).trans
      (State.arbiter_steady _)) (.refl s))
  | repeatQuietDeadline n => exact event _ rfl (.ite (s.withAdm_steady _) (.refl s))
  | timedSignalEnd n => exact event _ rfl (.ite (s.withLane_steady n _) (.refl s))
  | tonePatternEnd n => exact event _ rfl (.ite (s.withLane_steady n _) (.refl s))
  | refundHoldExpiry =>
    refine event _ rfl ?_
    split
    · exact .of_same (by simp) (by simp) (by simp) (by simp)
    · exact .refl s
  | localSecondBoundary => exact event _ rfl (.ite (secondBoundary_steady s) (.refl s))
  | runMinute => exact event _ rfl (.ite ((s.withTime_steady _).trans (State.closeBin_steady _ _)) (.refl s))
  | stpPulse => exact event _ rfl (.ite (.refl s) (countedPulse_steady s))
  | pulseWatchExpiry =>
    exact event _ rfl (.ite ((s.withTime_steady _).trans (State.raiseStation_steady _ _)) (.refl s))
  | vmainChange band =>
    have hmoved := s.withSupply_steady (Supply.moveVmain band)
    exact ⟨_, rfl, .ite (hmoved.trans (State.withSupply_steady _ _)) (hmoved.trans (monitorRunning_steady _))⟩
  | recoveryTimer => exact event _ rfl (.ite (enterRun_steady s) (.refl s))
  | reset => exact ⟨_, rfl, s.withSupply_steady _⟩
  | startUp cause selected =>
    refine ⟨_, rfl, ?_⟩
    cases cause with
    | power => exact .ite (startUp_steady s _ _) (.refl s)
    | reset =>
      have hreleased := s.withSupply_steady fun u => { u with resetHeld := false }
      exact .ite (.ite (hreleased.trans (startUp_steady _ _ _)) hreleased) (.refl s)
  | vbakFailure => exact ⟨_, rfl, .ite (.of_same rfl rfl rfl rfl) (.refl s)⟩
  | _ => exact order rfl

theorem step_steady {s t : State} (h : step s = .next t) : s.Steady t := by
  have command : ∀ (i : Instr) (u : State), exec i u = .next t → u.Steady t := by
    intro i u hi
    obtain ⟨t', ht', hsteady⟩ := exec_steady i u
    rw [ht'] at hi
    cases hi
    exact hsteady
  unfold step at h
  split at h
  · next c rest _ =>
    have htaken : s.Steady { s with pending := rest } := .of_same rfl rfl rfl rfl
    exact htaken.trans (command c _ h)
  · split at h
    · exact command _ s h
    · cases h
      exact .of_same (by simp) (by simp) (by simp) (by simp)

/-- Settles O59: every operation of the part is `Steady`, and so is every step. -/
theorem everyStepKeepsRangesLampsAndSums : Obligations.EveryStepKeepsRangesLampsAndSums := by
  unfold Obligations.EveryStepKeepsRangesLampsAndSums
  exact ⟨fun _ _ hbounds hlamps h => ⟨(step_steady h).inBounds hbounds, (step_steady h).lampsAgree hlamps⟩,
    fun _ _ hsums h => (step_steady h).sums hsums⟩

end Sys2Proof.Machine

/-! # Tune results (O24) -/

namespace Sys2Proof.Machine

theorem computedRecord_measured (target level current : Nat) :
    (computedRecord target level current).level = level ∧ (computedRecord target level current).current = current := by
  unfold computedRecord
  dsimp only
  split <;> exact ⟨rfl, rfl⟩

/-- The new level is the raw level limited to 15, and the result tells whether the limit acted (R52 step 5). -/
theorem computedRecord_limited (target level current : Nat) :
    (computedRecord target level current).newLevel = min 15 (ceilDiv (target * level) current) ∧
      ((computedRecord target level current).result = .limit ↔ 15 < ceilDiv (target * level) current) ∧
      ((computedRecord target level current).result = .ok ↔ ceilDiv (target * level) current ≤ 15) := by
  unfold computedRecord
  dsimp only
  split
  · next h => exact ⟨by simp; omega, by simpa using h, by simp; omega⟩
  · next h => exact ⟨by simp; omega, by simpa using h, by simp; omega⟩

theorem openRecord_measured (i4 i12 level : Nat) :
    (openRecord i4 i12 level).result = .opened ∧ (openRecord i4 i12 level).current = max i4 i12 ∧
      (i12 < i4 → (openRecord i4 i12 level).level = 4) ∧ (i4 < i12 → (openRecord i4 i12 level).level = 12) := by
  unfold openRecord
  split
  · exact ⟨rfl, by simp; omega, fun _ => rfl, fun _ => by omega⟩
  · split
    · exact ⟨rfl, by simp; omega, fun _ => by omega, fun _ => rfl⟩
    · exact ⟨rfl, by simp; omega, fun _ => by omega, fun _ => by omega⟩

/-! ## The four ranges of the measurements -/

theorem tuneOutcome_open (target level : Nat) {i4 i12 : Nat} (h4 : i4 < 20) (h12 : i12 < 20) :
    tuneOutcome target i4 i12 level = openRecord i4 i12 level := by
  unfold tuneOutcome
  rw [if_pos (by omega), if_pos ⟨h4, h12⟩]

theorem tuneOutcome_short (target i12 level : Nat) {i4 : Nat} (h : 900 < i4) :
    tuneOutcome target i4 i12 level = { level := 4, current := i4, newLevel := level, result := .shorted } := by
  unfold tuneOutcome
  rw [if_neg (by omega), if_pos h]

theorem tuneOutcome_at12 (target level : Nat) {i4 i12 : Nat} (h4 : i4 < 40) (h12 : 20 ≤ i12) :
    tuneOutcome target i4 i12 level = computedRecord target 12 i12 := by
  unfold tuneOutcome
  rw [if_pos h4, if_neg (by omega), if_pos h12]

theorem tuneOutcome_at4 (target level : Nat) {i4 i12 : Nat}
    (h : (40 ≤ i4 ∧ i4 ≤ 900) ∨ (20 ≤ i4 ∧ i4 < 40 ∧ i12 < 20)) :
    tuneOutcome target i4 i12 level = computedRecord target 4 i4 := by
  unfold tuneOutcome
  rcases h with ⟨hlow, hhigh⟩ | ⟨h20, h40, h12⟩
  · rw [if_neg (by omega), if_neg (by omega)]
  · rw [if_pos h40, if_neg (by omega), if_neg (by omega)]

/-- A good result has a level from 1 to 15: OPEN and SHORT, which leave the level, are not good. -/
theorem tuneOutcome_good_newLevel {target i4 i12 level : Nat} (ht : 0 < target)
    (h : (tuneOutcome target i4 i12 level).result = .ok ∨ (tuneOutcome target i4 i12 level).result = .limit) :
    1 ≤ (tuneOutcome target i4 i12 level).newLevel ∧ (tuneOutcome target i4 i12 level).newLevel ≤ 15 := by
  rcases Nat.lt_or_ge 900 i4 with h900 | h900
  · rw [tuneOutcome_short target i12 level h900] at h
    simp at h
  · rcases Nat.lt_or_ge i12 20 with h12 | h12
    · rcases Nat.lt_or_ge i4 20 with h4 | h4
      · rw [tuneOutcome_open target level h4 h12, (openRecord_measured i4 i12 level).1] at h
        simp at h
      · rw [tuneOutcome_at4 target level (by omega)]
        exact State.computedRecord_newLevel ht (by omega) (by omega)
    · rcases Nat.lt_or_ge i4 40 with h4 | h4
      · rw [tuneOutcome_at12 target level h4 h12]
        exact State.computedRecord_newLevel ht (by omega) (by omega)
      · rw [tuneOutcome_at4 target level (.inl ⟨h4, h900⟩)]
        exact State.computedRecord_newLevel ht (by omega) (by omega)

/-- Settles O24, by the four ranges of the measurements. -/
theorem tuneResultFollowsTheMeasurements : Obligations.TuneResultFollowsTheMeasurements := by
  intro target i4 i12 level ht
  refine ⟨fun h4 h12 => ?_, fun h => ?_, fun h4 h12 => ?_, fun h => ?_, tuneOutcome_good_newLevel ht⟩
  · obtain ⟨hresult, hcurrent, hat4, hat12⟩ := openRecord_measured i4 i12 level
    rw [tuneOutcome_open target level h4 h12]
    exact ⟨hresult, State.openRecord_newLevel i4 i12 level, hcurrent, hat4, hat12⟩
  · exact tuneOutcome_short target i12 level h
  · obtain ⟨hlevel, hcurrent⟩ := computedRecord_measured target 12 i12
    rw [tuneOutcome_at12 target level h4 h12]
    exact ⟨hlevel, hcurrent, computedRecord_limited target 12 i12⟩
  · obtain ⟨hlevel, hcurrent⟩ := computedRecord_measured target 4 i4
    rw [tuneOutcome_at4 target level h]
    exact ⟨hlevel, hcurrent, computedRecord_limited target 4 i4⟩

end Sys2Proof.Machine

/-! # Position states and the arbiter (O22) -/

namespace Sys2Proof.Machine

/-- The purpose of the visit that a service slot asks for (line 1 of Table 2-3). -/
def ServiceVisit.purpose : ServiceVisit → Purpose
  | .read _ => .serviceRead
  | .stamp _ => .serviceStamp

namespace State

variable {s : State}

/-! ## Table 2-2 -/

theorem isSome_and_beq_iff {α : Type} [DecidableEq α] (a b : Option α) :
    (a.isSome && a == b) = true ↔ a ≠ none ∧ a = b := by
  cases a <;> simp

theorem posState_tuning {p : Position} (hmap : s.reader.map.get p ≠ none) (h : s.reader.map.get p = s.tuning) :
    s.posState p = .tuning := by
  unfold posState
  rw [if_pos ((isSome_and_beq_iff _ _).mpr ⟨hmap, h⟩)]

variable {p : Position} (htuned : ¬(s.reader.map.get p ≠ none ∧ s.reader.map.get p = s.tuning))
include htuned

theorem posState_fault (h : (s.reader.pos.get p).fault = true) : s.posState p = .fault := by
  unfold posState
  rw [if_neg (mt (isSome_and_beq_iff _ _).mp htuned), if_pos h]

theorem posState_unmapped (hfault : ¬(s.reader.pos.get p).fault = true) (h : s.reader.map.get p = none) :
    s.posState p = .off := by
  unfold posState
  rw [if_neg (mt (isSome_and_beq_iff _ _).mp htuned), if_neg hfault, if_pos (by simpa using h)]

theorem posState_busy (hfault : ¬(s.reader.pos.get p).fault = true) (hmap : s.reader.map.get p ≠ none)
    (h : s.posBusy p = true) : s.posState p = .busy := by
  unfold posState
  rw [if_neg (mt (isSome_and_beq_iff _ _).mp htuned), if_neg hfault, if_neg (by simpa using hmap), if_pos h]

/-- A position without a tune, a fault and work: a lane position scans while its lane is OPEN, PS is OFF. -/
theorem posState_free (hfault : ¬(s.reader.pos.get p).fault = true) (hmap : s.reader.map.get p ≠ none)
    (h : ¬s.posBusy p = true) :
    s.posState p = match p with
      | .lane n => if (s.lane n).mode = .opened then .scan else .off
      | .ps => .off := by
  unfold posState
  rw [if_neg (mt (isSome_and_beq_iff _ _).mp htuned), if_neg hfault, if_neg (by simpa using hmap), if_neg h]
  cases p with
  | ps => rfl
  | lane n => dsimp only; cases (s.lane n).mode <;> rfl

omit htuned

theorem posBusy_lane_iff (n : Lane) :
    s.posBusy (.lane n) = true ↔
      (s.lane n).passage ≠ .idle ∨ ∃ r ∈ s.reader.stamps, r.position = .lane n := by
  simp [posBusy, stampPending]

/-! ## Table 2-3 -/

theorem arbiter_waits (h : s.stopped = true ∨ s.supply.state ≠ .run ∨ s.reader.visit ≠ none) : s.arbiter = s := by
  unfold arbiter
  rw [if_pos]
  simpa [← Option.isSome_iff_ne_none, or_assoc] using h

/-- The arbiter may start a visit: the part runs, the supply state is RUN, and the transceiver is free (R38, R40). -/
def mayStart (s : State) : Prop := s.stopped = false ∧ s.supply.state = .run ∧ s.reader.visit = none

theorem mayStart.not_waits (h : s.mayStart) :
    ¬(s.stopped || s.supply.state != .run || s.reader.visit.isSome) = true := by
  obtain ⟨hrunning, hsupply, hvisit⟩ := h
  simp [hrunning, hsupply, hvisit]

theorem arbiter_service (h : s.mayStart) {v : Visit} (hv : s.serviceChoice = some v) : s.arbiter = s.startVisit v := by
  unfold arbiter
  simp only [if_neg h.not_waits, hv]

theorem arbiter_stamp (h : s.mayStart) (hservice : s.serviceChoice = none) {v : Visit} (hv : s.stampChoice = some v) :
    s.arbiter = s.startVisit v := by
  unfold arbiter
  simp only [if_neg h.not_waits, hservice, hv]

section

variable (h : s.mayStart) (hservice : s.serviceChoice = none) (hstamp : s.stampChoice = none)
include h hservice hstamp

theorem arbiter_tune {e : TuneEntry} {rest : List TuneEntry} (htunes : s.reader.tuneList = e :: rest) :
    s.arbiter = (s.startVisit (.tune e.antenna s.reader.settings.target e.ordered)).withReader fun r =>
      { r with tuneList := rest } := by
  unfold arbiter
  simp only [if_neg h.not_waits, hservice, hstamp, htunes]

theorem arbiter_scan (htunes : s.reader.tuneList = []) {n : Lane} (hscan : s.scanChoice = some n) :
    s.arbiter = s.startScan n := by
  unfold arbiter
  simp only [if_neg h.not_waits, hservice, hstamp, htunes, hscan]

theorem arbiter_rests (htunes : s.reader.tuneList = []) (hscan : s.scanChoice = none) : s.arbiter = s := by
  unfold arbiter
  simp only [if_neg h.not_waits, hservice, hstamp, htunes, hscan]

end

theorem serviceChoice_of_slot {v : ServiceVisit} {a : Antenna} (hslot : s.reader.slot = some v)
    (hmap : s.reader.map.ps = some a) : s.serviceChoice = some (s.cardVisit v.purpose .ps a) := by
  unfold serviceChoice
  cases v <;> simp only [hslot, hmap, ServiceVisit.purpose]

theorem serviceChoice_of_empty (h : s.reader.slot = none) : s.serviceChoice = none := by
  unfold serviceChoice
  simp only [h]

theorem stampChoice_of_cons {r : StampReq} {rest : List StampReq} {a : Antenna} (hstamps : s.reader.stamps = r :: rest)
    (hmap : s.reader.map.get r.position = some a) : s.stampChoice = some (s.cardVisit .laneStamp r.position a) := by
  unfold stampChoice
  simp only [hstamps, hmap, Option.map_some]

theorem stampChoice_of_nil (h : s.reader.stamps = []) : s.stampChoice = none := by
  unfold stampChoice
  simp only [h]

theorem scanChoice_eq (s : State) :
    s.scanChoice = [s.reader.pointer.succ, s.reader.pointer.succ.succ, s.reader.pointer.succ.succ.succ,
      s.reader.pointer].find? fun n => decide (s.posState (.lane n) = .scan) := by
  unfold scanChoice
  refine List.find?_congr fun n _ => ?_
  exact beq_eq_decide ..

theorem scanChoice_of_none (h : ∀ n, s.posState (.lane n) ≠ .scan) : s.scanChoice = none := by
  rw [scanChoice_eq, List.find?_eq_none]
  exact fun n _ => by simpa using h n

theorem startScan_of_mapped {n : Lane} {a : Antenna} (h : s.reader.map.get (.lane n) = some a) :
    s.startScan n = (s.startVisit (s.cardVisit .scanRead (.lane n) a)).withReader fun r => { r with pointer := n } := by
  unfold startScan
  simp only [h]

end State

/-- Settles O22, by the lines of Tables 2-2 and 2-3 in their order. -/
theorem arbiterFollowsTheServiceOrder : Obligations.ArbiterFollowsTheServiceOrder := by
  refine ⟨fun n s => ⟨fun ⟨hmap, htuned⟩ => State.posState_tuning hmap htuned, State.posState_fault,
    State.posState_unmapped, fun htuned hfault hmap hwork => ?_, fun htuned hfault hmap hwork => ?_⟩,
    fun s => ⟨State.arbiter_waits, fun hrunning hsupply hvisit => ?_⟩⟩
  · exact State.posState_busy htuned hfault hmap ((State.posBusy_lane_iff n).mpr hwork)
  · exact State.posState_free htuned hfault hmap (mt (State.posBusy_lane_iff n).mp hwork)
  · have hfree : s.mayStart := ⟨hrunning, hsupply, hvisit⟩
    refine ⟨fun v a hslot hmap => ?_, fun r rest a hslot hstamps hmap => ?_, fun e rest hslot hstamps htunes => ?_,
      fun hslot hstamps htunes => ⟨fun hnone => ?_, fun n a hscan hmap => ?_⟩⟩
    · rw [State.arbiter_service hfree (State.serviceChoice_of_slot hslot hmap)]
      cases v <;> rfl
    · exact State.arbiter_stamp hfree (State.serviceChoice_of_empty hslot) (State.stampChoice_of_cons hstamps hmap)
    · exact State.arbiter_tune hfree (State.serviceChoice_of_empty hslot) (State.stampChoice_of_nil hstamps) htunes
    · exact State.arbiter_rests hfree (State.serviceChoice_of_empty hslot) (State.stampChoice_of_nil hstamps) htunes
        (State.scanChoice_of_none hnone)
    · rw [State.arbiter_scan hfree (State.serviceChoice_of_empty hslot) (State.stampChoice_of_nil hstamps) htunes
        (s.scanChoice_eq.trans hscan)]
      exact State.startScan_of_mapped hmap

end Sys2Proof.Machine

/-! # Outcomes of visits (O23) -/

namespace Sys2Proof

theorem PerPos.set_set {α : Type} (v : PerPos α) (p : Position) (x y : α) : (v.set p x).set p y = v.set p y := by
  cases p <;> simp [PerPos.set]

end Sys2Proof

namespace Sys2Proof.Machine

/-! ## The outcome and the fault count (Table 2-6) -/

theorem outcomeOf_overdrive (len : Nat) (type : Byte) {r : Reception} (h : r.overdrive = true) :
    outcomeOf len type r = .clip := by
  unfold outcomeOf
  rw [if_pos h]

theorem outcomeOf_violation (len : Nat) (type : Byte) {r : Reception} (ho : r.overdrive = false)
    (hv : r.violation = true) : outcomeOf len type r = .collide := by
  unfold outcomeOf
  rw [if_neg (by simp [ho]), if_pos hv]

theorem outcomeOf_silent (len : Nat) (type : Byte) {r : Reception} (ho : r.overdrive = false)
    (hv : r.violation = false) (hf : r.frame = none) : outcomeOf len type r = .silent := by
  unfold outcomeOf
  rw [if_neg (by simp [ho]), if_neg (by simp [hv])]
  simp only [hf]

theorem outcomeOf_frame (len : Nat) (type : Byte) {r : Reception} {f : List Byte} (ho : r.overdrive = false)
    (hv : r.violation = false) (hf : r.frame = some f) :
    outcomeOf len type r = if framePasses len type f then .card else .corrupt := by
  unfold outcomeOf
  rw [if_neg (by simp [ho]), if_neg (by simp [hv])]
  simp only [hf]

theorem faultCountAfter_fault {o : VisitOutcome} (h : o = .collide ∨ o = .corrupt ∨ o = .clip) (c : Nat) :
    faultCountAfter o c = min 31 (c + 1) := by
  have hsat : addSat 31 1 c = min 31 (c + 1) := by
    unfold addSat
    omega
  rcases h with rfl | rfl | rfl <;> exact hsat

namespace State

/-! ## Notices of lane ports -/

theorem raiseLane_notices (s : State) (n m : Lane) (x : LaneNotice) :
    ((s.raiseLane n x).port (.lp m)).notices = (s.port (.lp m)).notices ||| if m = n then x.mask else 0 := by
  simp only [raiseLane, raiseBits_port, Port.lp.injEq]
  split
  · next h => rw [h]
  · exact BitVec.or_zero.symm

theorem raiseAt_notices (s : State) (p : Position) (m : Lane) (x : LaneNotice) :
    ((s.raiseAt p x).port (.lp m)).notices = (s.port (.lp m)).notices ||| if p = .lane m then x.mask else 0 := by
  cases p with
  | ps => simp [raiseAt]
  | lane n => simp only [raiseAt, raiseLane_notices, Position.lane.injEq, eq_comm]

@[simp] theorem raiseAt_port_station (s : State) (p : Position) (x : LaneNotice) :
    (s.raiseAt p x).port .sp = s.port .sp := by
  cases p with
  | ps => rfl
  | lane n => exact raiseLane_port_station s n x

theorem raiseLane_reader (s : State) (n : Lane) (x : LaneNotice) : (s.raiseLane n x).reader = s.reader := by simp

theorem raiseAt_reader (s : State) (p : Position) (x : LaneNotice) : (s.raiseAt p x).reader = s.reader := by simp

/-! ## Automatic tune requests (R51) -/

/-- A tune of the antenna waits in the list, or is in flight. -/
def tuneRequested (s : State) (a : Antenna) : Prop :=
  (∃ e ∈ s.reader.tuneList, e.antenna = a) ∨ ∃ target ordered, s.reader.visit = some (.tune a target ordered)

theorem tuning_eq_some_iff {s : State} {a : Antenna} :
    s.tuning = some a ↔ ∃ target ordered, s.reader.visit = some (.tune a target ordered) := by
  unfold tuning
  split
  · next h => simp [h]
  · next h => simp [h]
  · next h => simp [h]

theorem requestTune_requested {s : State} {a : Antenna} (h : s.tuneRequested a) : s.requestTune a = s := by
  unfold requestTune
  rw [if_pos]
  simpa [tuning_eq_some_iff, or_comm, tuneRequested] using h

theorem requestTune_new {s : State} {a : Antenna} (h : ¬s.tuneRequested a) :
    s.requestTune a =
      s.withReader fun d => { d with tuneList := d.tuneList ++ [{ antenna := a, ordered := false }] } := by
  unfold requestTune
  rw [if_neg]
  simpa [tuning_eq_some_iff, or_comm, tuneRequested, not_or] using h

/-- What a tune request leaves of the reader: all but the tune list. -/
theorem requestTune_reader (s : State) (a : Antenna) :
    (s.requestTune a).reader = { s.reader with tuneList := (s.requestTune a).reader.tuneList } := by
  unfold requestTune
  split <;> rfl

/-! ## Faults (R47, R48) -/

/-- DEGRADED is set by this outcome: the fault count rises to the threshold with DEGRADED clear. -/
def degradesBy (s : State) (p : Position) (o : VisitOutcome) : Bool :=
  decide ((s.reader.pos.get p).faultCount < faultCountAfter o (s.reader.pos.get p).faultCount ∧
    s.reader.settings.threshold ≤ faultCountAfter o (s.reader.pos.get p).faultCount ∧
    (s.reader.pos.get p).degraded = false)

/-- The memory of a position after the faults of an outcome. -/
def faultMemory (s : State) (p : Position) (o : VisitOutcome) : PosMemory :=
  { s.reader.pos.get p with
    faultCount := faultCountAfter o (s.reader.pos.get p).faultCount
    degraded := (s.reader.pos.get p).degraded || s.degradesBy p o
    lastOutcome := some o }

theorem applyFaults_degrading {s : State} {p : Position} {o : VisitOutcome} (h : s.degradesBy p o = true)
    (a : Antenna) :
    s.applyFaults p a o =
      ((s.withReader fun d => { d with pos := d.pos.set p (s.faultMemory p o) }).requestTune a).raiseAt p
        .position := by
  unfold applyFaults
  dsimp only
  rw [if_pos (of_decide_eq_true h)]
  rfl

theorem applyFaults_plain {s : State} {p : Position} {o : VisitOutcome} (h : s.degradesBy p o = false) (a : Antenna) :
    s.applyFaults p a o = s.withReader fun d => { d with pos := d.pos.set p (s.faultMemory p o) } := by
  unfold applyFaults
  dsimp only
  rw [if_neg (of_decide_eq_false h)]
  rfl

/-- What the faults of an outcome leave of the reader: all but the position's memory and the tune list. -/
theorem applyFaults_reader (s : State) (p : Position) (a : Antenna) (o : VisitOutcome) :
    (s.applyFaults p a o).reader =
      { s.reader with
        pos := s.reader.pos.set p (s.faultMemory p o)
        tuneList := (s.applyFaults p a o).reader.tuneList } := by
  cases h : s.degradesBy p o with
  | true =>
    rw [applyFaults_degrading h, raiseAt_reader, requestTune_reader]
    rfl
  | false => rw [applyFaults_plain h]; rfl

theorem applyFaults_tuneList_new {s : State} {p : Position} {a : Antenna} {o : VisitOutcome}
    (h : s.degradesBy p o = true) (hnew : ¬s.tuneRequested a) :
    (s.applyFaults p a o).reader.tuneList = s.reader.tuneList ++ [{ antenna := a, ordered := false }] := by
  rw [applyFaults_degrading h, raiseAt_reader, requestTune_new (by exact hnew)]
  rfl

theorem applyFaults_tuneList_same {s : State} {p : Position} {a : Antenna} {o : VisitOutcome}
    (h : s.degradesBy p o = false ∨ s.tuneRequested a) :
    (s.applyFaults p a o).reader.tuneList = s.reader.tuneList := by
  cases hd : s.degradesBy p o with
  | true =>
    have hreq : s.tuneRequested a := h.resolve_left (by simp [hd])
    rw [applyFaults_degrading hd, raiseAt_reader, requestTune_requested (by exact hreq)]
    rfl
  | false => rw [applyFaults_plain hd]; rfl

theorem applyFaults_notices (s : State) (p : Position) (a : Antenna) (o : VisitOutcome) (n : Lane) :
    ((s.applyFaults p a o).port (.lp n)).notices = (s.port (.lp n)).notices |||
      if p = .lane n ∧ s.degradesBy p o = true then LaneNotice.position.mask else 0 := by
  cases h : s.degradesBy p o with
  | true =>
    rw [applyFaults_degrading h, raiseAt_notices]
    simp
  | false => simp [applyFaults_plain h]

theorem applyFaults_station (s : State) (p : Position) (a : Antenna) (o : VisitOutcome) :
    (s.applyFaults p a o).port .sp = s.port .sp := by
  cases h : s.degradesBy p o with
  | true =>
    rw [applyFaults_degrading h, raiseAt_port_station]
    simp
  | false => simp [applyFaults_plain h]

/-! ## Collide runs (R49) -/

/-- The collide run of a lane position after an outcome. -/
def runAfter (o : VisitOutcome) (run : Nat) : Nat := if o = .collide ∧ run + 1 ≠ 3 then run + 1 else 0

/-- The memory of a lane position after the collide run of an outcome. -/
def collideMemory (s : State) (n : Lane) (o : VisitOutcome) : PosMemory :=
  { s.reader.pos.get (.lane n) with collideRun := runAfter o (s.reader.pos.get (.lane n)).collideRun }

theorem applyCollide_crowded {s : State} {n : Lane} (h : (s.reader.pos.get (.lane n)).collideRun = 2) :
    s.applyCollide (.lane n) .collide =
      (s.withReader fun d => { d with pos := d.pos.set (.lane n) (s.collideMemory n .collide) }).raiseLane n
        .crowded := by
  simp [applyCollide, collideMemory, runAfter, h]

theorem applyCollide_plain {s : State} {n : Lane} {o : VisitOutcome}
    (h : ¬(o = .collide ∧ (s.reader.pos.get (.lane n)).collideRun = 2)) :
    s.applyCollide (.lane n) o =
      s.withReader fun d => { d with pos := d.pos.set (.lane n) (s.collideMemory n o) } := by
  unfold applyCollide collideMemory runAfter
  by_cases ho : o = .collide
  · have hrun : (s.reader.pos.get (.lane n)).collideRun + 1 ≠ 3 := fun h3 => h ⟨ho, by omega⟩
    simp [ho, hrun]
  · simp [ho]

theorem applyCollide_reader (s : State) (n : Lane) (o : VisitOutcome) :
    (s.applyCollide (.lane n) o).reader =
      { s.reader with pos := s.reader.pos.set (.lane n) (s.collideMemory n o) } := by
  by_cases h : o = .collide ∧ (s.reader.pos.get (.lane n)).collideRun = 2
  · obtain ⟨rfl, hrun⟩ := h
    rw [applyCollide_crowded hrun, raiseLane_reader]
    rfl
  · rw [applyCollide_plain h]
    rfl

theorem applyCollide_notices (s : State) (p : Position) (o : VisitOutcome) (n : Lane) :
    ((s.applyCollide p o).port (.lp n)).notices = (s.port (.lp n)).notices |||
      if p = .lane n ∧ o = .collide ∧ (s.reader.pos.get p).collideRun = 2 then LaneNotice.crowded.mask else 0 := by
  cases p with
  | ps => simp [applyCollide]
  | lane m =>
    by_cases h : o = .collide ∧ (s.reader.pos.get (.lane m)).collideRun = 2
    · obtain ⟨rfl, hrun⟩ := h
      rw [applyCollide_crowded hrun, raiseLane_notices]
      simp [hrun, eq_comm]
    · rw [applyCollide_plain h]
      simp [h]

theorem applyCollide_station (s : State) (p : Position) (o : VisitOutcome) :
    (s.applyCollide p o).port .sp = s.port .sp := by
  cases p with
  | ps => rfl
  | lane n =>
    by_cases h : o = .collide ∧ (s.reader.pos.get (.lane n)).collideRun = 2
    · obtain ⟨rfl, hrun⟩ := h
      rw [applyCollide_crowded hrun, raiseLane_port_station]
      rfl
    · rw [applyCollide_plain h]
      rfl

/-! ## CLIP (R50), and the whole outcome -/

theorem applyClip_reader (s : State) (a : Antenna) (o : VisitOutcome) :
    (s.applyClip a o).reader = { s.reader with levels := (s.applyClip a o).reader.levels } := by
  unfold applyClip
  split <;> rfl

theorem applyClip_port (s : State) (a : Antenna) (o : VisitOutcome) (q : Port) :
    (s.applyClip a o).port q = s.port q := by simp

theorem applyClip_levels (s : State) (a b : Antenna) (o : VisitOutcome) :
    (s.applyClip a o).reader.levels.get b =
      if o = .clip ∧ b = a then max 1 (s.reader.levels.get a - 1) else s.reader.levels.get b := by
  unfold applyClip
  split
  · next h => simp [h, PerAnt.get_set]
  · next h => simp [h]

/-- The memory of a position after an outcome (R47 to R49). -/
def memoryAfter (s : State) (p : Position) (o : VisitOutcome) : PosMemory :=
  match p with
  | .ps => s.faultMemory .ps o
  | .lane n => { s.faultMemory (.lane n) o with collideRun := runAfter o (s.reader.pos.get (.lane n)).collideRun }

theorem collideMemory_applyFaults (s : State) (n : Lane) (a : Antenna) (o : VisitOutcome) :
    (s.applyFaults (.lane n) a o).collideMemory n o = s.memoryAfter (.lane n) o := by
  unfold collideMemory
  rw [applyFaults_reader, PerPos.get_set_same]
  rfl

theorem memoryAfter_eq (s : State) (p : Position) (o : VisitOutcome) :
    s.memoryAfter p o = { s.faultMemory p o with collideRun := (s.memoryAfter p o).collideRun } := by
  cases p <;> rfl

/-- What an outcome makes of the reader. -/
theorem applyOutcome_reader (s : State) (p : Position) (a : Antenna) (o : VisitOutcome) :
    (s.applyOutcome p a o).reader =
      { s.reader with
        pos := s.reader.pos.set p (s.memoryAfter p o)
        tuneList := (s.applyFaults p a o).reader.tuneList
        levels := (s.applyOutcome p a o).reader.levels } := by
  unfold applyOutcome
  rw [applyClip_reader]
  cases p with
  | ps =>
    rw [applyCollide, applyFaults_reader]
    rfl
  | lane n =>
    rw [applyCollide_reader, collideMemory_applyFaults, applyFaults_reader]
    simp only [PerPos.set_set]

theorem applyOutcome_levels (s : State) (p : Position) (a b : Antenna) (o : VisitOutcome) :
    (s.applyOutcome p a o).reader.levels.get b =
      if o = .clip ∧ b = a then max 1 (s.reader.levels.get a - 1) else s.reader.levels.get b := by
  have hlevels : ((s.applyFaults p a o).applyCollide p o).reader.levels = s.reader.levels := by
    cases p with
    | ps => rw [applyCollide, applyFaults_reader]
    | lane n => rw [applyCollide_reader, applyFaults_reader]
  unfold applyOutcome
  rw [applyClip_levels, hlevels]

theorem applyOutcome_notices (s : State) (p : Position) (a : Antenna) (o : VisitOutcome) (n : Lane) :
    ((s.applyOutcome p a o).port (.lp n)).notices = (s.port (.lp n)).notices |||
      (if p = .lane n ∧ s.degradesBy p o = true then LaneNotice.position.mask else 0) |||
      (if p = .lane n ∧ o = .collide ∧ (s.reader.pos.get p).collideRun = 2 then LaneNotice.crowded.mask else 0) := by
  have hrun : ((s.applyFaults p a o).reader.pos.get p).collideRun = (s.reader.pos.get p).collideRun := by
    rw [applyFaults_reader, PerPos.get_set_same]
    rfl
  unfold applyOutcome
  rw [applyClip_port, applyCollide_notices, applyFaults_notices, hrun]

theorem applyOutcome_station (s : State) (p : Position) (a : Antenna) (o : VisitOutcome) :
    (s.applyOutcome p a o).port .sp = s.port .sp := by
  unfold applyOutcome
  rw [applyClip_port, applyCollide_station, applyFaults_station]

/-- DEGRADED is set by an outcome, as the memory after it shows. -/
theorem degradesBy_iff (s : State) (p : Position) (a : Antenna) (o : VisitOutcome) :
    s.degradesBy p o = true ↔ (s.reader.pos.get p).degraded = false ∧
      (s.reader.pos.get p).faultCount < ((s.applyOutcome p a o).reader.pos.get p).faultCount ∧
      s.reader.settings.threshold ≤ ((s.applyOutcome p a o).reader.pos.get p).faultCount := by
  rw [applyOutcome_reader, PerPos.get_set_same, memoryAfter_eq]
  simp only [degradesBy, faultMemory, decide_eq_true_eq]
  exact ⟨fun ⟨h1, h2, h3⟩ => ⟨h3, h1, h2⟩, fun ⟨h1, h2, h3⟩ => ⟨h2, h3, h1⟩⟩

end State

/-- Settles O23, by what the faults, the collide run and CLIP each make of the reader. -/
theorem visitOutcomesActOnThePosition : Obligations.VisitOutcomesActOnThePosition := by
  refine ⟨fun len type r c => ⟨outcomeOf_overdrive len type, outcomeOf_violation len type, outcomeOf_silent len type,
    fun f => outcomeOf_frame len type, rfl, rfl, fun o ho => faultCountAfter_fault ho c⟩, fun p a o s => ?_⟩
  have hreader := s.applyOutcome_reader p a o
  have hpos : (s.applyOutcome p a o).reader.pos.get p = s.memoryAfter p o := by rw [hreader, PerPos.get_set_same]
  have hdegrades := s.degradesBy_iff p a o
  have hmemory : (s.applyOutcome p a o).reader.pos.get p =
      { s.faultMemory p o with collideRun := (s.memoryAfter p o).collideRun } := hpos.trans (s.memoryAfter_eq p o)
  dsimp only
  refine ⟨by rw [hmemory]; rfl, by rw [hmemory]; rfl, by rw [hmemory]; rfl, ?_, ?_, ?_, ?_, ?_, ?_,
    s.applyOutcome_station p a o, ?_, ?_, ?_, by rw [hreader], by rw [hreader], by rw [hreader], by rw [hreader],
    by simp, by simp, by simp, by simp, by simp, by simp⟩
  · rw [← hdegrades, hmemory]
    simp [State.faultMemory]
  · rintro rfl
    rw [hpos]
    rfl
  · intro hps
    cases p with
    | ps => exact absurd rfl hps
    | lane n => rw [hpos]; rfl
  · intro hd hnew
    rw [hreader]
    exact State.applyFaults_tuneList_new (hdegrades.mpr hd) hnew
  · intro hd
    rw [hreader]
    refine State.applyFaults_tuneList_same (hd.imp_left fun h => ?_)
    exact Bool.eq_false_iff.mpr (mt hdegrades.mp h)
  · intro n
    rw [s.applyOutcome_notices p a o n]
    simp only [hdegrades]
  · rw [s.applyOutcome_levels p a a o]
    simp
  · intro b hb
    rw [s.applyOutcome_levels p a b o]
    simp [hb]
  · intro q hq
    rw [hreader, PerPos.get_set_other _ _ _ _ hq]

end Sys2Proof.Machine

/-! # READER SET, ADMIT SET and RULE PUT (O17) -/

namespace Sys2Proof.Machine

/-! ## Fields -/

theorem boolOf_of_le {b : Byte} (h : b.toNat ≤ 1) : boolOf b = some (decide (b = 1)) := by
  have hbit : b = 0#8 ∨ b = 1#8 := by
    rcases Nat.le_one_iff_eq_zero_or_eq_one.mp h with h0 | h1
    · exact .inl (BitVec.eq_of_toNat_eq h0)
    · exact .inr (BitVec.eq_of_toNat_eq h1)
  rcases hbit with rfl | rfl <;> rfl

theorem boolOf_of_gt {b : Byte} (h : 1 < b.toNat) : boolOf b = none := by
  unfold boolOf
  split
  · omega
  · omega
  · rfl

theorem inRange_mem {lo hi n : Nat} (hlo : lo ≤ n) (hhi : n ≤ hi) : inRange lo hi n = some n := if_pos ⟨hlo, hhi⟩

theorem inRange_not_mem {lo hi n : Nat} (h : ¬(lo ≤ n ∧ n ≤ hi)) : inRange lo hi n = none := if_neg h

/-! ## ADMIT SET -/

theorem admSettingsOf_of_ok {resort lockout : BitVec 16} {quiet mask : Byte} (hlockout : lockout.toNat ≤ 3600)
    (hlow : 5 ≤ quiet.toNat) (hhigh : quiet.toNat ≤ 100) (hmask : mask.toNat < 16) :
    admSettingsOf resort lockout quiet mask = some
      { resort := resort.toNat, lockout := lockout.toNat, quiet := quiet.toNat,
        learnMask := { l0 := mask.getLsbD 0, l1 := mask.getLsbD 1, l2 := mask.getLsbD 2, l3 := mask.getLsbD 3 } } := by
  unfold admSettingsOf laneSetOf
  rw [inRange_mem (Nat.zero_le _) hlockout, inRange_mem hlow hhigh, if_pos hmask]

theorem admSettingsOf_of_bad {resort lockout : BitVec 16} {quiet mask : Byte}
    (h : ¬(lockout.toNat ≤ 3600 ∧ 5 ≤ quiet.toNat ∧ quiet.toNat ≤ 100 ∧ mask.toNat < 16)) :
    admSettingsOf resort lockout quiet mask = none := by
  unfold admSettingsOf laneSetOf
  by_cases hlockout : lockout.toNat ≤ 3600
  · by_cases hquiet : 5 ≤ quiet.toNat ∧ quiet.toNat ≤ 100
    · have hmask : ¬mask.toNat < 16 := fun hm => h ⟨hlockout, hquiet.1, hquiet.2, hm⟩
      rw [inRange_mem (Nat.zero_le _) hlockout, inRange_mem hquiet.1 hquiet.2, if_neg hmask]
    · rw [inRange_mem (Nat.zero_le _) hlockout, inRange_not_mem hquiet]
  · rw [inRange_not_mem (by omega)]

/-! ## RULE PUT -/

section

variable {e : Byte} {value mask : BitVec 16} {lanes : Byte} {start stop : BitVec 16} {cls charge : Byte}

theorem laneRuleOf_of_ok (he : e.toNat ≤ 1) (hlanes : lanes.toNat < 16) (hcharge : charge.toNat ≤ 1)
    (h : value.toNat ≤ 4095 ∧ mask.toNat ≤ 4095 ∧ start.toNat ≤ 1439 ∧ stop.toNat ≤ 1439 ∧ cls.toNat ≤ 3) :
    laneRuleOf e value mask lanes start stop cls charge = some
      { enabled := decide (e = 1), value := value.toNat, mask := mask.toNat,
        lanes := { l0 := lanes.getLsbD 0, l1 := lanes.getLsbD 1, l2 := lanes.getLsbD 2, l3 := lanes.getLsbD 3 },
        start := start.toNat, stop := stop.toNat, cls := cls.toNat, charge := decide (charge = 1) } := by
  unfold laneRuleOf laneSetOf
  rw [boolOf_of_le he, boolOf_of_le hcharge, if_pos hlanes]
  exact if_pos h

theorem laneRuleOf_of_bad
    (h : ¬(e.toNat ≤ 1 ∧ value.toNat ≤ 4095 ∧ mask.toNat ≤ 4095 ∧ lanes.toNat < 16 ∧ start.toNat ≤ 1439 ∧
      stop.toNat ≤ 1439 ∧ cls.toNat ≤ 3 ∧ charge.toNat ≤ 1)) :
    laneRuleOf e value mask lanes start stop cls charge = none := by
  unfold laneRuleOf laneSetOf
  rcases Nat.lt_or_ge 1 e.toNat with he | he
  · rw [boolOf_of_gt he]
  by_cases hlanes : lanes.toNat < 16
  · rcases Nat.lt_or_ge 1 charge.toNat with hcharge | hcharge
    · rw [boolOf_of_le he, boolOf_of_gt hcharge, if_pos hlanes]
    · rw [boolOf_of_le he, boolOf_of_le hcharge, if_pos hlanes]
      exact if_neg fun hrest => h (by omega)
  · rw [boolOf_of_le he, if_neg hlanes]

theorem rulePutBlock_badArg (i : Nat) (r : Option LaneRule) (s : State) (h : r = none ∨ 15 < i) :
    rulePutBlock i r s = refuseWith s .badArg := by
  unfold rulePutBlock
  rcases h with rfl | hi
  · rfl
  · cases r with
    | none => rfl
    | some r => exact if_neg (by omega)

end

/-- Settles O17, by the ranges of each order's fields. -/
theorem readerAndAdmissionSettingsAreReplacedWhole : Obligations.ReaderAndAdmissionSettingsAreReplacedWhole := by
  refine ⟨fun a t c f w g s h => ⟨fun hok => ?_, fun hbad => ?_⟩,
    fun resort lockout quiet mask s h => ⟨fun hok => ?_, fun hbad => ?_⟩,
    fun i e value mask lanes start stop cls charge s h => ⟨fun hok => ?_, fun hbad => ?_⟩⟩
  · refine takeOrder_answered h rfl ?_
    rw [show readerSettingsOf a t c f w g = some _ from if_pos hok]
    rfl
  · refine takeOrder_answered h rfl ?_
    rw [show readerSettingsOf a t c f w g = none from if_neg hbad]
    rfl
  · obtain ⟨hlockout, hlow, hhigh, hmask⟩ := hok
    refine takeOrder_answered h rfl ?_
    rw [admSettingsOf_of_ok hlockout hlow hhigh hmask]
    rfl
  · refine takeOrder_answered h rfl ?_
    rw [admSettingsOf_of_bad hbad]
    rfl
  · obtain ⟨hi, he, hvalue, hmask, hlanes, hstart, hstop, hcls, hcharge⟩ := hok
    refine takeOrder_answered h rfl ?_
    rw [laneRuleOf_of_ok he hlanes hcharge ⟨hvalue, hmask, hstart, hstop, hcls⟩]
    exact if_pos hi
  · refine takeOrder_answered h rfl (rulePutBlock_badArg _ _ _ ?_)
    rcases Nat.lt_or_ge 15 i.toNat with hi | hi
    · exact .inr hi
    · exact .inl (laneRuleOf_of_bad fun hrest => hbad ⟨hi, hrest⟩)

end Sys2Proof.Machine

/-! # Status orders (O20) -/

namespace Sys2Proof.Machine
namespace State

variable (s : State)

/-! ## POSITION STATUS -/

theorem positionReport_positions (p : Position) : s.positionReport.positions.get p = s.posStatus p := by
  cases p with
  | ps => rfl
  | lane n => cases n <;> rfl

theorem positionReport_antennas (a : Antenna) : s.positionReport.antennas.get a = s.antStatus a := by
  cases a <;> rfl

theorem pendingAttempts_ps_none {s : State} (h : s.reader.slot = none) : s.pendingAttempts .ps = none := by
  simp only [pendingAttempts, h, Option.map_none]

theorem pendingAttempts_ps_some {s : State} {v : ServiceVisit} (h : s.reader.slot = some v) :
    s.pendingAttempts .ps = match v with
      | .read made => some (3 - made)
      | .stamp r => some r.attempts := by
  cases v <;> simp only [pendingAttempts, h, Option.map_some]

theorem antStatus_tunePending_iff (a : Antenna) :
    (s.antStatus a).tunePending = true ↔
      (∃ target ordered, s.reader.visit = some (.tune a target ordered)) ∨ ∃ e ∈ s.reader.tuneList, e.antenna = a := by
  simp only [antStatus, Bool.or_eq_true, beq_iff_eq, tuning_eq_some_iff, List.any_eq_true]

/-! ## The state of PS (R35) -/

theorem ps_tuned_iff :
    (s.reader.map.get .ps ≠ none ∧ s.reader.map.get .ps = s.tuning) ↔
      ∃ a target ordered, s.reader.map.ps = some a ∧ s.reader.visit = some (.tune a target ordered) := by
  constructor
  · rintro ⟨hmap, htuning⟩
    obtain ⟨a, ha⟩ := Option.ne_none_iff_exists'.mp hmap
    obtain ⟨target, ordered, hvisit⟩ := tuning_eq_some_iff.mp (htuning.symm.trans ha)
    exact ⟨a, target, ordered, ha, hvisit⟩
  · rintro ⟨a, target, ordered, ha, hvisit⟩
    have hmap : s.reader.map.get .ps = some a := ha
    exact ⟨by simp [hmap], hmap.trans (tuning_eq_some_iff.mpr ⟨target, ordered, hvisit⟩).symm⟩

theorem posState_ps {s : State} (htuned : ¬(s.reader.map.get .ps ≠ none ∧ s.reader.map.get .ps = s.tuning))
    (hfault : s.reader.pos.ps.fault = false) :
    s.posState .ps = if s.reader.map.ps ≠ none ∧ s.reader.slot ≠ none then .busy else .off := by
  have hclear : ¬(s.reader.pos.get .ps).fault = true := by
    change ¬s.reader.pos.ps.fault = true
    simp [hfault]
  have hbusy : s.posBusy .ps = true ↔ s.reader.slot ≠ none := Option.isSome_iff_ne_none
  by_cases hmap : s.reader.map.ps = none
  · rw [posState_unmapped htuned hclear hmap, if_neg (by simp [hmap])]
  · by_cases hslot : s.reader.slot = none
    · rw [posState_free htuned hclear hmap (by simp [hbusy, hslot]), if_neg (by simp [hslot])]
    · rw [posState_busy htuned hclear hmap (hbusy.mpr hslot), if_pos ⟨hmap, hslot⟩]

end State

/-- Settles O20, by what each report takes from the state. -/
theorem statusOrdersReport : Obligations.StatusOrdersReport := by
  refine ⟨fun s h => ⟨takeOrder_answered h rfl rfl, rfl, rfl, rfl, fun p => ?_, fun a => ?_, ⟨?_, ?_, ?_⟩,
      takeOrder_answered h rfl rfl⟩,
    fun p n s h hp => ⟨takeOrder_answered h (ownLane_laneCode hp) ?_,
      fun lane hlane => takeOrder_answered h (ownLane_no_lane p hlane) ?_⟩,
    fun s h => ⟨takeOrder_answered h rfl rfl, takeOrder_answered h rfl rfl, takeOrder_answered h rfl ?_⟩⟩
  · rw [s.positionReport_positions p]
    cases p with
    | lane n => rfl
    | ps =>
      cases hslot : s.reader.slot with
      | none => rw [State.posStatus, State.pendingAttempts_ps_none hslot]
      | some v => rw [State.posStatus, State.pendingAttempts_ps_some hslot]; cases v <;> rfl
  · rw [s.positionReport_antennas a]
    exact ⟨rfl, rfl, s.antStatus_tunePending_iff a⟩
  · intro htuned
    obtain ⟨hmap, htuning⟩ := s.ps_tuned_iff.mpr htuned
    exact State.posState_tuning hmap htuning
  · exact fun htuned hfault => State.posState_fault (mt s.ps_tuned_iff.mp htuned) hfault
  · exact fun htuned hfault => State.posState_ps (mt s.ps_tuned_iff.mp htuned) hfault
  · unfold laneStatusBlock
    rw [laneOf_laneCode]
    rfl
  · unfold laneStatusBlock
    rw [hlane]
    rfl
  · change answerOk (s.taken .sp) (.refundStatus s.refundReport) = _
    unfold State.refundReport State.holdRemaining
    cases hctx : s.refund.ctx <;> rfl

end Sys2Proof.Machine

/-! # Lane stamps (O27) -/

namespace Sys2Proof.Machine

theorem StampReq.confirmedBy_iff (q : StampReq) (o : VisitOutcome) (frame : List Byte) :
    q.confirmedBy o frame = true ↔ o = .card ∧ (frame.drop 1).take 11 = q.callBytes := by
  simp [confirmedBy]

/-- An unconfirmed attempt notes the echo and leaves the request as it is on the air (R45, R46). -/
theorem StampReq.noted_keeps (q : StampReq) (o : VisitOutcome) (frame : List Byte) :
    (q.noted o frame).position = q.position ∧ (q.noted o frame).requester = q.requester ∧
      (q.noted o frame).callBytes = q.callBytes := by
  unfold noted
  split <;> exact ⟨rfl, rfl, rfl⟩

namespace State

/-- The lane stamps of a lane position leave the list. -/
def dropStamps (s : State) (n : Lane) : State :=
  s.withReader fun d => { d with stamps := d.stamps.filter fun x => x.position != .lane n }

section

variable {s : State} {n : Lane} {q : StampReq} {o : VisitOutcome} {frame : List Byte}
  (hq : s.reader.stamps.find? (fun x => x.position == .lane n) = some q)
include hq

theorem settleLaneStamp_confirmed (h : q.confirmedBy o frame = true) :
    s.settleLaneStamp n o frame = (s.dropStamps n).clearBehind q := by
  unfold settleLaneStamp
  simp only [hq, if_pos h]
  rfl

theorem settleLaneStamp_last (h : ¬q.confirmedBy o frame = true) (ha : q.attempts ≤ 1) :
    s.settleLaneStamp n o frame = s.dropStamps n := by
  unfold settleLaneStamp
  simp only [hq, if_neg h, if_neg (Nat.not_lt.mpr ha)]
  rfl

theorem settleLaneStamp_again (h : ¬q.confirmedBy o frame = true) (ha : 1 < q.attempts) :
    s.settleLaneStamp n o frame = s.withReader fun d =>
      { d with stamps := d.stamps.map fun y =>
          if y.position = .lane n then { q.noted o frame with attempts := q.attempts - 1 } else y } := by
  unfold settleLaneStamp
  simp only [hq, if_neg h, if_pos ha]

end

/-- A stamp attempt at a lane position that ends: its outcome acts, the stamp is settled, and the visit ends (R30, R46,
R47). -/
theorem exec_laneStampAttempt {v : CardVisit} {n : Lane} (r : Reception) {s : State} (hrunning : s.stopped = false)
    (hvisit : s.reader.visit = some (.card v)) (hpurpose : v.purpose = .laneStamp) (hposition : v.position = .lane n) :
    exec (.stampAttemptCompletion r) s =
      .next ((s.applyOutcome (.lane n) v.antenna (outcomeOf 14 0xB6 r)).settleLaneStamp n (outcomeOf 14 0xB6 r)
        (r.frame.getD [])).endVisit := by
  change Host.Outcome.next (s.running fun s => s.stampAttempt r) = _
  unfold running stampAttempt stampCompleted
  simp only [hrunning, hvisit, hpurpose, hposition, Purpose.kind, Bool.false_eq_true, if_false, if_true]

end State

/-- Settles O27, by the three ends of a lane stamp attempt. -/
theorem laneStampIsSettled : Obligations.LaneStampIsSettled := by
  intro v n r q s hrunning hvisit hpurpose hposition hq
  have hexec := State.exec_laneStampAttempt r hrunning hvisit hpurpose hposition
  have hiff := q.confirmedBy_iff (outcomeOf 14 0xB6 r) (r.frame.getD [])
  refine ⟨fun hc => ?_, fun hc ha => ?_, fun hc ha => ?_⟩
  · rw [hexec, State.settleLaneStamp_confirmed hq (hiff.mpr hc)]
    rfl
  · rw [hexec, State.settleLaneStamp_last hq (mt hiff.mp hc) ha]
    rfl
  · obtain ⟨hpos, hreq, hcall⟩ := q.noted_keeps (outcomeOf 14 0xB6 r) (r.frame.getD [])
    refine ⟨{ q.noted (outcomeOf 14 0xB6 r) (r.frame.getD []) with attempts := q.attempts - 1 }, hpos, hreq, hcall, rfl,
      ?_⟩
    rw [hexec, State.settleLaneStamp_again hq (mt hiff.mp hc) ha]

end Sys2Proof.Machine

/-! # Read visits, and what goes over the air (O26) -/

namespace Sys2Proof.Machine

/-! ## Delivery of a read (R43, R54) -/

namespace State

variable {s : State}

theorem exec_readVisit {v : CardVisit} (r : Reception) (hrunning : s.stopped = false)
    (hvisit : s.reader.visit = some (.card v)) (hpurpose : v.purpose.kind = .read) :
    exec (.readVisitCompletion r) s = .next (((s.applyOutcome v.position v.antenna (outcomeOf 28 0xA1 r)).deliverRead v
      (outcomeOf 28 0xA1 r) (r.frame.getD [])).endVisit) := by
  change Host.Outcome.next (s.running fun s => s.readVisit r) = _
  unfold running readVisit readCompleted
  simp only [hrunning, hvisit, hpurpose, Bool.false_eq_true, if_false, if_true]

theorem deliverRead_lane {v : CardVisit} {n : Lane} (h : v.position = .lane n) (o : VisitOutcome) (frame : List Byte) :
    s.deliverRead v o frame = if o = .card then s.scanAnswer n (cardOf frame) else s := by
  unfold deliverRead
  simp only [h]

theorem deliverRead_missed {v : CardVisit} (h : v.position = .ps) {o : VisitOutcome} (ho : o ≠ .card)
    (frame : List Byte) : s.deliverRead v o frame = s.serviceReadMissed := by
  unfold deliverRead
  simp only [h, if_neg ho]

theorem serviceReadMissed_again {made : Nat} (hslot : s.reader.slot = some (.read made)) (h : made < 2) :
    s.serviceReadMissed = s.withReader fun d => { d with slot := some (.read (made + 1)) } := by
  unfold serviceReadMissed
  simp only [hslot]
  exact if_neg (by omega)

theorem serviceReadMissed_third (hslot : s.reader.slot = some (.read 2)) :
    s.serviceReadMissed = (s.withReader fun d => { d with slot := none }).refuseQuote .noCard .none := by
  unfold serviceReadMissed
  simp only [hslot]
  exact if_pos (by omega)

theorem quietHolds_iff (s : State) (n : Lane) (p : PassNo) :
    s.quietHolds n p = true ↔ ∃ q, s.adm.quiet.get n = some q ∧ q.pass = p ∧ s.time.ms < q.deadline := by
  unfold quietHolds
  split
  · next q h => simp [h]
  · next h => simp [h]

theorem scanAnswer_discarded {n : Lane} (c : Card) (h : (s.lane n).mode ≠ .opened ∨ (s.lane n).passage ≠ .idle) :
    s.scanAnswer n c = s := by
  unfold scanAnswer
  exact if_pos (by simpa using h)

theorem scanAnswer_taken {n : Lane} (c : Card) (hmode : (s.lane n).mode = .opened)
    (hpassage : (s.lane n).passage = .idle) :
    s.scanAnswer n c = if s.quietHolds n c.pass then s.fillQuiet n c.pass else s.admission n c := by
  unfold scanAnswer
  exact if_neg (by simp [hmode, hpassage])

end State

/-! ## Telegrams (R41, R45, section 11.4) -/

theorem beBytes_one (n : Nat) : beBytes 1 n = [BitVec.ofNat 8 n] := by simp [beBytes]

/-- The call frame of a stamp, byte group by byte group (Table 11-6). -/
theorem StampReq.callFrame_eq (q : StampReq) :
    let usage := [BitVec.ofNat 8 q.used] ++ beBytes 2 (q.lastUse.getD 0) ++
      [if q.mark then 1 else 0, BitVec.ofNat 8 q.seq]
    let frame := [0xB5] ++ beBytes 5 q.pass.toNat ++ usage ++ [crc8 usage]
    q.callFrame = frame ++ beBytes 2 (crc16 0xFFFF frame).toNat := by
  simp only [callFrame, callBytes, usageBlock, beBytes_one, boolCode, List.append_assoc, List.cons_append,
    List.nil_append, BitVec.ofNat_eq_ofNat]

namespace State

variable {s : State} {v : CardVisit}

theorem airBytes_of_visit (hrunning : s.stopped = false) (hvisit : s.reader.visit = some (.card v)) :
    s.airBytes = Visit.call s.reader (.card v) := by
  unfold airBytes
  simp only [hrunning, hvisit, Bool.false_eq_true, if_false, Option.map_some, Option.getD_some]

theorem drivenAntenna_of_visit (hrunning : s.stopped = false) (hvisit : s.reader.visit = some (.card v)) :
    s.drivenAntenna = some v.antenna := by
  unfold drivenAntenna
  simp only [hrunning, hvisit, Bool.false_eq_true, if_false, Option.map_some, Visit.antenna]

theorem visitCall_read (d : Reader) (h : v.purpose = .scanRead ∨ v.purpose = .serviceRead) :
    Visit.call d (.card v) = [0xAA, 0xAA, 0x7E, 0x3C] := by
  unfold Visit.call
  rcases h with h | h <;> simp only [h, Purpose.kind] <;> rfl

theorem visitCall_stamp {d : Reader} {q : StampReq} (h : v.purpose.kind = .stamp) (hq : d.stampAt v.position = some q) :
    Visit.call d (.card v) = preamble ++ q.callFrame := by
  unfold Visit.call
  simp only [h, hq, Option.map_some, Option.getD_some]
  rfl

/-- The stamp at a lane position is the first of its position in the list. -/
theorem stampAt_lane {d : Reader} {n : Lane} {q : StampReq} {earlier later : List StampReq}
    (hstamps : d.stamps = earlier ++ q :: later) (hq : q.position = .lane n)
    (hearlier : ∀ x ∈ earlier, x.position ≠ .lane n) : d.stampAt (.lane n) = some q := by
  change d.stamps.find? (fun r => r.position == .lane n) = some q
  rw [hstamps, List.find?_append, List.find?_eq_none.mpr fun x hx => by simpa using hearlier x hx, Option.none_or,
    List.find?_cons_of_pos (by simpa using hq)]

theorem stampAt_ps {d : Reader} {q : StampReq} (h : d.slot = some (.stamp q)) : d.stampAt .ps = some q := by
  unfold Reader.stampAt
  simp only [h]

end State

/-! ## The lead-in (R41) -/

theorem afterLeadIn_none {heard : List Byte} (h : leadIn ∉ heard) : afterLeadIn heard = none := by
  induction heard with
  | nil => rfl
  | cons b bs ih =>
    rw [afterLeadIn, if_neg (List.ne_of_not_mem_cons h).symm, ih (List.not_mem_of_not_mem_cons h)]

theorem afterLeadIn_some {before : List Byte} (after : List Byte) (h : leadIn ∉ before) :
    afterLeadIn (before ++ leadIn :: after) = some after := by
  induction before with
  | nil => exact if_pos rfl
  | cons b bs ih =>
    rw [List.cons_append, afterLeadIn, if_neg (List.ne_of_not_mem_cons h).symm,
      ih (List.not_mem_of_not_mem_cons h)]

/-- Settles O26, by the delivery of a read, the telegrams, and the lead-in. -/
theorem readVisitsDeliverTheirCard : Obligations.ReadVisitsDeliverTheirCard := by
  refine ⟨⟨fun v n r s hrunning hvisit hpurpose hposition => ?_, fun n c s => ⟨State.scanAnswer_discarded c,
      fun hmode hpassage => ⟨fun q hq hpass hbefore => ?_, fun hquiet => ?_⟩⟩⟩,
    fun v s hrunning hvisit => ⟨State.drivenAntenna_of_visit hrunning hvisit, fun hpurpose => ?_, fun q hq => ?_⟩,
    fun r => ⟨afterLeadIn_none, fun before after hheard hbefore => ?_⟩,
    fun v k r s hrunning hvisit hpurpose hposition hslot hcard => ?_⟩
  · dsimp only
    rw [State.exec_readVisit r hrunning hvisit (by rw [hpurpose]; rfl), hposition, State.deliverRead_lane hposition]
    split <;> rfl
  · rw [State.scanAnswer_taken c hmode hpassage, if_pos ((s.quietHolds_iff n c.pass).mpr ⟨q, hq, hpass, hbefore⟩)]
    rfl
  · have hout : ¬s.quietHolds n c.pass = true := fun h => by
      obtain ⟨q, hq, hpass, hbefore⟩ := (s.quietHolds_iff n c.pass).mp h
      exact Nat.not_le.mpr hbefore (hquiet q hq hpass)
    rw [State.scanAnswer_taken c hmode hpassage, if_neg hout]
  · rw [State.airBytes_of_visit hrunning hvisit, State.visitCall_read s.reader hpurpose]
  · have hstamp : v.purpose.kind = .stamp ∧ s.reader.stampAt v.position = some q := by
      rcases hq with ⟨hpurpose, n, earlier, later, hposition, hstamps, hq, hearlier⟩ | ⟨hpurpose, hposition, hslot⟩
      · exact ⟨by rw [hpurpose]; rfl, by rw [hposition]; exact State.stampAt_lane hstamps hq hearlier⟩
      · exact ⟨by rw [hpurpose]; rfl, by rw [hposition]; exact State.stampAt_ps hslot⟩
    obtain ⟨hkind, hat⟩ := hstamp
    rw [State.airBytes_of_visit hrunning hvisit, State.visitCall_stamp hkind hat, q.callFrame_eq, ← List.append_assoc]
    rfl
  · change afterLeadIn r.heard = some after
    rw [hheard]
    exact afterLeadIn_some after hbefore
  · have hexec := State.exec_readVisit r hrunning hvisit (by rw [hpurpose]; rfl)
    rw [hposition, State.deliverRead_missed hposition hcard] at hexec
    have hslot' : (s.applyOutcome .ps v.antenna (outcomeOf 28 0xA1 r)).reader.slot = some (.read k) := by
      rw [State.applyOutcome_reader]
      exact hslot
    refine ⟨fun hk => ?_, fun hk => ?_⟩
    · rw [hexec, State.serviceReadMissed_again hslot' hk]
    · subst hk
      rw [hexec, State.serviceReadMissed_third hslot']
      rfl

end Sys2Proof.Machine

/-! # The antenna map: what ends of work and new assignments do (R33, R34, R36) -/

namespace Sys2Proof

/-- A fold of writes gives each position named its value and leaves the others. -/
theorem PerPos.get_foldl_set {α β : Type} (f : Position → α) (place : β → Position) (val : β → α) (l : List β)
    (h : ∀ c ∈ l, val c = f (place c)) (v : PerPos α) (q : Position) :
    (l.foldl (fun m c => m.set (place c) (val c)) v).get q = if q ∈ l.map place then f q else v.get q := by
  induction l generalizing v with
  | nil => simp
  | cons c l ih =>
    rw [List.foldl_cons, ih (fun c' hc' => h c' (List.mem_cons_of_mem _ hc')), PerPos.get_set]
    have hc := h c List.mem_cons_self
    by_cases hq : q ∈ l.map place
    · simp [hq]
    · by_cases hqc : q = place c
      · subst hqc
        simp [hq, hc]
      · simp [hq, hqc]

end Sys2Proof

namespace Sys2Proof.Machine
namespace State

variable {s t u : State}

/-! ## The lane ports -/

/-- The lane ports stay as they are: the operation's replies and notices are the station port's. -/
def LanePortsStay (s t : State) : Prop := ∀ n, t.port (.lp n) = s.port (.lp n)

theorem LanePortsStay.refl (s : State) : s.LanePortsStay s := fun _ => rfl

theorem LanePortsStay.trans (h : s.LanePortsStay t) (k : t.LanePortsStay u) : s.LanePortsStay u :=
  fun n => (k n).trans (h n)

theorem LanePortsStay.of_ports (h : t.ports = s.ports) : s.LanePortsStay t := fun n => by rw [port, port, h]

theorem raiseStation_lanePorts (s : State) (x : StationNotice) : s.LanePortsStay (s.raiseStation x) :=
  fun n => s.raiseStation_port_lane x n

theorem completeLong_lanePorts (s : State) (res : Result) (b : Body) : s.LanePortsStay (s.completeLong res b) := by
  unfold completeLong
  split
  · exact fun n => by rw [raiseStation_port_lane, withPort_port, if_neg (by simp)]
  all_goals exact .refl s

theorem refuseQuote_lanePorts (s : State) (res : Result) (b : Body) : s.LanePortsStay (s.refuseQuote res b) :=
  (LanePortsStay.of_ports rfl).trans (completeLong_lanePorts _ res b)

theorem placeHold_lanePorts (s : State) (r : Reading) (q : Quote) : s.LanePortsStay (s.placeHold r q) := by
  unfold placeHold
  split
  · exact refuseQuote_lanePorts s _ _
  · split
    · exact refuseQuote_lanePorts s _ _
    · exact (LanePortsStay.of_ports rfl).trans (completeLong_lanePorts _ _ _)

theorem settleWriteBack_lanePorts (s : State) (ok : Bool) : s.LanePortsStay (s.settleWriteBack ok) := by
  unfold settleWriteBack
  split
  · split
    · split <;> exact placeHold_lanePorts s _ _
    · exact .refl s
  all_goals exact .refl s

theorem commitFailed_lanePorts (s : State) (q : StandingQuote) (echoed : Option PassNo) :
    s.LanePortsStay (s.commitFailed q echoed).1 := by
  unfold commitFailed
  dsimp only
  rw [apply_ite Prod.fst]
  split
  · exact (LanePortsStay.of_ports rfl).trans (raiseStation_lanePorts _ _)
  · exact .of_ports rfl

theorem settleCommit_lanePorts (s : State) (ok : Bool) (echoed : Option PassNo) :
    s.LanePortsStay (s.settleCommit ok echoed).1 := by
  unfold settleCommit
  split
  · cases ok with
    | true => exact (LanePortsStay.of_ports rfl).trans (raiseStation_lanePorts _ _)
    | false => exact commitFailed_lanePorts s _ echoed
  all_goals exact .refl s

theorem settleService_lanePorts (s : State) (r : StampReq) (ok : Bool) : s.LanePortsStay (s.settleService r ok) := by
  unfold settleService
  split
  · have hsettled := settleCommit_lanePorts s ok r.echoed
    unfold settleCommitLong
    split
    · next h => rw [h] at hsettled; exact hsettled.trans (completeLong_lanePorts _ _ _)
    · next h => rw [h] at hsettled; exact hsettled
  · exact settleWriteBack_lanePorts s ok
  · exact .refl s

/-! ## Pending work that ends (R36) -/

theorem endPendingWork_lane (s : State) (n : Lane) :
    s.endPendingWork (.lane n) =
      s.withReader fun d => { d with stamps := d.stamps.filter fun r => r.position != .lane n } := rfl

theorem endPendingWork_ps_reader (s : State) : (s.endPendingWork .ps).reader = { s.reader with slot := none } := by
  unfold endPendingWork
  dsimp only
  split <;> simp

theorem endPendingWork_lanePorts (s : State) (p : Position) : s.LanePortsStay (s.endPendingWork p) := by
  cases p with
  | lane n => exact .of_ports rfl
  | ps =>
    unfold endPendingWork
    dsimp only
    split
    · exact (LanePortsStay.of_ports rfl).trans (refuseQuote_lanePorts _ _ _)
    · exact (LanePortsStay.of_ports rfl).trans (settleService_lanePorts _ _ _)
    · exact .of_ports rfl

/-- A service read that ends leaves no refund context. -/
theorem endPendingWork_ps_read {k : Nat} (h : s.reader.slot = some (.read k)) :
    (s.endPendingWork .ps).refund.ctx = .idle := by
  unfold endPendingWork
  simp only [h, refuseQuote, completeLong_frame]
  rfl

theorem endPendingWork_ps_empty (h : s.reader.slot = none) : (s.endPendingWork .ps).refund = s.refund := by
  unfold endPendingWork
  simp only [h]
  rfl

/-- Pending work at a position, by what it leaves of the reader. -/
theorem endPendingWork_reader (s : State) (p : Position) :
    (s.endPendingWork p).reader =
      { s.reader with
        stamps := (s.endPendingWork p).reader.stamps
        slot := (s.endPendingWork p).reader.slot } := by
  cases p with
  | lane n => rfl
  | ps => rw [endPendingWork_ps_reader]

theorem mem_endPendingWork_stamps (s : State) (p : Position) (r : StampReq) :
    r ∈ (s.endPendingWork p).reader.stamps ↔ r ∈ s.reader.stamps ∧ ¬∃ n, p = .lane n ∧ r.position = .lane n := by
  cases p with
  | ps => simp [endPendingWork_ps_reader]
  | lane n => simp [endPendingWork_lane]

/-! ## A new assignment applies to a position (R34) -/

/-- The fault memories and the collide run are cleared. -/
def clearedMemory (m : PosMemory) : PosMemory :=
  { m with faultCount := 0, degraded := false, fault := false, collideRun := 0 }

/-- The position's memory is cleared. -/
def clearPosition (s : State) (p : Position) : State :=
  s.withReader fun d => { d with pos := d.pos.set p (clearedMemory (s.reader.pos.get p)) }

theorem clearPosition_unworkable (s : State) (p : Position) :
    (s.clearPosition p).unworkable p = (s.reader.map.get p).isNone := by
  simp [unworkable, clearPosition, clearedMemory]

theorem remapPosition_mapped {p : Position} (h : s.reader.map.get p ≠ none) :
    s.remapPosition p = (s.clearPosition p).raiseAt p .position := by
  change ((s.clearPosition p).endIfUnworkable p).raiseAt p .position = _
  unfold endIfUnworkable
  rw [clearPosition_unworkable, if_neg (by simpa using h)]

theorem remapPosition_unmapped {p : Position} (h : s.reader.map.get p = none) :
    s.remapPosition p = ((s.clearPosition p).endPendingWork p).raiseAt p .position := by
  change ((s.clearPosition p).endIfUnworkable p).raiseAt p .position = _
  unfold endIfUnworkable
  rw [clearPosition_unworkable, if_pos (by simpa using h)]

theorem remapPosition_reader (s : State) (p : Position) :
    (s.remapPosition p).reader =
      { s.reader with
        pos := s.reader.pos.set p (clearedMemory (s.reader.pos.get p))
        stamps := (s.remapPosition p).reader.stamps
        slot := (s.remapPosition p).reader.slot } := by
  by_cases h : s.reader.map.get p = none
  · rw [remapPosition_unmapped h, raiseAt_reader, endPendingWork_reader]
    rfl
  · rw [remapPosition_mapped h, raiseAt_reader]
    rfl

theorem mem_remapPosition_stamps (s : State) (p : Position) (r : StampReq) :
    r ∈ (s.remapPosition p).reader.stamps ↔
      r ∈ s.reader.stamps ∧ ¬∃ n, p = .lane n ∧ s.reader.map.get p = none ∧ r.position = .lane n := by
  by_cases h : s.reader.map.get p = none
  · rw [remapPosition_unmapped h, raiseAt_reader, mem_endPendingWork_stamps]
    simp only [h, true_and]
    rfl
  · rw [remapPosition_mapped h, raiseAt_reader]
    simp only [h, false_and, and_false, exists_false, not_false_eq_true, and_true]
    rfl

theorem remapPosition_notices (s : State) (p : Position) (n : Lane) :
    ((s.remapPosition p).port (.lp n)).notices =
      (s.port (.lp n)).notices ||| if p = .lane n then LaneNotice.position.mask else 0 := by
  by_cases h : s.reader.map.get p = none
  · rw [remapPosition_unmapped h, raiseAt_notices, endPendingWork_lanePorts]
    rfl
  · rw [remapPosition_mapped h, raiseAt_notices]
    rfl

/-- The service slot and the refund engine stay where PS is not remapped, or remains mapped. -/
theorem remapPosition_service_same {p : Position} (h : p ≠ .ps ∨ s.reader.map.get .ps ≠ none) :
    (s.remapPosition p).reader.slot = s.reader.slot ∧ (s.remapPosition p).refund = s.refund := by
  by_cases hmap : s.reader.map.get p = none
  · cases p with
    | ps => exact absurd hmap (h.resolve_left (by simp))
    | lane n =>
      rw [remapPosition_unmapped hmap, raiseAt_reader]
      exact ⟨rfl, by simp [endPendingWork_lane, clearPosition]⟩
  · rw [remapPosition_mapped hmap, raiseAt_reader]
    exact ⟨rfl, by simp [clearPosition]⟩

theorem remapPosition_ps_unmapped (h : s.reader.map.get .ps = none) :
    (s.remapPosition .ps).reader.slot = none ∧
      (∀ k, s.reader.slot = some (.read k) → (s.remapPosition .ps).refund.ctx = .idle) ∧
      (s.reader.slot = none → (s.remapPosition .ps).refund = s.refund) := by
  rw [remapPosition_unmapped h, raiseAt_reader, endPendingWork_ps_reader]
  refine ⟨rfl, fun k hk => ?_, fun hslot => ?_⟩
  · exact endPendingWork_ps_read (s := s.clearPosition .ps) hk
  · exact endPendingWork_ps_empty (s := s.clearPosition .ps) hslot

/-! ## New assignments apply to several positions -/

/-- R34 for each of the positions. -/
def remapAll (s : State) (l : List Position) : State := l.foldl remapPosition s

theorem remapAll_reader (s : State) (l : List Position) :
    (s.remapAll l).reader =
      { s.reader with
        pos := (s.remapAll l).reader.pos
        stamps := (s.remapAll l).reader.stamps
        slot := (s.remapAll l).reader.slot } := by
  induction l generalizing s with
  | nil => rfl
  | cons p l ih =>
    change ((s.remapPosition p).remapAll l).reader = _
    rw [ih, remapPosition_reader]
    rfl

theorem remapAll_pos (l : List Position) (s : State) (q : Position) :
    (s.remapAll l).reader.pos.get q =
      if q ∈ l then clearedMemory (s.reader.pos.get q) else s.reader.pos.get q := by
  induction l generalizing s with
  | nil => simp [remapAll]
  | cons p l ih =>
    change ((s.remapPosition p).remapAll l).reader.pos.get q = _
    rw [ih, remapPosition_reader, PerPos.get_set]
    by_cases hp : q = p
    · subst hp
      simp [clearedMemory]
    · simp [hp]

theorem mem_remapAll_stamps (l : List Position) (s : State) (r : StampReq) :
    r ∈ (s.remapAll l).reader.stamps ↔ r ∈ s.reader.stamps ∧
      ¬∃ n, .lane n ∈ l ∧ s.reader.map.get (.lane n) = none ∧ r.position = .lane n := by
  induction l generalizing s with
  | nil => simp [remapAll]
  | cons p l ih =>
    change r ∈ ((s.remapPosition p).remapAll l).reader.stamps ↔ _
    have hmap : (s.remapPosition p).reader.map = s.reader.map := by rw [remapPosition_reader]
    rw [ih, mem_remapPosition_stamps, hmap]
    constructor
    · rintro ⟨⟨hr, hp⟩, hl⟩
      refine ⟨hr, fun ⟨n, hn, hnone, hpos⟩ => ?_⟩
      rcases List.mem_cons.mp hn with hn | hn
      · exact hp ⟨n, hn.symm, hn ▸ hnone, hpos⟩
      · exact hl ⟨n, hn, hnone, hpos⟩
    · rintro ⟨hr, hl⟩
      refine ⟨⟨hr, fun ⟨n, hp, hnone, hpos⟩ => hl ⟨n, ?_, hp ▸ hnone, hpos⟩⟩, fun ⟨n, hn, hnone, hpos⟩ =>
        hl ⟨n, List.mem_cons_of_mem _ hn, hnone, hpos⟩⟩
      exact hp ▸ List.mem_cons_self

theorem remapAll_notices (l : List Position) (s : State) (n : Lane) :
    ((s.remapAll l).port (.lp n)).notices =
      if .lane n ∈ l then (s.port (.lp n)).notices ||| LaneNotice.position.mask else (s.port (.lp n)).notices := by
  induction l generalizing s with
  | nil => simp [remapAll]
  | cons p l ih =>
    change (((s.remapPosition p).remapAll l).port (.lp n)).notices = _
    rw [ih, remapPosition_notices]
    by_cases hp : p = .lane n
    · subst hp
      simp [BitVec.or_assoc]
    · simp [hp, Ne.symm hp]

theorem remapAll_service_same {l : List Position} (h : .ps ∉ l ∨ s.reader.map.get .ps ≠ none) :
    (s.remapAll l).reader.slot = s.reader.slot ∧ (s.remapAll l).refund = s.refund := by
  induction l generalizing s with
  | nil => exact ⟨rfl, rfl⟩
  | cons p l ih =>
    change ((s.remapPosition p).remapAll l).reader.slot = _ ∧ ((s.remapPosition p).remapAll l).refund = _
    have hmap : (s.remapPosition p).reader.map = s.reader.map := by rw [remapPosition_reader]
    obtain ⟨hslot, hrefund⟩ := s.remapPosition_service_same (p := p)
      (h.imp_left fun hps hp => hps (hp ▸ List.mem_cons_self))
    obtain ⟨hslot', hrefund'⟩ := ih (s := s.remapPosition p)
      (h.imp (fun hps hl => hps (List.mem_cons_of_mem _ hl)) (fun hps => hmap ▸ hps))
    exact ⟨hslot'.trans hslot, hrefund'.trans hrefund⟩

/-- Where the service slot is empty, it and the refund engine stay. -/
theorem remapAll_empty {l : List Position} (h : s.reader.slot = none) :
    (s.remapAll l).reader.slot = none ∧ (s.remapAll l).refund = s.refund := by
  induction l generalizing s with
  | nil => exact ⟨h, rfl⟩
  | cons p l ih =>
    change ((s.remapPosition p).remapAll l).reader.slot = _ ∧ ((s.remapPosition p).remapAll l).refund = _
    have hstep : (s.remapPosition p).reader.slot = none ∧ (s.remapPosition p).refund = s.refund := by
      by_cases hp : p = .ps ∧ s.reader.map.get .ps = none
      · obtain ⟨rfl, hmap⟩ := hp
        obtain ⟨hslot, _, hrefund⟩ := remapPosition_ps_unmapped hmap
        exact ⟨hslot, hrefund h⟩
      · obtain ⟨hslot, hrefund⟩ := s.remapPosition_service_same (p := p) (not_and_or.mp hp)
        exact ⟨hslot.trans h, hrefund⟩
    obtain ⟨hslot, hrefund⟩ := hstep
    obtain ⟨hslot', hrefund'⟩ := ih hslot
    exact ⟨hslot', hrefund'.trans hrefund⟩

/-- PS among the positions and unmapped: its service work ends. -/
theorem remapAll_ps_unmapped {l : List Position} (hps : .ps ∈ l) (hmap : s.reader.map.get .ps = none) :
    (s.remapAll l).reader.slot = none ∧
      ∀ k, s.reader.slot = some (.read k) → (s.remapAll l).refund.ctx = .idle := by
  induction l generalizing s with
  | nil => cases hps
  | cons p l ih =>
    change ((s.remapPosition p).remapAll l).reader.slot = _ ∧
      ∀ k, _ → ((s.remapPosition p).remapAll l).refund.ctx = _
    by_cases hp : p = .ps
    · subst hp
      obtain ⟨hslot, hctx, _⟩ := remapPosition_ps_unmapped hmap
      obtain ⟨hslot', hrefund'⟩ := remapAll_empty (l := l) hslot
      exact ⟨hslot', fun k hk => by rw [hrefund']; exact hctx k hk⟩
    · obtain ⟨hslot, _⟩ := s.remapPosition_service_same (p := p) (.inl hp)
      have hkept : (s.remapPosition p).reader.map = s.reader.map := by rw [remapPosition_reader]
      obtain ⟨hslot', hctx'⟩ := ih (s := s.remapPosition p) ((List.mem_cons.mp hps).resolve_left (Ne.symm hp))
        (by rw [hkept]; exact hmap)
      exact ⟨hslot', fun k hk => hctx' k (hslot.trans hk)⟩

/-! ## A map applies (R33, R34) -/

/-- The map after the changes named. -/
def withMap (s : State) (changes : List (Position × Option Antenna)) : State :=
  s.withReader fun d => { d with map := changes.foldl (fun m c => m.set c.1 c.2) d.map }

theorem applyMap_eq (s : State) (changes : List (Position × Option Antenna)) :
    s.applyMap changes = (s.withMap changes).remapAll (changes.map Prod.fst) := by
  unfold remapAll
  rw [List.foldl_map]
  rfl

theorem withMap_map (s : State) {changes : List (Position × Option Antenna)} (f : Position → Option Antenna)
    (h : ∀ c ∈ changes, c.2 = f c.1) (q : Position) :
    (s.withMap changes).reader.map.get q = if q ∈ changes.map Prod.fst then f q else s.reader.map.get q :=
  PerPos.get_foldl_set f Prod.fst Prod.snd changes h s.reader.map q

end State
end Sys2Proof.Machine

/-! # The antenna map: which changes wait (R33) -/

namespace Sys2Proof.Machine

theorem Position.mem_all (p : Position) : p ∈ Position.all := by
  cases p with
  | ps => decide
  | lane n => cases n <;> decide

theorem mem_changedPositions {old new : PerPos (Option Antenna)} {p : Position} :
    p ∈ changedPositions old new ↔ old.get p ≠ new.get p := by
  simp [changedPositions, Position.mem_all]

theorem changedPositions_length (old new : PerPos (Option Antenna)) : (changedPositions old new).length ≤ 5 :=
  List.length_filter_le _ Position.all

theorem blockedBy_iff {old new : PerPos (Option Antenna)} {waiting : List Position} {p : Position} :
    blockedBy old new waiting p = true ↔ new.get p ≠ none ∧ ∃ q ∈ waiting, q ≠ p ∧ old.get q = new.get p := by
  simp [blockedBy, ← Option.isSome_iff_ne_none]

/-! ## The rounds of joining -/

section

variable (old new : PerPos (Option Antenna)) (changed : List Position)

/-- One round: to the positions that wait come those whose antenna one of them holds. -/
def joinRound (waiting : List Position) : List Position :=
  changed.filter fun p => waiting.contains p || blockedBy old new waiting p

variable {old new changed} {waiting : List Position}

theorem mem_joinRound {p : Position} :
    p ∈ joinRound old new changed waiting ↔ p ∈ changed ∧ (p ∈ waiting ∨ blockedBy old new waiting p = true) := by
  simp [joinRound]

/-- What a round keeps, all the rounds keep. -/
theorem deferRounds_keep {Q : List Position → Prop} (h : ∀ w, Q w → Q (joinRound old new changed w)) (k : Nat)
    (hw : Q waiting) : Q (deferRounds old new changed k waiting) := by
  induction k generalizing waiting with
  | zero => exact hw
  | succ k ih => exact ih (h waiting hw)

/-- The waiting positions stand in the order of the changed ones. -/
def PicksFrom (changed waiting : List Position) : Prop := waiting = changed.filter fun p => waiting.contains p

theorem picksFrom_filter (f : Position → Bool) : PicksFrom changed (changed.filter f) := by
  refine List.filter_congr fun p hp => ?_
  rw [Bool.eq_iff_iff]
  simp [hp]

theorem PicksFrom.sublist_joinRound (h : PicksFrom changed waiting) :
    waiting.Sublist (joinRound old new changed waiting) := by
  conv_lhs => rw [h]
  refine List.monotone_filter_right changed fun p => ?_
  simp only [Bool.or_eq_true]
  exact .inl

theorem deferRounds_of_stable (h : joinRound old new changed waiting = waiting) (k : Nat) :
    deferRounds old new changed k waiting = waiting :=
  deferRounds_keep (Q := fun w => w = waiting) (fun w hw => by rw [hw, h]) k rfl

/-- A round that joins no position is the last: after as many rounds as there are positions left to join, none is
joined any more. -/
theorem deferRounds_stable (k : Nat) (h : PicksFrom changed waiting) (hlen : changed.length ≤ k + waiting.length) :
    joinRound old new changed (deferRounds old new changed k waiting) = deferRounds old new changed k waiting := by
  induction k generalizing waiting with
  | zero =>
    have hround : (joinRound old new changed waiting).length ≤ changed.length := List.length_filter_le _ _
    exact (h.sublist_joinRound.eq_of_length_le (by omega)).symm
  | succ k ih =>
    by_cases hstable : joinRound old new changed waiting = waiting
    · rw [deferRounds_of_stable hstable, hstable]
    · have hgrown : waiting.length < (joinRound old new changed waiting).length :=
        Nat.lt_of_not_le fun hle => hstable (h.sublist_joinRound.eq_of_length_le hle).symm
      exact ih (waiting := joinRound old new changed waiting) (picksFrom_filter _) (by omega)

end

/-! ## The positions that wait -/

namespace Reader

variable (d : Reader) (new : PerPos (Option Antenna))

theorem visitPosition_iff {p : Position} :
    d.visitPosition = some p ↔ ∃ v, d.visit = some (.card v) ∧ v.position = p := by
  unfold visitPosition
  split
  · next h => simp [h]
  · next h => simp [h]
  · next h => simp [h]

/-- The position of the visit in flight, where the map changes it. -/
def firstToWait : List Position := (changedPositions d.map new).filter fun p => d.visitPosition == some p

theorem mem_firstToWait {p : Position} :
    p ∈ d.firstToWait new ↔ d.map.get p ≠ new.get p ∧ ∃ v, d.visit = some (.card v) ∧ v.position = p := by
  simp [firstToWait, mem_changedPositions, visitPosition_iff]

theorem deferredBy_eq :
    d.deferredBy new = deferRounds d.map new (changedPositions d.map new) 5 (d.firstToWait new) := rfl

theorem mem_deferredBy_changed {p : Position} (h : p ∈ d.deferredBy new) : d.map.get p ≠ new.get p := by
  refine deferRounds_keep (Q := fun w => p ∈ w → d.map.get p ≠ new.get p) (fun w _ hp => ?_) 5 (fun hp => ?_) h
  · exact mem_changedPositions.mp (mem_joinRound.mp hp).1
  · exact ((d.mem_firstToWait new).mp hp).1

theorem mem_deferredBy_of_visit {v : CardVisit} (hv : d.visit = some (.card v))
    (hchanged : d.map.get v.position ≠ new.get v.position) : v.position ∈ d.deferredBy new := by
  refine deferRounds_keep (Q := fun w => v.position ∈ w) (fun w hw => ?_) 5 ?_
  · exact mem_joinRound.mpr ⟨mem_changedPositions.mpr hchanged, .inl hw⟩
  · exact (d.mem_firstToWait new).mpr ⟨hchanged, v, hv, rfl⟩

theorem deferredBy_of_no_visit (h : ∀ v, d.visit ≠ some (.card v)) : d.deferredBy new = [] := by
  refine deferRounds_keep (Q := fun w => w = []) (fun w hw => ?_) 5 ?_
  · subst hw
    exact List.eq_nil_iff_forall_not_mem.mpr fun p hp => by simp [mem_joinRound, blockedBy_iff] at hp
  · exact List.eq_nil_iff_forall_not_mem.mpr fun p hp => by
      obtain ⟨_, v, hv, _⟩ := (d.mem_firstToWait new).mp hp
      exact h v hv

/-- A position waits where its new antenna is still held by one that waits. -/
theorem mem_deferredBy_of_blocked {p q : Position} (hchanged : d.map.get p ≠ new.get p) (hnew : new.get p ≠ none)
    (hq : q ∈ d.deferredBy new) (hqp : q ≠ p) (hheld : d.map.get q = new.get p) : p ∈ d.deferredBy new := by
  have hlen := changedPositions_length d.map new
  have hstable := deferRounds_stable (old := d.map) (new := new) 5
    (picksFrom_filter (changed := changedPositions d.map new) fun p => d.visitPosition == some p) (by omega)
  rw [deferredBy_eq, firstToWait, ← hstable]
  exact mem_joinRound.mpr ⟨mem_changedPositions.mpr hchanged, .inr (blockedBy_iff.mpr ⟨hnew, q, hq, hqp, hheld⟩)⟩

/-- No position waits but for the visit in flight, or for another that waits. -/
theorem deferredBy_cause {p : Position} (h : p ∈ d.deferredBy new) :
    (∃ v, d.visit = some (.card v) ∧ v.position = p) ∨
      ∃ q ∈ d.deferredBy new, q ≠ p ∧ new.get p ≠ none ∧ d.map.get q = new.get p := by
  refine deferRounds_keep (Q := fun w => PicksFrom (changedPositions d.map new) w ∧ ∀ p ∈ w,
    (∃ v, d.visit = some (.card v) ∧ v.position = p) ∨ ∃ q ∈ w, q ≠ p ∧ new.get p ≠ none ∧ d.map.get q = new.get p)
    (fun w ⟨hpicks, hw⟩ => ⟨picksFrom_filter _, fun p hp => ?_⟩) 5
    ⟨picksFrom_filter _, fun p hp => .inl ((d.mem_firstToWait new).mp hp).2⟩ |>.2 p h
  have hkept : ∀ q ∈ w, q ∈ joinRound d.map new (changedPositions d.map new) w :=
    fun q hq => hpicks.sublist_joinRound.subset hq
  rcases (mem_joinRound.mp hp).2 with hp | hp
  · exact (hw p hp).imp_right fun ⟨q, hq, hrest⟩ => ⟨q, hkept q hq, hrest⟩
  · obtain ⟨hnew, q, hq, hqp, hheld⟩ := blockedBy_iff.mp hp
    exact .inr ⟨q, hkept q hq, hqp, hnew, hheld⟩

end Reader

/-! ## An accepted map -/

namespace State

/-- The positions whose change applies at once. -/
def changesNow (s : State) (new : PerPos (Option Antenna)) : List Position :=
  (changedPositions s.reader.map new).filter fun p => !(s.reader.deferredBy new).contains p

theorem mem_changesNow {s : State} {new : PerPos (Option Antenna)} {p : Position} :
    p ∈ s.changesNow new ↔ s.reader.map.get p ≠ new.get p ∧ p ∉ s.reader.deferredBy new := by
  simp [changesNow, mem_changedPositions]

/-- The changes that wait, as the reader remembers them. -/
def deferChanges (s : State) (new : PerPos (Option Antenna)) : State :=
  s.withReader fun d =>
    { d with deferred := (s.reader.deferredBy new).foldl (fun m p => m.set p (some (new.get p))) (.const none) }

variable (s : State) (new : PerPos (Option Antenna))

theorem installMap_eq :
    s.installMap new =
      ((s.deferChanges new).withMap ((s.changesNow new).map fun p => (p, new.get p))).remapAll (s.changesNow new) := by
  change (s.deferChanges new).applyMap ((s.changesNow new).map fun p => (p, new.get p)) = _
  rw [applyMap_eq, List.map_map]
  congr 1
  exact List.map_id _

/-- The map in force while the changes apply: the new antennas of the changes that apply at once. -/
theorem installMap_withMap (p : Position) :
    ((s.deferChanges new).withMap ((s.changesNow new).map fun p => (p, new.get p))).reader.map.get p =
      if p ∈ s.changesNow new then new.get p else s.reader.map.get p := by
  rw [withMap_map _ new.get (by simp), List.map_map]
  simp [deferChanges]

theorem installMap_map (p : Position) :
    (s.installMap new).reader.map.get p = if p ∈ s.changesNow new then new.get p else s.reader.map.get p := by
  rw [installMap_eq, remapAll_reader]
  exact s.installMap_withMap new p

theorem installMap_deferred (p : Position) :
    (s.installMap new).reader.deferred.get p = if p ∈ s.reader.deferredBy new then some (new.get p) else none := by
  rw [installMap_eq, remapAll_reader]
  have hset := PerPos.get_foldl_set (fun p => some (new.get p)) id (fun p => some (new.get p))
    (s.reader.deferredBy new) (fun _ _ => rfl) (.const none) p
  rw [List.map_id, PerPos.get_const] at hset
  exact hset

theorem installMap_pos (p : Position) :
    (s.installMap new).reader.pos.get p =
      if p ∈ s.changesNow new then clearedMemory (s.reader.pos.get p) else s.reader.pos.get p := by
  rw [installMap_eq, remapAll_pos]
  rfl

theorem installMap_notices (n : Lane) :
    ((s.installMap new).port (.lp n)).notices =
      if .lane n ∈ s.changesNow new then (s.port (.lp n)).notices ||| LaneNotice.position.mask
      else (s.port (.lp n)).notices := by
  rw [installMap_eq, remapAll_notices]
  rfl

theorem mem_installMap_stamps (r : StampReq) :
    r ∈ (s.installMap new).reader.stamps ↔ r ∈ s.reader.stamps ∧
      ¬∃ n, .lane n ∈ s.changesNow new ∧ new.get (.lane n) = none ∧ r.position = .lane n := by
  rw [installMap_eq, mem_remapAll_stamps]
  refine and_congr Iff.rfl (not_congr (exists_congr fun n => and_congr_right fun hn => ?_))
  rw [installMap_withMap, if_pos hn]

theorem installMap_ps_unmapped (hps : .ps ∈ s.changesNow new) (hnone : new.get .ps = none) :
    (s.installMap new).reader.slot = none ∧
      ∀ k, s.reader.slot = some (.read k) → (s.installMap new).refund.ctx = .idle := by
  rw [installMap_eq]
  refine remapAll_ps_unmapped hps ?_
  rw [installMap_withMap, if_pos hps]
  exact hnone

theorem installMap_service_same (h : .ps ∉ s.changesNow new ∨ new.get .ps ≠ none) :
    (s.installMap new).reader.slot = s.reader.slot ∧ (s.installMap new).refund = s.refund := by
  rw [installMap_eq]
  refine remapAll_service_same ?_
  by_cases hps : .ps ∈ s.changesNow new
  · rw [installMap_withMap, if_pos hps]
    exact .inr (h.resolve_left (not_not.mpr hps))
  · exact .inl hps

end State
end Sys2Proof.Machine

/-! # Antenna orders and tunes (O21) -/

namespace Sys2Proof.Machine
namespace State

/-! ## Deferred changes apply where a visit ends (R30, R33) -/

theorem mem_deferredChanges {d : Reader} {c : Position × Option Antenna} :
    c ∈ d.deferredChanges ↔ d.deferred.get c.1 = some c.2 := by
  obtain ⟨p, a⟩ := c
  simp only [Reader.deferredChanges, List.mem_filterMap, Option.map_eq_some_iff, Prod.mk.injEq]
  constructor
  · rintro ⟨q, _, b, hb, rfl, rfl⟩
    exact hb
  · exact fun h => ⟨p, Position.mem_all p, a, h, rfl, rfl⟩

theorem mem_deferredPositions {d : Reader} {p : Position} :
    p ∈ d.deferredChanges.map Prod.fst ↔ d.deferred.get p ≠ none := by
  rw [List.mem_map]
  constructor
  · rintro ⟨c, hc, rfl⟩
    rw [mem_deferredChanges.mp hc]
    simp
  · intro h
    obtain ⟨a, ha⟩ := Option.ne_none_iff_exists'.mp h
    exact ⟨(p, a), mem_deferredChanges.mpr ha, rfl⟩

variable (s : State)

/-- No change waits any more. -/
def clearDeferred : State := s.withReader fun d => { d with deferred := .const none }

theorem applyDeferred_eq :
    s.applyDeferred =
      (s.clearDeferred.withMap s.reader.deferredChanges).remapAll (s.reader.deferredChanges.map Prod.fst) :=
  applyMap_eq s.clearDeferred s.reader.deferredChanges

theorem applyDeferred_map (p : Position) :
    s.applyDeferred.reader.map.get p = (s.reader.deferred.get p).getD (s.reader.map.get p) := by
  rw [applyDeferred_eq, remapAll_reader]
  refine (withMap_map s.clearDeferred (fun p => (s.reader.deferred.get p).getD none)
    (fun c hc => by rw [mem_deferredChanges.mp hc]; rfl) p).trans ?_
  by_cases h : s.reader.deferred.get p = none
  · rw [if_neg (mt mem_deferredPositions.mp (not_not.mpr h)), h]
    rfl
  · obtain ⟨a, ha⟩ := Option.ne_none_iff_exists'.mp h
    rw [if_pos (mem_deferredPositions.mpr h), ha]
    rfl

theorem applyDeferred_deferred (p : Position) : s.applyDeferred.reader.deferred.get p = none := by
  rw [applyDeferred_eq, remapAll_reader]
  exact PerPos.get_const none p

theorem applyDeferred_pos (p : Position) :
    s.applyDeferred.reader.pos.get p =
      if s.reader.deferred.get p = none then s.reader.pos.get p else clearedMemory (s.reader.pos.get p) := by
  rw [applyDeferred_eq, remapAll_pos]
  by_cases h : s.reader.deferred.get p = none
  · rw [if_neg (mt mem_deferredPositions.mp (not_not.mpr h)), if_pos h]
    rfl
  · rw [if_pos (mem_deferredPositions.mpr h), if_neg h]
    rfl

theorem arbiter_map : s.arbiter.reader.map = s.reader.map := by
  unfold arbiter startScan
  (repeat' split) <;> rfl

end State

/-! ## The map that an order carries -/

/-- An antenna or NONE as ANTENNA MAP carries it. -/
def mapEntryByte : Option Antenna → Byte
  | none => 0xFF
  | some a => antennaCode a

theorem mapEntryOf_byte (e : Option Antenna) : mapEntryOf (mapEntryByte e) = some e := by
  cases e with
  | none => rfl
  | some a => cases a <;> rfl

theorem antennaOf_code (a : Antenna) : antennaOf (antennaCode a) = some a := by cases a <;> rfl

theorem antennaOf_above {b : Byte} (h : 5 < b.toNat) : antennaOf b = none := by
  unfold antennaOf
  split
  case h_7 => rfl
  all_goals omega

theorem antennaOf_valid {b : Byte} (h : b.toNat ≤ 5) : ∃ a, antennaOf b = some a ∧ antennaCode a = b := by
  have hcases : b = 0#8 ∨ b = 1#8 ∨ b = 2#8 ∨ b = 3#8 ∨ b = 4#8 ∨ b = 5#8 := by bv_omega
  rcases hcases with rfl | rfl | rfl | rfl | rfl | rfl
  · exact ⟨.a0, rfl, rfl⟩
  · exact ⟨.a1, rfl, rfl⟩
  · exact ⟨.a2, rfl, rfl⟩
  · exact ⟨.a3, rfl, rfl⟩
  · exact ⟨.a4, rfl, rfl⟩
  · exact ⟨.a5, rfl, rfl⟩

/-- A byte that ANTENNA MAP accepts is the byte of one entry. -/
theorem mapEntryByte_of_valid {b : Byte} (h : b = 0xFF ∨ b.toNat ≤ 5) : ∃ e, mapEntryByte e = b := by
  rcases h with rfl | h
  · exact ⟨none, rfl⟩
  · obtain ⟨a, _, ha⟩ := antennaOf_valid h
    exact ⟨some a, ha⟩

theorem mapEntryOf_invalid {b : Byte} (h : ¬(b = 0xFF#8 ∨ b.toNat ≤ 5)) : mapEntryOf b = none := by
  obtain ⟨hnone, hcode⟩ := not_or.mp h
  unfold mapEntryOf
  rw [if_neg hnone, antennaOf_above (Nat.lt_of_not_le hcode)]
  rfl

theorem mapEntryByte_injective : Function.Injective mapEntryByte := fun e f h => by
  have hof := congrArg mapEntryOf h
  rw [mapEntryOf_byte, mapEntryOf_byte] at hof
  exact Option.some.inj hof

/-- A byte other than NONE's that stands twice among entries is an antenna that is named twice. -/
theorem not_nodup_of_count {es : List (Option Antenna)} {x : Byte} (hx : x ≠ 0xFF)
    (h : 2 ≤ (es.map mapEntryByte).count x) : ¬(es.filterMap id).Nodup := by
  intro hnodup
  obtain ⟨e, _, he⟩ := List.mem_map.mp (List.count_pos_iff.mp (Nat.lt_of_lt_of_le Nat.zero_lt_two h))
  cases e with
  | none => exact hx he.symm
  | some a =>
    rw [← he, List.count_map_of_injective _ _ mapEntryByte_injective] at h
    have hone : (es.filterMap id).count a ≤ 1 := List.nodup_iff_count_le_one.mp hnodup a
    rw [List.count_filterMap] at hone
    exact absurd (h.trans hone) (by decide)

theorem mapEntryOf_some {b : Byte} {e : Option Antenna} (h : mapEntryOf b = some e) :
    (b = 0xFF ∨ b.toNat ≤ 5) ∧ mapEntryByte e = b := by
  have hvalid : b = 0xFF ∨ b.toNat ≤ 5 := by
    by_contra hbad
    rw [mapEntryOf_invalid hbad] at h
    cases h
  obtain ⟨f, rfl⟩ := mapEntryByte_of_valid hvalid
  rw [mapEntryOf_byte] at h
  cases h
  exact ⟨hvalid, rfl⟩

/-- A byte that is of no antenna, or an antenna that is named twice, makes no map (R33). -/
theorem mapOf_bad {b0 b1 b2 b3 b4 : Byte}
    (h : ¬((b0 = 0xFF ∨ b0.toNat ≤ 5) ∧ (b1 = 0xFF ∨ b1.toNat ≤ 5) ∧ (b2 = 0xFF ∨ b2.toNat ≤ 5) ∧
        (b3 = 0xFF ∨ b3.toNat ≤ 5) ∧ (b4 = 0xFF ∨ b4.toNat ≤ 5)) ∨
      ∃ x : Byte, x ≠ 0xFF ∧ 2 ≤ [b0, b1, b2, b3, b4].count x) : mapOf b0 b1 b2 b3 b4 = none := by
  unfold mapOf
  split
  · next a b c d e h0 h1 h2 h3 h4 =>
    obtain ⟨hv0, rfl⟩ := mapEntryOf_some h0
    obtain ⟨hv1, rfl⟩ := mapEntryOf_some h1
    obtain ⟨hv2, rfl⟩ := mapEntryOf_some h2
    obtain ⟨hv3, rfl⟩ := mapEntryOf_some h3
    obtain ⟨hv4, rfl⟩ := mapEntryOf_some h4
    obtain ⟨x, hx, htwice⟩ := h.resolve_left (not_not.mpr ⟨hv0, hv1, hv2, hv3, hv4⟩)
    exact if_neg (not_nodup_of_count (es := [a, b, c, d, e]) hx htwice)
  · rfl

/-- The bytes of a map that names no antenna twice make that map. -/
theorem mapOf_bytes {m : PerPos (Option Antenna)} (h : ∀ p q a, p ≠ q → m.get p = some a → m.get q ≠ some a) :
    mapOf (mapEntryByte (m.get (.lane .l0))) (mapEntryByte (m.get (.lane .l1))) (mapEntryByte (m.get (.lane .l2)))
      (mapEntryByte (m.get (.lane .l3))) (mapEntryByte (m.get .ps)) = some m := by
  have hnodup : ((Position.all.map m.get).filterMap id).Nodup := by
    refine List.pairwise_filterMap.mpr (List.pairwise_map.mpr ?_)
    have hall : Position.all.Nodup := by decide
    refine hall.imp fun {p q} hpq a ha b hb hab => ?_
    subst hab
    exact h p q a hpq ha hb
  unfold mapOf
  simp only [mapEntryOf_byte]
  exact if_pos hnodup

/-! ## ANTENNA TUNE (R51) -/

namespace State

variable (s : State) (a : Antenna)

theorem orderTune_marked : { antenna := a, ordered := true } ∈ (s.orderTune a).reader.tuneList := by
  unfold orderTune
  simp only [withReader_reader]
  split
  · next h =>
    obtain ⟨e, he, ha⟩ := List.any_eq_true.mp h
    have ha : e.antenna = a := by simpa using ha
    refine List.mem_map.mpr ⟨e, he, ?_⟩
    rw [if_pos ha, ha]
  · simp

theorem mem_orderTune_other {e : TuneEntry} (h : e.antenna ≠ a) :
    e ∈ (s.orderTune a).reader.tuneList ↔ e ∈ s.reader.tuneList := by
  unfold orderTune
  simp only [withReader_reader]
  split
  · constructor
    · intro he
      obtain ⟨x, hx, rfl⟩ := List.mem_map.mp he
      split at h
      · next hxa => exact absurd hxa h
      · next hxa => rwa [if_neg hxa]
    · exact fun he => List.mem_map.mpr ⟨e, he, if_neg h⟩
  · have hne : e ≠ { antenna := a, ordered := true } := fun he => h (he ▸ rfl)
    simp [hne]

end State

theorem antennaTuneBlock_low {a : Antenna} {s : State} (h : s.supply.state ≠ .run) :
    antennaTuneBlock (some a) s = refuseWith s .lowSupply := if_pos h

theorem antennaTuneBlock_run {a : Antenna} {s : State} (h : s.supply.state = .run) :
    antennaTuneBlock (some a) s = ⟨(s.orderTune a).arbiter, none⟩ := if_neg (not_not.mpr h)

/-! ## TUNE COMPLETION (R53) -/

theorem TuneResult.good_iff (res : TuneResult) : res.good = true ↔ res = .ok ∨ res = .limit := by
  cases res <;> simp [good]

theorem positionOf_none {d : Reader} {a : Antenna} (h : ∀ p, d.map.get p ≠ some a) : d.positionOf a = none :=
  List.find?_eq_none.mpr fun p _ => by simpa using h p

theorem positionOf_some {d : Reader} {a : Antenna} {p : Position} (hp : d.map.get p = some a)
    (honly : ∀ q, d.map.get q = some a → q = p) : d.positionOf a = some p := by
  cases h : d.positionOf a with
  | none => exact absurd hp (by simpa using List.find?_eq_none.mp h p (Position.mem_all p))
  | some q =>
    have hq : d.map.get q = some a := by simpa using List.find?_some h
    rw [honly q hq]

namespace State

variable {s : State} {a : Antenna} {target : Nat} {ordered : Bool}

/-- The end of a tune whose record has been written and placed: ANTENNA is raised, the order is answered where one waits
on the tune, and the visit ends. -/
def endTune (s : State) (a : Antenna) (ordered : Bool) (rec0 : TuneRecord) : State :=
  if ordered then ((s.raiseStation .antenna).completeLong .ok (.tuneRecord a rec0)).endVisit
  else (s.raiseStation .antenna).endVisit

/-- The record and the level of a tune are written. -/
def writeTune (s : State) (a : Antenna) (rec0 : TuneRecord) : State :=
  s.withReader fun d => { d with tunes := d.tunes.set a (some rec0), levels := d.levels.set a rec0.newLevel }

theorem exec_tuneCompletion (i4 i12 : Nat) (hrunning : s.stopped = false)
    (hvisit : s.reader.visit = some (.tune a target ordered)) :
    exec (.tuneCompletion i4 i12) s = .next (s.tuneCompleted a target ordered i4 i12) := by
  change Host.Outcome.next (s.running fun s => s.tuneVisit i4 i12) = _
  unfold running tuneVisit
  simp only [hrunning, hvisit, Bool.false_eq_true, if_false]

theorem tuneCompleted_unplaced (i4 i12 : Nat) (h : s.reader.positionOf a = none) :
    s.tuneCompleted a target ordered i4 i12 =
      (s.writeTune a (tuneOutcome target i4 i12 (s.reader.levels.get a))).endTune a ordered
        (tuneOutcome target i4 i12 (s.reader.levels.get a)) := by
  have hplace : (s.writeTune a (tuneOutcome target i4 i12 (s.reader.levels.get a))).reader.positionOf a = none := h
  unfold writeTune at hplace
  unfold tuneCompleted
  simp only [hplace]
  cases ordered <;> rfl

theorem tuneCompleted_placed {p : Position} (i4 i12 : Nat) (h : s.reader.positionOf a = some p) :
    s.tuneCompleted a target ordered i4 i12 =
      ((s.writeTune a (tuneOutcome target i4 i12 (s.reader.levels.get a))).applyTune p
        (tuneOutcome target i4 i12 (s.reader.levels.get a)).result).endTune a ordered
        (tuneOutcome target i4 i12 (s.reader.levels.get a)) := by
  have hplace : (s.writeTune a (tuneOutcome target i4 i12 (s.reader.levels.get a))).reader.positionOf a = some p := h
  unfold writeTune at hplace
  unfold tuneCompleted
  simp only [hplace]
  cases ordered <;> rfl

/-! ## Table 2-8: the result of a tune at a position -/

/-- The memory of a position after a tune of its antenna. -/
def tuneMemory (m : PosMemory) (res : TuneResult) : PosMemory :=
  if res.good then { m with fault := false, degraded := false, faultCount := 0 } else { m with fault := true }

/-- The position takes the result of the tune. -/
def takeTune (s : State) (p : Position) (res : TuneResult) : State :=
  s.withReader fun d => { d with pos := d.pos.set p (tuneMemory (s.reader.pos.get p) res) }

/-- POSITION is raised, for OK only where the fault flag or DEGRADED was set. -/
theorem applyTune_eq (s : State) (p : Position) (res : TuneResult) :
    s.applyTune p res =
      if res = .ok ∧ (s.reader.pos.get p).fault = false ∧ (s.reader.pos.get p).degraded = false then
        (s.takeTune p res).endIfUnworkable p
      else ((s.takeTune p res).endIfUnworkable p).raiseAt p .position := by
  cases res with
  | ok =>
    change (if ((s.reader.pos.get p).fault || (s.reader.pos.get p).degraded) = true then
      ((s.takeTune p .ok).endIfUnworkable p).raiseAt p .position else (s.takeTune p .ok).endIfUnworkable p) = _
    by_cases h : (s.reader.pos.get p).fault = false ∧ (s.reader.pos.get p).degraded = false
    · rw [if_neg (by simp [h]), if_pos ⟨rfl, h⟩]
    · rw [if_pos (by simpa [-not_and, not_and_or] using h), if_neg fun hok => h hok.2]
  | limit => exact (if_neg fun h => by cases h.1).symm
  | opened => exact (if_neg fun h => by cases h.1).symm
  | shorted => exact (if_neg fun h => by cases h.1).symm

theorem takeTune_good {p : Position} {res : TuneResult} (hmap : s.reader.map.get p ≠ none) (h : res.good = true) :
    (s.takeTune p res).endIfUnworkable p = s.takeTune p res := by
  unfold endIfUnworkable
  rw [if_neg]
  simpa [unworkable, takeTune, tuneMemory, h] using hmap

theorem takeTune_bad (s : State) (p : Position) {res : TuneResult} (h : ¬res.good = true) :
    (s.takeTune p res).endIfUnworkable p = (s.takeTune p res).endPendingWork p := by
  unfold endIfUnworkable
  rw [if_pos]
  simp [unworkable, takeTune, tuneMemory, h]

theorem applyTune_reader (s : State) (p : Position) (res : TuneResult) :
    (s.applyTune p res).reader = ((s.takeTune p res).endIfUnworkable p).reader := by
  rw [applyTune_eq]
  split
  · rfl
  · exact raiseAt_reader _ _ _

theorem applyTune_refund (s : State) (p : Position) (res : TuneResult) :
    (s.applyTune p res).refund = ((s.takeTune p res).endIfUnworkable p).refund := by
  rw [applyTune_eq]
  split
  · rfl
  · simp

theorem applyTune_pos (s : State) (p q : Position) (res : TuneResult) :
    (s.applyTune p res).reader.pos.get q =
      if q = p then tuneMemory (s.reader.pos.get p) res else s.reader.pos.get q := by
  have hpos : ((s.takeTune p res).endIfUnworkable p).reader.pos = (s.takeTune p res).reader.pos := by
    unfold endIfUnworkable
    split
    · rw [endPendingWork_reader]
    · rfl
  rw [applyTune_reader, hpos]
  exact PerPos.get_set _ _ _ _

theorem applyTune_notices (s : State) (p : Position) (res : TuneResult) (n : Lane) :
    ((s.applyTune p res).port (.lp n)).notices =
      if p = .lane n ∧ ¬(res = .ok ∧ (s.reader.pos.get p).fault = false ∧ (s.reader.pos.get p).degraded = false) then
        (s.port (.lp n)).notices ||| LaneNotice.position.mask
      else (s.port (.lp n)).notices := by
  have hports : s.LanePortsStay ((s.takeTune p res).endIfUnworkable p) := by
    unfold endIfUnworkable
    split
    · exact endPendingWork_lanePorts (s.takeTune p res) p
    · exact .refl s
  rw [applyTune_eq]
  split
  · next h => rw [hports, if_neg fun hn => hn.2 h]
  · next h =>
    rw [raiseAt_notices, hports]
    by_cases hp : p = .lane n
    · rw [if_pos hp, if_pos ⟨hp, h⟩]
    · rw [if_neg hp, if_neg fun hn => hp hn.1]
      exact BitVec.or_zero

end State
end Sys2Proof.Machine

/-! # The antenna orders and the tunes, clause by clause (O21) -/

namespace Sys2Proof.Machine
namespace State

/-- A change applies at once where the map changes the position and the position does not wait. -/
theorem not_mem_changesNow {s : State} {m : PerPos (Option Antenna)} {p : Position}
    (h : ¬s.reader.map.get p ≠ m.get p ∨ p ∈ s.reader.deferredBy m) : p ∉ s.changesNow m := fun hp => by
  obtain ⟨hchanged, hwaits⟩ := mem_changesNow.mp hp
  exact h.elim (fun hsame => hsame hchanged) hwaits

/-- The answered map is the map in force: the arbiter leaves it. -/
theorem antennaMapBlock_some (m : PerPos (Option Antenna)) (s : State) :
    antennaMapBlock (some m) s = answerOk (s.installMap m).arbiter (.antennaMap (s.installMap m).reader.map) := by
  rw [← (s.installMap m).arbiter_map]
  rfl

/-- A bad result ends the pending work of the position, as pending work ends there (R36, R53). -/
theorem applyTune_bad {s : State} {p : Position} {res : TuneResult} (h : ¬res.good = true) :
    (∀ r, r ∈ (s.applyTune p res).reader.stamps ↔
        r ∈ s.reader.stamps ∧ ¬∃ n, p = .lane n ∧ r.position = .lane n) ∧
      (p ≠ .ps → (s.applyTune p res).reader.slot = s.reader.slot ∧ (s.applyTune p res).refund = s.refund) ∧
      (p = .ps → (s.applyTune p res).reader.slot = none ∧
        ∀ k, s.reader.slot = some (.read k) → (s.applyTune p res).refund.ctx = .idle) := by
  rw [applyTune_reader, applyTune_refund, takeTune_bad s p h]
  refine ⟨mem_endPendingWork_stamps (s.takeTune p res) p, fun hp => ?_, ?_⟩
  · cases p with
    | ps => exact absurd rfl hp
    | lane n => exact ⟨rfl, rfl⟩
  · rintro rfl
    exact ⟨by rw [endPendingWork_ps_reader], fun k hk => endPendingWork_ps_read (s := s.takeTune .ps res) hk⟩

end State

/-- Settles O21, by what ends of work, new assignments, the rounds of deferral, and the results of tunes each do. -/
theorem antennaOrdersAndTunesAct : Obligations.AntennaOrdersAndTunesAct := by
  refine ⟨fun b0 b1 b2 b3 b4 s h hbad => ?_, fun m s h hapart => ?_, fun m s => ?_, fun s => ⟨rfl, fun p => ?_⟩,
    fun b a s h => ⟨fun hb => ?_, fun hlow => ?_, fun hrun => ⟨?_, ?_⟩⟩,
    fun a target i4 i12 ordered s hrunning hvisit => ⟨fun hfree => ?_, fun p hp honly => ?_⟩,
    fun p res s hmap => ⟨fun hgood => ?_, fun hbad => ?_, fun q hq => ?_, s.applyTune_notices p res⟩⟩
  · refine takeOrder_answered h rfl ?_
    rw [mapOf_bad hbad]
    rfl
  · have hmap := congrArg (antennaMapBlock · (s.taken .sp)) (mapOf_bytes hapart)
    exact takeOrder_answered h rfl (hmap.trans (State.antennaMapBlock_some m (s.taken .sp)))
  · refine ⟨s.reader.deferredBy m, fun v hv hchanged => s.reader.mem_deferredBy_of_visit m hv hchanged,
      s.reader.deferredBy_of_no_visit m, fun p => s.reader.mem_deferredBy_changed m,
      fun p q hchanged hnew hq hqp hheld => s.reader.mem_deferredBy_of_blocked m hchanged hnew hq hqp hheld,
      fun p => s.reader.deferredBy_cause m, fun p => ?_, fun p hstays => ?_, fun p hchanged hwaits => ?_, fun n => ?_,
      fun r => ?_, fun hchanged hwaits => s.installMap_ps_unmapped m (State.mem_changesNow.mpr ⟨hchanged, hwaits⟩),
      fun hstays => s.installMap_service_same m ?_⟩
    · rw [s.installMap_deferred m p]
      exact ⟨fun hp => if_pos hp, fun hp => if_neg hp⟩
    · have hp := State.not_mem_changesNow hstays
      rw [s.installMap_map m p, s.installMap_pos m p, if_neg hp, if_neg hp]
      exact ⟨rfl, rfl⟩
    · have hp := State.mem_changesNow.mpr ⟨hchanged, hwaits⟩
      rw [s.installMap_map m p, s.installMap_pos m p, if_pos hp, if_pos hp]
      exact ⟨rfl, rfl⟩
    · rw [s.installMap_notices m n]
      simp only [State.mem_changesNow]
    · rw [s.mem_installMap_stamps m r]
      simp only [State.mem_changesNow]
      refine and_congr Iff.rfl (not_congr (exists_congr fun n => ?_))
      exact ⟨fun ⟨⟨hchanged, hwaits⟩, hnone, hr⟩ => ⟨hr, hchanged, hwaits, hnone⟩,
        fun ⟨hr, hchanged, hwaits, hnone⟩ => ⟨⟨hchanged, hwaits⟩, hnone, hr⟩⟩
    · rw [← or_assoc] at hstays
      exact hstays.imp_left State.not_mem_changesNow
  · refine ⟨?_, s.applyDeferred_deferred p, fun hnone => ?_, fun hsome => ?_⟩
    · rw [s.applyDeferred_map p]
      cases s.reader.deferred.get p <;> rfl
    · rw [s.applyDeferred_pos p, if_pos hnone]
    · rw [s.applyDeferred_pos p, if_neg hsome]
      rfl
  · refine takeOrder_answered h rfl ?_
    rw [antennaOf_above hb]
    rfl
  · refine takeOrder_answered h rfl ?_
    rw [antennaOf_code]
    exact antennaTuneBlock_low hlow
  · refine congrArg Host.Outcome.next (takeOrder_long _ _ _ _ _ _ _ h rfl ?_)
    rw [antennaOf_code]
    exact antennaTuneBlock_run hrun
  · exact ⟨(s.taken .sp).orderTune_marked a, fun e he hne => ((s.taken .sp).mem_orderTune_other a hne).mpr he,
      fun e he hne => ((s.taken .sp).mem_orderTune_other a hne).mp he, by simp, by simp⟩
  · rw [State.exec_tuneCompletion i4 i12 hrunning hvisit, State.tuneCompleted_unplaced i4 i12 (positionOf_none hfree)]
    rfl
  · rw [State.exec_tuneCompletion i4 i12 hrunning hvisit, State.tuneCompleted_placed i4 i12 (positionOf_some hp honly)]
    rfl
  · have hres := res.good_iff.mpr hgood
    rw [s.applyTune_pos p p res, if_pos rfl, State.applyTune_reader, State.applyTune_refund,
      State.takeTune_good hmap hres]
    exact ⟨if_pos hres, rfl, rfl, rfl⟩
  · have hres := mt res.good_iff.mp hbad
    rw [s.applyTune_pos p p res, if_pos rfl]
    exact ⟨if_neg hres, State.applyTune_bad hres⟩
  · rw [s.applyTune_pos p q res, if_neg hq]

end Sys2Proof.Machine

/-! # The governing rule (O28) -/

namespace Sys2Proof.Machine

theorem LaneRule.matchesProduct_iff (r : LaneRule) (product : Nat) :
    r.matchesProduct product = true ↔ r.enabled = true ∧ product &&& r.mask = r.value &&& r.mask := by
  simp [LaneRule.matchesProduct]

/-- Entry `i` of the list that is searched is the rule of index `i`. -/
theorem getElem_indexedRules (rules : Vector LaneRule 16) {i : Nat} (hi : i < 16) :
    ((List.range 16).zip rules.toList)[i]? = some (i, rules[i]) := by
  simp [hi]

theorem governingRule_some {rules : Vector LaneRule 16} {product i : Nat} {r : LaneRule}
    (h : governingRule rules product = some (i, r)) :
    ∃ hi : i < 16, rules[i] = r ∧ r.matchesProduct product = true ∧
      ∀ j : Fin 16, j.val < i → rules[j.val].matchesProduct product = false := by
  obtain ⟨hmatch, k, hk, hentry, hbefore⟩ := List.find?_eq_some_iff_getElem.mp h
  have hk16 : k < 16 := by simpa using hk
  obtain ⟨rfl, hrule⟩ : k = i ∧ rules[k] = r := by
    have := (getElem_indexedRules rules hk16).symm.trans (List.getElem?_eq_some_iff.mpr ⟨hk, hentry⟩)
    simpa using this
  refine ⟨hk16, hrule, hmatch, fun j hj => ?_⟩
  have := hbefore j.val hj
  simpa using this

theorem governingRule_none {rules : Vector LaneRule 16} {product : Nat} (h : governingRule rules product = none)
    (j : Fin 16) : rules[j.val].matchesProduct product = false := by
  have hentry := List.mem_of_getElem? (getElem_indexedRules rules j.isLt)
  simpa using List.find?_eq_none.mp h _ hentry

theorem LaneRule.windowOk_of_lt {r : LaneRule} (h : r.start < r.stop) (minute : Nat) :
    r.windowOk minute = true ↔ r.start ≤ minute ∧ minute < r.stop := by
  simp [LaneRule.windowOk, h]

/-- A window whose end is before its start wraps past midnight (R60). -/
theorem LaneRule.windowOk_of_gt {r : LaneRule} (h : r.stop < r.start) (minute : Nat) :
    r.windowOk minute = true ↔ r.start ≤ minute ∨ minute < r.stop := by
  simp [LaneRule.windowOk, h, Nat.not_lt.mpr (Nat.le_of_lt h)]

theorem LaneRule.windowOk_of_eq {r : LaneRule} (h : r.start = r.stop) (minute : Nat) : r.windowOk minute = true := by
  simp [LaneRule.windowOk, h]

/-- Settles O28: the search through the indexed rules stops at the first that matches. -/
theorem governingRuleIsTheFirstMatch : Obligations.GoverningRuleIsTheFirstMatch := by
  refine ⟨fun rules product => ⟨fun i r h => ?_, fun h j hfits => ?_⟩, fun r minute =>
    ⟨fun h => r.windowOk_of_lt h minute, fun h => r.windowOk_of_gt h minute, fun h => r.windowOk_of_eq h minute⟩⟩
  · obtain ⟨hi, hrule, hmatch, hbefore⟩ := governingRule_some h
    refine ⟨hi, hrule, (r.matchesProduct_iff product).mp hmatch, fun j hj hfits => ?_⟩
    exact Bool.eq_false_iff.mp (hbefore j hj) ((LaneRule.matchesProduct_iff _ _).mpr hfits)
  · exact Bool.eq_false_iff.mp (governingRule_none h j) ((LaneRule.matchesProduct_iff _ _).mpr hfits)

end Sys2Proof.Machine

/-! # The checks of Table 3-3 (O29) -/

namespace Sys2Proof.Machine

/-! ## The checks that need no rule -/

theorem Basis.standing_eq_iff (b : Basis) (x : RecState) :
    (b.record.map (·.state) == some x) = true ↔ ∃ r, b.record = some r ∧ r.state = x := by
  simp [Option.map_eq_some_iff]

theorem Basis.recHeld_iff (b : Basis) :
    ((b.record.map (·.state)).map recHeld).getD false = true ↔ ∃ r, b.record = some r ∧ recHeld r.state = true := by
  cases b.record <;> simp

/-- A pass is held elsewhere where the context of another lane holds it (R65). -/
theorem State.heldElsewhere_iff (s : State) (n : Lane) (p : PassNo) :
    s.heldElsewhere n p = true ↔ ∃ m, m ≠ n ∧ s.ctxPass m = some p := by
  have hall : ∀ m : Lane, m ∈ Lane.all := fun m => by cases m <;> simp [Lane.all]
  simp [State.heldElsewhere, hall, State.laneHolds_iff, State.seat_pass]

theorem heldCheck_iff (s : State) (c : Card) (b : Basis) :
    (((b.record.map (·.state)).map recHeld).getD false || s.refund.ctx.names c.pass) = true ↔
      (∃ r, b.record = some r ∧ recHeld r.state = true) ∨ s.refund.ctx.pass = some c.pass := by
  rw [Bool.or_eq_true, b.recHeld_iff, State.names_iff]

theorem refundedCheck_iff (c : Card) (b : Basis) :
    (c.mark || b.record.map (·.state) == some .refunded) = true ↔
      c.mark = true ∨ ∃ r, b.record = some r ∧ r.state = .refunded := by
  rw [Bool.or_eq_true, b.standing_eq_iff]

/-! ## The checks against the governing rule -/

theorem needsDay_iff (g : LaneRule) (today : Nat) (b : Basis) :
    needsDay g today b = true ↔ g.charge = true ∧ b.lastUse ≠ some today := by
  simp [needsDay]

theorem passbackHolds_iff (lockout now : Nat) (o : Option PassRecord) : passbackHolds lockout now o = true ↔
    0 < lockout ∧ ∃ r l, o = some r ∧ r.lastPassage = some l ∧ now - l.second < lockout := by
  unfold passbackHolds
  cases o with
  | none => simp
  | some r => cases hl : r.lastPassage <;> simp [hl]

theorem ruleRefusal_none (s : State) (n : Lane) (b : Basis) : ruleRefusal s n b none ≠ none := by
  unfold ruleRefusal
  dsimp only
  split
  · exact nofun
  · split <;> exact nofun

/-- The checks against a rule, on a set clock, with each condition as Table 3-3 states it. -/
theorem ruleRefusal_some {s : State} {tod : Nat} (htod : s.time.tod = some tod) (n : Lane) (b : Basis) (g : LaneRule) :
    ruleRefusal s n b (some g) =
      if s.time.lastDay < b.ticket.firstDay then some .notYet
      else if b.ticket.lastDay < s.time.lastDay then some .expired
      else if !(g.lanes.get n && g.windowOk (tod / 60)) then some .rule
      else if needsDay g s.time.lastDay b && decide (b.ticket.days ≤ b.used) then some .noDays
      else if passbackHolds s.adm.settings.lockout s.time.runSec b.record then some .passback
      else none := by
  simp [ruleRefusal, htod]

/-- Settles O29: each check in turn, the checks before it having failed. -/
theorem refusalChecksInOrder : Obligations.RefusalChecksInOrder := by
  refine ⟨fun s n c b => ?_, fun s n b g tod htod => ?_⟩
  · dsimp only
    rw [← refundedCheck_iff, ← b.standing_eq_iff, ← heldCheck_iff, ← s.heldElsewhere_iff, ne_eq,
      ← Option.isNone_iff_eq_none]
    unfold earlyRefusal
    dsimp only
    refine ⟨fun hclock => if_pos hclock, fun hclock hrefunded => ?_, fun hclock hrefunded hblocked => ?_,
      fun hclock hrefunded hblocked hheld => ?_, fun hclock hrefunded hblocked hheld huse => ?_,
      fun hclock hrefunded hblocked hheld huse => ?_⟩
    · rw [if_neg hclock, if_pos hrefunded]
    · rw [if_neg hclock, if_neg hrefunded, if_pos hblocked]
    · rw [if_neg hclock, if_neg hrefunded, if_neg hblocked, if_pos hheld]
    · rw [if_neg hclock, if_neg hrefunded, if_neg hblocked, if_neg hheld, if_pos huse]
    · rw [if_neg hclock, if_neg hrefunded, if_neg hblocked, if_neg hheld, if_neg huse]
  · have hbarred : (!(g.lanes.get n && g.windowOk (tod / 60))) = true ↔
        ¬(g.lanes.get n = true ∧ g.windowOk (tod / 60) = true) := by
      rw [Bool.not_eq_true', ← Bool.not_eq_true, Bool.and_eq_true]
    have hspent : (needsDay g s.time.lastDay b && decide (b.ticket.days ≤ b.used)) = true ↔
        g.charge = true ∧ b.lastUse ≠ some s.time.lastDay ∧ b.ticket.days ≤ b.used := by
      rw [Bool.and_eq_true, needsDay_iff, decide_eq_true_iff, and_assoc]
    dsimp only
    rw [ruleRefusal_some htod, ← hbarred, ← hspent, ← passbackHolds_iff]
    refine ⟨fun hearly => if_pos hearly, fun hearly hlate => ?_, fun hearly hlate hbarred => ⟨?_, ?_⟩,
      fun hearly hlate hbarred hspent => ?_, fun hearly hlate hbarred hspent hback => ?_,
      fun hearly hlate hbarred hspent hback => ?_⟩
    · rw [if_neg hearly, if_pos hlate]
    · rw [if_neg hearly, if_neg hlate, if_pos hbarred]
    · simp [ruleRefusal, hearly, hlate]
    · rw [if_neg hearly, if_neg hlate, if_neg hbarred, if_pos hspent]
    · rw [if_neg hearly, if_neg hlate, if_neg hbarred, if_neg hspent, if_pos hback]
    · rw [if_neg hearly, if_neg hlate, if_neg hbarred, if_neg hspent, if_neg hback]

end Sys2Proof.Machine

/-! # What the admission unit does to its lane -/

namespace Sys2Proof.Machine
namespace State

/-! ## A refusal (R54, R69, R77, R99, R100, R121) -/

@[simp] theorem refuse_verdict (s : State) (n : Lane) (c : Card) (v : Verdict) (r : RefuseReason) :
    (s.refuse n c v r).adm.verdicts.get n =
      some { v with kind := .refuse r, seq := nextSeq (s.adm.verdicts.get n), passage := (s.lane n).passage } := by
  simp [refuse, fillQuiet]

theorem refuse_verdict_other (s : State) {n m : Lane} (h : m ≠ n) (c : Card) (v : Verdict) (r : RefuseReason) :
    (s.refuse n c v r).adm.verdicts.get m = s.adm.verdicts.get m := by
  simp [refuse, fillQuiet, putVerdict_verdict_other _ _ _ _ h]

/-- The refused pass is kept quiet for the repeat-quiet time from now (R54). -/
@[simp] theorem refuse_quiet (s : State) (n : Lane) (c : Card) (v : Verdict) (r : RefuseReason) :
    (s.refuse n c v r).adm.quiet.get n =
      some { pass := c.pass, deadline := s.time.ms + s.adm.settings.quiet * 100 } := by
  simp [refuse, fillQuiet, putVerdict]

@[simp] theorem refuse_refusals (s : State) (n : Lane) (c : Card) (v : Verdict) (r : RefuseReason) :
    (s.refuse n c v r).counts.current.refusals.get n =
      (s.counts.current.refusals.get n).set r.index.val
        (min max16 ((s.counts.current.refusals.get n)[r.index.val] + 1)) := by
  simp [refuse, fillQuiet, countRefusal, addSat]

/-- A refusal changes of its lane the lamp, the signal and the tone. -/
@[simp] theorem refuse_lane (s : State) (n : Lane) (c : Card) (v : Verdict) (r : RefuseReason) :
    ((s.refuse n c v r).lane n).passage = (s.lane n).passage ∧ ((s.refuse n c v r).lane n).ctx = (s.lane n).ctx ∧
      ((s.refuse n c v r).lane n).signal = some { kind := .refusal, endAt := s.time.ms + 2000 } ∧
      ((s.refuse n c v r).lane n).tone = newTone s.time.ms (s.lane n).settings .twoLow := by
  simp [refuse, fillQuiet, signalTime]

theorem refuse_lane_other (s : State) {n m : Lane} (h : m ≠ n) (c : Card) (v : Verdict) (r : RefuseReason) :
    (s.refuse n c v r).lane m = s.lane m := by
  simp [refuse, fillQuiet, startTone_lane_other _ _ _ _ h, startSignal_lane_other _ _ _ _ h,
    putVerdict_lane_other _ _ _ _ h]

@[simp] theorem putVerdict_notices (s : State) (n : Lane) (v : Verdict) :
    ((s.putVerdict n v).port (.lp n)).notices = (s.port (.lp n)).notices ||| LaneNotice.verdict.mask := by
  rw [putVerdict, raiseLane_notices, if_pos rfl]
  rfl

@[simp] theorem refuse_notices (s : State) (n : Lane) (c : Card) (v : Verdict) (r : RefuseReason) :
    ((s.refuse n c v r).port (.lp n)).notices = (s.port (.lp n)).notices ||| LaneNotice.verdict.mask := by
  simp [refuse]

end State

theorem newTone_twoLow (ms : Nat) (x : LaneSettings) : newTone ms x .twoLow =
    if x.mute then none
    else some { pattern := .twoLow, start := ms, endAt := ms + 300, first := x.low, second := some x.low } := rfl

/-! ## The write-back of a read without a context (R70) -/

namespace State

theorem writeBack_of_not_behind {b : Basis} (h : b.behind = false) (s : State) (n : Lane) (c : Card) :
    s.writeBack n c b = s := by
  simp [writeBack, h]

theorem writeBack_of_behind {s : State} {c : Card} {b : Basis} {r : PassRecord} (h : b.behind = true)
    (hr : s.record c.pass = some r) (n : Lane) :
    s.writeBack n c b = s.requestLaneStamp (s.newStamp (.lane n) .writeBack c.pass r (r.state == .refunded) c.seq) := by
  simp [writeBack, h, hr]

/-- What the write-back does to the reader after operations that leave reader, time and records: nothing where the record
was not ahead, and else a stamp of the record's usage, where the lane's position can work it off (R36, R70). -/
theorem writeBack_reader (s u : State) (hreader : u.reader = s.reader) (htime : u.time = s.time)
    (hrecord : ∀ p, u.record p = s.record p) (n : Lane) (c : Card) (b : Basis) :
    (b.behind = false → (u.writeBack n c b).reader = s.reader) ∧
      ∀ r, b.behind = true → s.record c.pass = some r →
        (u.writeBack n c b).reader =
          if s.reader.map.get (.lane n) = none ∨ (s.reader.pos.get (.lane n)).fault = true then s.reader
          else { s.reader with stamps := s.reader.stamps ++
            [s.newStamp (.lane n) .writeBack c.pass r (decide (r.state = .refunded)) c.seq] } := by
  refine ⟨fun h => by rw [writeBack_of_not_behind h, hreader], fun r h hr => ?_⟩
  rw [writeBack_of_behind h ((hrecord _).trans hr), requestLaneStamp_reader, hreader]
  simp only [newStamp, hreader, htime, beq_eq_decide]

end State
end Sys2Proof.Machine

/-! # A card refused by itself, and a pass that is admitted (O30) -/

namespace Sys2Proof.Machine

/-! ## The record of a pass through writes of the table -/

/-- Writes that keep pass numbers carry what a lookup finds along. -/
theorem EachRecord.findRecord {R : PassRecord → PassRecord → Prop} (hR : ∀ r r', R r r' → r'.pass = r.pass)
    {t t' : PassTable} (h : EachRecord R t t') {p : PassNo} {r : PassRecord} (hr : findRecord t p = some r) :
    ∃ r', Machine.findRecord t' p = some r' ∧ R r r' := by
  unfold EachRecord at h
  induction h with
  | nil => simp [Machine.findRecord, findPass] at hr
  | @cons e e' t t' hx _ ih =>
    have hsame : isRecordOf p e' = isRecordOf p e := by simp [isRecordOf, hx.1, hR _ _ hx.2]
    cases he : isRecordOf p e with
    | true =>
      obtain rfl : e.2 = r := by simpa [Machine.findRecord, findPass, he] using hr
      exact ⟨e'.2, by simp [Machine.findRecord, findPass, hsame, he], hx.2⟩
    | false =>
      obtain ⟨r', hr', hrr'⟩ := ih (by simpa [Machine.findRecord, findPass, he] using hr)
      exact ⟨r', by simpa [Machine.findRecord, findPass, hsame, he] using hr', hrr'⟩

/-! ## A grant, at the lane and at the loading monitor (R88, R105) -/

theorem passageAtGrant_eq (t : Tracker) :
    passageAtGrant t = if t = .fromEntry false then .entering else .granted := by
  unfold passageAtGrant
  split <;> simp

namespace State

/-- The admission unit's part of a grant leaves lanes and loading area. -/
theorem grant_lane_load (s : State) (n : Lane) :
    (∀ m, (s.grant n).lane m = (s.releasing n).lane m) ∧ (s.grant n).load = { s.load with live := s.load.live + 1 } := by
  unfold grant
  dsimp only
  split <;> simp [releasing]

theorem grant_passage (s : State) (n : Lane) :
    ((s.grant n).lane n).passage = passageAtGrant (s.lane n).tracker := by
  rw [(s.grant_lane_load n).1]
  simp [releasing, grantLane]

/-- A grant opens the passage window of the context that the lane has. -/
theorem grant_ctx {s : State} {n : Lane} {c : Context} (h : (s.lane n).ctx = some c) :
    ∃ start stop, ((s.grant n).lane n).ctx = some { c with grantTime := start, windowEnd := stop } := by
  rw [(s.grant_lane_load n).1]
  simp [releasing, grantLane, h]

theorem grant_lane_other (s : State) {n m : Lane} (h : m ≠ n) : (s.grant n).lane m = s.lane m := by
  rw [(s.grant_lane_load n).1]
  exact grantLane_lane_other _ _ _ h

/-! ## An admit request (R111) -/

theorem requestRelease_of_room {s : State} (hroom : s.room = true) (hempty : s.load.queue = []) (n : Lane) (p : PassNo)
    (cls : Nat) : s.requestRelease n p cls = s.grant n := by
  simp [requestRelease, hroom, hempty]

theorem requestRelease_of_wait {s : State} (h : ¬(s.room = true ∧ s.load.queue = [])) (n : Lane) (p : PassNo)
    (cls : Nat) : s.requestRelease n p cls =
      (s.withLoad fun l =>
        { l with queue := enqueue { lane := n, pass := p, cls := cls, enqueued := s.time.ms,
                                    deadline := s.time.ms + l.hold * 1000 } l.queue }).withLane n fun u =>
        { u with passage := .queued } := by
  rw [requestRelease, if_neg (by simpa using h)]

theorem requestRelease_lane_other (s : State) {n m : Lane} (h : m ≠ n) (p : PassNo) (cls : Nat) :
    (s.requestRelease n p cls).lane m = s.lane m := by
  unfold requestRelease
  split
  · exact s.grant_lane_other h
  · exact withLane_lane_other _ _ _ _ h

/-! ## A pass takes a lane (R12, R68) -/

/-- The state in which a pass asks for its release: its context begun and its record pinned. -/
def seated (s : State) (n : Lane) (c : Context) (note : Note) (p : PassNo) : State :=
  (s.beginContext n c note).updateRecord p fun r => { r with live := some n }

theorem seatPass_eq (s : State) (n : Lane) (c : Context) (note : Note) (p : PassNo) (cls : Nat) :
    s.seatPass n c note p cls = (s.seated n c note p).requestRelease n p cls := rfl

@[simp] theorem seated_frame (s : State) (n : Lane) (c : Context) (note : Note) (p : PassNo) :
    (s.seated n c note p).load = s.load ∧ (s.seated n c note p).time = s.time ∧
      (s.seated n c note p).room = s.room ∧ ((s.seated n c note p).lane n).tracker = (s.lane n).tracker ∧
      ((s.seated n c note p).lane n).ctx = some c := by
  simp [seated, room]

theorem seatPass_adm (s : State) (n : Lane) (c : Context) (note : Note) (p : PassNo) (cls : Nat) :
    (s.seatPass n c note p cls).adm = { s.adm with notes := s.adm.notes.set n (some note) } := by
  simp [seatPass, beginContext]

theorem seatPass_lane_other (s : State) {n m : Lane} (h : m ≠ n) (c : Context) (note : Note) (p : PassNo) (cls : Nat) :
    (s.seatPass n c note p cls).lane m = s.lane m := by
  rw [seatPass_eq, requestRelease_lane_other _ h]
  simp [seated, beginContext_lane_other _ _ _ _ _ h]

/-- The record of a pass that takes a lane is pinned to it, and stays so through the grant (R12). -/
theorem seatPass_record {s : State} {p : PassNo} {r : PassRecord} (h : s.record p = some r) (n : Lane) (c : Context)
    (note : Note) (cls : Nat) : ∃ r', (s.seatPass n c note p cls).record p = some r' ∧ r'.live = some n := by
  have hpinned : (s.seated n c note p).record p = some { r with live := some n } := by
    rw [seated, record_updateRecord_same _ _ _ (by intro _; rfl)]
    simp [h]
  obtain ⟨r', hr', hkept⟩ := ((s.seated n c note p).requestRelease_records n p cls).findRecord
    (fun _ _ hw => hw.pass) hpinned
  exact ⟨r', hr', hkept.live.elim id nofun⟩

/-- With room and an empty queue the lane is granted at once (R111). -/
theorem seatPass_of_room {s : State} (hroom : s.room = true) (hempty : s.load.queue = []) (n : Lane) (c : Context)
    (note : Note) (p : PassNo) (cls : Nat) :
    ((s.seatPass n c note p cls).lane n).passage = passageAtGrant (s.lane n).tracker ∧
      (∃ start stop, ((s.seatPass n c note p cls).lane n).ctx = some { c with grantTime := start, windowEnd := stop }) ∧
      (s.seatPass n c note p cls).load = { s.load with live := s.load.live + 1 } := by
  rw [seatPass_eq, requestRelease_of_room (by simpa using hroom) (by simpa using hempty)]
  refine ⟨?_, grant_ctx (by simp), ?_⟩
  · rw [grant_passage]
    simp
  · rw [(grant_lane_load _ n).2]
    simp

/-- Without room, or behind others, the pass takes its place in the queue (R110, R111). -/
theorem seatPass_of_wait {s : State} (h : ¬(s.room = true ∧ s.load.queue = [])) (n : Lane) (c : Context) (note : Note)
    (p : PassNo) (cls : Nat) :
    ((s.seatPass n c note p cls).lane n).passage = .queued ∧ ((s.seatPass n c note p cls).lane n).ctx = some c ∧
      (s.seatPass n c note p cls).load =
        { s.load with
          queue := enqueue { lane := n, pass := p, cls := cls, enqueued := s.time.ms,
                             deadline := s.time.ms + s.load.hold * 1000 } s.load.queue } := by
  rw [seatPass_eq, requestRelease_of_wait (by simpa using h)]
  simp

end State

/-! ## A pass that passes every check (R68) -/

/-- The flags of an admission (R68, R77). -/
def admitFlags (today : Nat) (b : Basis) (g : LaneRule) : VerdictFlags :=
  { newDay := needsDay g today b, noCharge := !g.charge, unlearned := b.record.isNone, behind := b.behind,
    fromQueue := false }

/-- The context of an admitted pass before its grant (R68). -/
def admitContext (today : Nat) (c : Card) (b : Basis) (g : LaneRule) : Context :=
  { pass := some c.pass, cls := g.cls, newDay := needsDay g today b, noCharge := !g.charge, grantTime := none,
    windowEnd := none }

/-- The admission note beside that context (R71). -/
def admitNote (today : Nat) (c : Card) (b : Basis) (g : LaneRule) : Note :=
  { cls := g.cls
    data := some
      { seq := c.seq, flags := admitFlags today b g, product := b.ticket.product, days := b.ticket.days, used := b.used,
        lastDay := b.ticket.lastDay } }

namespace State

/-- The state of an admission in RUN before its verdict (R68). -/
def admitted (s : State) (n : Lane) (c : Card) (b : Basis) (g : LaneRule) : State :=
  s.seatPass n (admitContext s.time.lastDay c b g) (admitNote s.time.lastDay c b g) c.pass g.cls

/-- In RUN an admission is the pass's seat at the lane, and a verdict. -/
theorem admitCard_run {s : State} (h : s.supply.state = .run) (n : Lane) (c : Card) (b : Basis) (g : LaneRule) :
    s.admitCard n c b g = (s.admitted n c b g).putVerdict n
      { basisVerdict c b (admitFlags s.time.lastDay b g) g.cls with
        kind := if ((s.admitted n c b g).lane n).passage = .queued then .queued else .admitted } :=
  if_pos h

/-- The state of an admission outside RUN before its write-back (R68, R115). -/
def turnedAway (s : State) (n : Lane) (c : Card) (b : Basis) (g : LaneRule) : State :=
  (((s.putVerdict n
    { basisVerdict c b (admitFlags s.time.lastDay b g) g.cls with kind := .withdrawn .lowSupply }).startSignal n
      .withdrawn).startTone n .lowTone).countLane n fun l => { l with withdrawals := addSat max32 1 l.withdrawals }

theorem admitCard_not_run {s : State} (h : s.supply.state ≠ .run) (n : Lane) (c : Card) (b : Basis) (g : LaneRule) :
    s.admitCard n c b g = (s.turnedAway n c b g).writeBack n c b :=
  if_neg h

theorem admitCard_adm_not_run {s : State} (h : s.supply.state ≠ .run) (n : Lane) (c : Card) (b : Basis) (g : LaneRule) :
    (s.admitCard n c b g).adm = (s.putVerdict n
      { basisVerdict c b (admitFlags s.time.lastDay b g) g.cls with kind := .withdrawn .lowSupply }).adm := by
  rw [admitCard_not_run h]
  simp [turnedAway]

/-- An admitted pass waits at its lane where there is no room, or others wait. -/
theorem admitted_queued_iff (s : State) (n : Lane) (c : Card) (b : Basis) (g : LaneRule) :
    ((s.admitted n c b g).lane n).passage = .queued ↔ ¬(s.room = true ∧ s.load.queue = []) := by
  by_cases h : s.room = true ∧ s.load.queue = []
  · obtain ⟨hpassage, _⟩ := seatPass_of_room h.1 h.2 n (admitContext s.time.lastDay c b g)
      (admitNote s.time.lastDay c b g) c.pass g.cls
    rw [admitted, hpassage, passageAtGrant_eq]
    simp only [h, and_self, not_true, iff_false]
    split <;> exact nofun
  · obtain ⟨hpassage, _⟩ := seatPass_of_wait h n (admitContext s.time.lastDay c b g)
      (admitNote s.time.lastDay c b g) c.pass g.cls
    simp [admitted, hpassage, h]

/-- The verdict on an admitted pass (R68, R77). -/
theorem admitCard_verdict (s : State) (n : Lane) (c : Card) (b : Basis) (g : LaneRule) :
    ∃ v, (s.admitCard n c b g).adm.verdicts.get n = some v ∧ v.pass = c.pass ∧
      v.flags = admitFlags s.time.lastDay b g ∧
      v.remaining = daysRemaining b.ticket.days b.used (needsDay g s.time.lastDay b) ∧ v.cls = g.cls ∧
      v.kind =
        (if s.supply.state ≠ .run then .withdrawn .lowSupply
        else if s.room = true ∧ s.load.queue = [] then .admitted else .queued) := by
  by_cases hrun : s.supply.state = .run
  · have hkind : (if ((s.admitted n c b g).lane n).passage = .queued then VerdictKind.queued else .admitted) =
        if s.room = true ∧ s.load.queue = [] then .admitted else .queued := by
      simp only [s.admitted_queued_iff n c b g, ite_not]
    rw [admitCard_run hrun, putVerdict_verdict_same, hkind]
    exact ⟨_, rfl, rfl, rfl, rfl, rfl, by simp [hrun]⟩
  · rw [admitCard_adm_not_run hrun, putVerdict_verdict_same]
    exact ⟨_, rfl, rfl, rfl, rfl, rfl, by simp [hrun]⟩

/-- A verdict on an admitted pass empties the repeat-quiet memory (R54). -/
theorem admitCard_quiet (s : State) (n : Lane) (c : Card) (b : Basis) (g : LaneRule) :
    (s.admitCard n c b g).adm.quiet.get n = none := by
  by_cases hrun : s.supply.state = .run
  · rw [admitCard_run hrun, putVerdict_quiet_same]
    dsimp only
    split <;> rfl
  · rw [admitCard_adm_not_run hrun, putVerdict_quiet_same]
    rfl

theorem admitCard_lane_other (s : State) {n m : Lane} (h : m ≠ n) (c : Card) (b : Basis) (g : LaneRule) :
    (s.admitCard n c b g).lane m = s.lane m := by
  by_cases hrun : s.supply.state = .run
  · rw [admitCard_run hrun, putVerdict_lane_other _ _ _ _ h, admitted, seatPass_lane_other _ h]
  · rw [admitCard_not_run hrun]
    simp [turnedAway, startTone_lane_other _ _ _ _ h, startSignal_lane_other _ _ _ _ h, putVerdict_lane_other _ _ _ _ h]

/-- Outside RUN a pass is turned away at once: its lane's signal, tone and count apart, nothing moves (R68). -/
theorem admitCard_turned_away {s : State} (h : s.supply.state ≠ .run) (n : Lane) (c : Card) (b : Basis) (g : LaneRule) :
    ((s.admitCard n c b g).lane n).passage = (s.lane n).passage ∧
      ((s.admitCard n c b g).lane n).ctx = (s.lane n).ctx ∧ (s.admitCard n c b g).table = s.table ∧
      (s.admitCard n c b g).load = s.load ∧
      ((s.admitCard n c b g).counts.current.lanes.get n).withdrawals =
        min max32 ((s.counts.current.lanes.get n).withdrawals + 1) := by
  rw [admitCard_not_run h]
  simp [turnedAway, addSat]

/-! ## A card refused by itself (R64) -/

theorem admission_refuseCard (s : State) (n : Lane) {c : Card}
    (h : c.ticketOk = false ∨ (c.ticketOk = true ∧ c.resort ≠ s.adm.settings.resort)) :
    ∃ product remaining, s.admission n c =
      s.refuseCard n c (if c.ticketOk then .foreign else .unreadable) product remaining false := by
  rcases h with hbad | ⟨hok, hresort⟩
  · exact ⟨false, 255, by simp [admission, hbad]⟩
  · exact ⟨true, daysRemaining c.ticket.days c.offeredUsed false, by simp [admission, hok, hresort]⟩

end State

/-- Settles O30: a refusal by the card alone is one refusal; an admission is a seat in RUN, and a turning away outside. -/
theorem cardsAreRefusedOrAdmitted : Obligations.CardsAreRefusedOrAdmitted := by
  refine ⟨fun n c s hbad => ?_, fun n c b g s => ?_⟩
  · obtain ⟨product, remaining, hadm⟩ := s.admission_refuseCard n hbad
    simp only [hadm]
    obtain ⟨hpassage, _, hsignal, _⟩ := s.refuse_lane n c _ _
    exact ⟨by simp, by simp, by simp, by simp, hpassage, ⟨_, State.refuse_verdict .., rfl, rfl, rfl⟩,
      State.refuse_quiet .., State.refuse_refusals .., hsignal, State.refuse_notices ..,
      fun m hm => ⟨s.refuse_lane_other hm .., s.refuse_verdict_other hm ..⟩⟩
  · obtain ⟨v, hv, hpass, hflags, hleft, hcls, hkind⟩ := s.admitCard_verdict n c b g
    simp only [← needsDay_iff, Bool.decide_eq_true]
    refine ⟨⟨v, hv, hpass, hflags, hleft, hcls, hkind⟩, s.admitCard_quiet n c b g,
      fun m hm => s.admitCard_lane_other hm c b g, by simp, fun hrun => State.admitCard_turned_away hrun n c b g,
      fun hrun => ?_⟩
    rw [State.admitCard_run hrun]
    simp only [State.putVerdict_lane_same, LaneUnit.settleLamp_passage, LaneUnit.settleLamp_ctx, State.putVerdict_frame,
      State.putVerdict_views]
    refine ⟨?_, fun r hr => State.seatPass_record hr n _ _ _, fun hroom hempty => ?_, fun hwait => ?_⟩
    · by_cases h : s.room = true ∧ s.load.queue = []
      · obtain ⟨_, ⟨start, stop, hctx⟩, _⟩ := State.seatPass_of_room h.1 h.2 n _ _ _ _
        exact ⟨_, hctx, rfl, rfl, rfl, rfl⟩
      · obtain ⟨_, hctx, _⟩ := State.seatPass_of_wait h n _ _ _ _
        exact ⟨_, hctx, rfl, rfl, rfl, rfl⟩
    · obtain ⟨hpassage, _, hload⟩ := State.seatPass_of_room hroom hempty n _ _ _ _
      exact ⟨hpassage.trans (passageAtGrant_eq _), hload⟩
    · obtain ⟨hpassage, _, hload⟩ := State.seatPass_of_wait hwait n _ _ _ _
      exact ⟨hpassage, hload⟩

end Sys2Proof.Machine

/-! # A card answer at a lane (O25) -/

namespace Sys2Proof.Machine

/-! ## The values of a record found (R66) -/

theorem recordBasis_no_ticket {r : PassRecord} (h : r.ticket = none) (c : Card) :
    recordBasis c r = c.basis (some r) := by
  simp [recordBasis, h]

theorem recordBasis_ticket {r : PassRecord} {k : Ticket} (h : r.ticket = some k) (c : Card) :
    recordBasis c r = { ticket := k, used := r.used, lastUse := r.lastUse, behind := false, record := some r } := by
  simp [recordBasis, h]

/-! ## The record of a pass after a lookup, and after learning (R6, R7) -/

/-- A new record of a pass that the table lacks, in a slot of its bucket, is the one that a lookup finds. -/
theorem findRecord_putSlot {t : PassTable} {k : Nat} {r : PassRecord} (habsent : findPass t r.pass = none)
    (hk : k / 4 = bucketOf r.pass) : findRecord (putSlot t k r) r.pass = some r := by
  have hnew : isRecordOf r.pass (k, r) = true := (isRecordOf_iff _ _).mpr ⟨hk, rfl⟩
  induction t with
  | nil => simp [putSlot, findRecord, findPass, hnew]
  | cons e t ih =>
    obtain ⟨he, ht⟩ : isRecordOf r.pass e = false ∧ findPass t r.pass = none := by
      simpa [findPass] using habsent
    unfold putSlot
    split
    · simp [findRecord, findPass, hnew]
    · split
      · simp [findRecord, findPass, hnew]
      · simpa [findRecord, findPass, he] using ih ht

namespace State

theorem seeRecord_record (s : State) (p : PassNo) :
    (s.seeRecord p).record p = (s.record p).map fun r => { r with lastSeen := s.time.runSec } := by
  rw [seeRecord, record_updateRecord_same _ _ _ (by intro _; rfl)]

theorem learn_masked {s : State} {n : Lane} (h : s.adm.settings.learnMask.get n = false) (p : PassNo) :
    s.learn (.lane n) p = s := by
  simp [learn, learnAllowed, h]

theorem learn_failed {s : State} {n : Lane} (h : s.adm.settings.learnMask.get n = true) {p : PassNo}
    (hplace : placeFor s.table p = none) : s.learn (.lane n) p =
      s.countLift fun l => { l with learnFailures := min max32 (l.learnFailures + 1) } := by
  simp [learn, learnAllowed, h, hplace, addSat]

theorem learn_placed {s : State} {n : Lane} (h : s.adm.settings.learnMask.get n = true) {p q : PassNo} {k : Nat}
    (hplace : placeFor s.table p = some (k, q)) : s.learn (.lane n) p =
      s.withTable fun t => putSlot t k (newRecord p .learned .active none s.time.runSec) := by
  simp [learn, learnAllowed, h, hplace]

theorem learned_record {s : State} {p q : PassNo} {k : Nat} (hnone : s.record p = none)
    (hplace : placeFor s.table p = some (k, q)) (r : PassRecord) (hr : r.pass = p) :
    (s.withTable fun t => putSlot t k r).record p = some r := by
  subst hr
  exact findRecord_putSlot (record_eq_none.mp hnone) (placeFor_bucket hplace)

/-! ## The cases of R65 -/

/-- With the pass held elsewhere a lookup alone, and the values of the record as found, or the card's. -/
theorem reachTable_elsewhere {s : State} {n : Lane} {c : Card} (h : s.heldElsewhere n c.pass = true) :
    (s.record c.pass = none → s.reachTable n c = (s.seeRecord c.pass, c.basis none)) ∧
      ∀ r, s.record c.pass = some r →
        s.reachTable n c = (s.seeRecord c.pass, recordBasis c { r with lastSeen := s.time.runSec }) :=
  ⟨fun hr => by simp [reachTable, h, seeRecord_record, hr], fun r hr => by simp [reachTable, h, seeRecord_record, hr]⟩

/-- With a record found, and free of other lanes, the merge write. -/
theorem reachTable_found {s : State} {n : Lane} {c : Card} (h : s.heldElsewhere n c.pass = false) {r : PassRecord}
    (hr : s.record c.pass = some r) :
    s.reachTable n c = (s.seeRecord c.pass).mergeCard c { r with lastSeen := s.time.runSec } := by
  simp [reachTable, h, seeRecord_record, hr]

/-- An absent pass is learned where the learn request ends in a record, and keeps the card's values else. -/
theorem reachTable_absent {s : State} {n : Lane} {c : Card} (h : s.heldElsewhere n c.pass = false)
    (hnone : s.record c.pass = none) {t : State} (ht : s.learn (.lane n) c.pass = t) :
    (t.record c.pass = none → s.reachTable n c = (t, c.basis none)) ∧
      ∀ r, t.record c.pass = some r → s.reachTable n c = t.mergeCard c r := by
  subst ht
  exact ⟨fun hr => by simp [reachTable, h, hnone, hr], fun r hr => by simp [reachTable, h, hnone, hr]⟩

/-- A good card of the resort is judged on what the table gives (R66), but for an absent pass with a failed usage
check. -/
theorem admission_judged {s : State} {n : Lane} {c : Card} (hok : c.ticketOk = true)
    (hresort : c.resort = s.adm.settings.resort)
    (hknown : c.usageOk = true ∨ s.record c.pass ≠ none ∨ s.heldElsewhere n c.pass = true) :
    s.admission n c = (s.reachTable n c).1.judge n c (s.reachTable n c).2 := by
  have hlast : ¬(!c.usageOk && (s.record c.pass).isNone && !s.heldElsewhere n c.pass) = true := by
    simpa [imp_iff_not_or, or_assoc] using hknown
  rw [admission, if_neg (by simp [hok]), if_neg (by simp [hresort]), if_neg hlast]

theorem admission_unlearned {s : State} {n : Lane} {c : Card} (hok : c.ticketOk = true)
    (hresort : c.resort = s.adm.settings.resort) (hbad : c.usageOk = false) (hnone : s.record c.pass = none)
    (hfree : s.heldElsewhere n c.pass = false) :
    s.admission n c = s.refuseCard n c .unreadable true 255 true := by
  simp [admission, hok, hresort, hbad, hnone, hfree]

/-! ## The judgement (R67 to R70) -/

/-- The governing rule of an evaluation (R60). -/
def ruleOf (s : State) (b : Basis) : Option LaneRule := (governingRule s.adm.rules b.ticket.product).map (·.2)

/-- The class that a refusal shows: the governing rule's, once the checks that need no rule have passed (log 25). -/
def refusalClass (s : State) (n : Lane) (c : Card) (b : Basis) : Nat :=
  if earlyRefusal s n c b = none then ((s.ruleOf b).map (·.cls)).getD 0 else 0

theorem judge_refused {s : State} {n : Lane} {c : Card} {b : Basis} {x : RefuseReason}
    (h : earlyRefusal s n c b = some x ∨ (earlyRefusal s n c b = none ∧ ruleRefusal s n b (s.ruleOf b) = some x)) :
    s.judge n c b =
      (s.refuse n c (basisVerdict c b (refusalFlags b) (s.refusalClass n c b)) x).writeBack n c b := by
  rcases h with hearly | ⟨hearly, hlate⟩
  · simp [judge, refusalClass, hearly]
  · unfold ruleOf at hlate
    simp [judge, refusalClass, ruleOf, hearly, hlate]

theorem judge_admitted {s : State} {n : Lane} {c : Card} {b : Basis} (hearly : earlyRefusal s n c b = none)
    (hlate : ruleRefusal s n b (s.ruleOf b) = none) : ∃ g, s.ruleOf b = some g ∧ s.judge n c b = s.admitCard n c b g := by
  cases hg : s.ruleOf b with
  | none => exact absurd (hg ▸ hlate) (ruleRefusal_none s n b)
  | some g =>
    rw [hg] at hlate
    unfold ruleOf at hg
    exact ⟨g, rfl, by simp [judge, hearly, hg, hlate]⟩

theorem turnedAway_leaves (s : State) (n : Lane) (c : Card) (b : Basis) (g : LaneRule) :
    (s.turnedAway n c b g).reader = s.reader ∧ (s.turnedAway n c b g).time = s.time ∧
      ∀ p, (s.turnedAway n c b g).record p = s.record p := by
  simp [turnedAway]

theorem admitCard_note {s : State} (h : s.supply.state = .run) (n : Lane) (c : Card) (b : Basis) (g : LaneRule) :
    (s.admitCard n c b g).adm.notes.get n = some (admitNote s.time.lastDay c b g) := by
  rw [admitCard_run h]
  simp [putVerdict, admitted, seatPass_adm]

end State

/-- Settles O25: R65's case gives state and basis of the judgement; the judgement is one refusal with its write-back, or
the admission. -/
theorem laneCardAnswersReachTheTable : Obligations.LaneCardAnswersReachTheTable := by
  refine ⟨fun n c s hok hresort => ?_, fun n c b s => ⟨?_, fun x hx => ?_, fun g hrun => ?_⟩, fun n c b g s hrun => ?_⟩
  · simp only [← s.heldElsewhere_iff, Bool.not_eq_true]
    refine ⟨fun helse => ?_, fun hfree => ⟨fun r hr => ?_, fun hnone hbad => ?_, fun hnone husage =>
      ⟨fun hmask => ?_, fun hmask hplace => ?_, fun k evicted hmask hplace => ?_⟩⟩⟩
    · obtain ⟨habsent, hfound⟩ := State.reachTable_elsewhere helse
      rw [State.admission_judged hok hresort (.inr (.inr helse))]
      refine ⟨fun hnone => ?_, fun r hr => ⟨fun hk => ?_, fun k hk => ?_⟩⟩
      · rw [habsent hnone]
        rfl
      · rw [hfound r hr, recordBasis_no_ticket (r := { r with lastSeen := s.time.runSec }) hk]
        rfl
      · rw [hfound r hr, recordBasis_ticket (r := { r with lastSeen := s.time.runSec }) hk]
        rfl
    · rw [State.admission_judged hok hresort (.inr (.inl (by simp [hr]))), State.reachTable_found hfree hr]
      rfl
    · rw [State.admission_unlearned hok hresort hbad hnone hfree]
      obtain ⟨hpassage, _, hsignal, _⟩ := s.refuse_lane n c _ _
      exact ⟨by simp, by simp, by simp, hpassage, hsignal,
        ⟨_, State.refuse_verdict .., rfl, rfl, rfl, rfl, rfl⟩, State.refuse_refusals ..⟩
    · have hlearned := State.reachTable_absent hfree hnone (State.learn_masked hmask c.pass)
      rw [State.admission_judged hok hresort (.inl husage), hlearned.1 hnone]
      rfl
    · have hlearned := State.reachTable_absent hfree hnone (State.learn_failed hmask hplace)
      rw [State.admission_judged hok hresort (.inl husage), hlearned.1 (by simpa using hnone)]
      rfl
    · have hlearned := State.reachTable_absent hfree hnone (State.learn_placed hmask hplace)
      rw [State.admission_judged hok hresort (.inl husage),
        hlearned.2 _ (State.learned_record hnone hplace _ rfl)]
      rfl
  · exact fun hearly hlate => State.judge_admitted hearly hlate
  · rw [State.judge_refused hx]
    refine ⟨by simp, by simp, by simp, by simp, by simp, fun m hm => ?_, ?_, by simp, by simp, by simp,
      by simp [newTone_twoLow], by simp, State.writeBack_reader s _ (by simp) (by simp) (by simp) n c b⟩
    · simpa using s.refuse_lane_other hm c _ x
    · simp only [State.writeBack_frame, State.refuse_verdict]
      exact ⟨_, rfl, rfl, rfl, rfl, rfl, rfl, rfl, rfl, rfl⟩
  · obtain ⟨hreader, htime, hrecord⟩ := s.turnedAway_leaves n c b g
    rw [State.admitCard_not_run hrun]
    exact State.writeBack_reader s _ hreader htime hrecord n c b
  · simp only [← needsDay_iff, Bool.decide_eq_true]
    exact State.admitCard_note hrun n c b g

end Sys2Proof.Machine

/-! # The lamp and the release line (O36) -/

namespace Sys2Proof.Machine

/-! ## The lines of Table 4-3, in their order -/

theorem LaneUnit.lampState_live {u : LaneUnit} (h : u.passage = .granted ∨ u.passage = .entering) :
    u.lampState = .greenSteady := by
  rcases h with h | h <;> simp [lampState, h]

/-- The lamp state of a timed signal. -/
def SignalKind.lamp : SignalKind → Lamp
  | .intrusion => .redBlink
  | .refusal => .redSteady
  | .withdrawn => .redSteady

theorem LaneUnit.lampState_signal {u : LaneUnit} (h : ¬(u.passage = .granted ∨ u.passage = .entering)) {k : SignalKind}
    (hk : u.signal.map (·.kind) = some k) : u.lampState = k.lamp := by
  obtain ⟨⟨k, e⟩, hsignal, rfl⟩ := Option.map_eq_some_iff.mp hk
  cases hp : u.passage with
  | granted => exact absurd (.inl hp) h
  | entering => exact absurd (.inr hp) h
  | idle | queued => cases k <;> simp [lampState, hp, hsignal, SignalKind.lamp]

theorem LaneUnit.lampState_queued {u : LaneUnit} (hsignal : u.signal = none) (h : u.passage = .queued) :
    u.lampState = .greenBlink := by
  simp [lampState, hsignal, h]

theorem LaneUnit.lampState_idle {u : LaneUnit} (hsignal : u.signal = none) (h : u.passage = .idle) :
    u.lampState = match u.mode with
      | .closed => .redSteady
      | .free => .greenSteady
      | .opened => .dark := by
  cases hm : u.mode <;> simp [lampState, hsignal, h, hm]

theorem State.rel_iff (s : State) (n : Lane) : s.rel n = true ↔
    s.stopped = false ∧ ((s.lane n).passage = .granted ∨ (s.lane n).passage = .entering ∨ (s.lane n).mode = .free) := by
  unfold State.rel
  rw [Bool.and_eq_true, Bool.not_eq_true']
  refine and_congr_right fun _ => ?_
  split <;> simp_all

/-- Settles O36, line by line of Table 4-3. -/
theorem lampAndReleaseFollowTheTables : Obligations.LampAndReleaseFollowTheTables :=
  ⟨fun _ => ⟨LaneUnit.lampState_live, fun hlive hsignal => LaneUnit.lampState_signal hlive hsignal,
    fun hlive hsignal => hsignal.elim (fun h => LaneUnit.lampState_signal hlive h)
      fun h => LaneUnit.lampState_signal hlive h,
    fun _ hsignal h => LaneUnit.lampState_queued (Option.map_eq_none_iff.mp hsignal) h,
    fun _ hsignal h => LaneUnit.lampState_idle (Option.map_eq_none_iff.mp hsignal) h⟩,
  fun s n => s.rel_iff n⟩

end Sys2Proof.Machine

/-! # The grant of a lane (O38) -/

namespace Sys2Proof.Machine

theorem newTone_highTone (ms : Nat) (x : LaneSettings) : newTone ms x .highTone =
    if x.mute then none
    else some { pattern := .highTone, start := ms, endAt := ms + 150, first := x.high, second := none } := rfl

/-- A grant opens the window of the lane's context, moves the lane by its tracker, ends its signal and starts its tone
(R88, R99, R100). -/
theorem State.grant_unit (s : State) (n : Lane) :
    ((s.grant n).lane n).ctx = ((s.lane n).ctx.map fun c =>
        { c with grantTime := some s.time.ms
                 windowEnd := some (s.time.ms + (s.lane n).settings.window * 100) }) ∧
      ((s.grant n).lane n).signal = none ∧
      ((s.grant n).lane n).tone = newTone s.time.ms (s.lane n).settings .highTone := by
  rw [(s.grant_lane_load n).1]
  simp [releasing, grantLane]

/-- Settles O38, by what the grant does to its lane and to the loading area. -/
theorem grantReleasesTheLane : Obligations.GrantReleasesTheLane := by
  intro n c s hctx
  obtain ⟨hopened, hsignal, htone⟩ := s.grant_unit n
  exact ⟨(s.grant_passage n).trans (passageAtGrant_eq _), by rw [hopened, hctx]; rfl, hsignal,
    htone.trans (newTone_highTone _ _), (s.grant_lane_load n).2, fun _ hm => s.grant_lane_other hm⟩

end Sys2Proof.Machine

/-! # The deadlines of a lane (O35) -/

namespace Sys2Proof.Machine
namespace State

theorem running_of_not_stopped {s : State} (h : s.stopped = false) (f : State → State) : s.running f = f s := by
  simp [running, h]

/-- The window end is that of the lane's context, once it is reached (log 15). -/
theorem windowPassed_iff (s : State) (n : Lane) :
    s.windowPassed n = true ↔ ∃ c e, (s.lane n).ctx = some c ∧ c.windowEnd = some e ∧ e ≤ s.time.ms := by
  unfold windowPassed
  cases hctx : (s.lane n).ctx with
  | none => simp
  | some c => cases he : c.windowEnd <;> simp [he]

/-! ## A grant that ends without a passage (R89) -/

theorem putReport_report (s : State) (n : Lane) (k : ReportKind) (p : PassNo) :
    ∃ r, ((s.putReport n k p).lane n).report = some r ∧ r.kind = k ∧ r.pass = p ∧ r.second = s.time.runSec :=
  ⟨_, by rw [putReport_lane_same, LaneUnit.settleLamp_report], rfl, rfl, rfl⟩

/-- The state of an expired grant before the service step. -/
def grantEnded (s : State) (n : Lane) : State :=
  (((s.endContext n).withLoad fun l => { l with live := l.live - 1 }).countLane n fun c =>
    { c with expiries := addSat max32 1 c.expiries }).putReport n .expired ((s.ctxPass n).getD 0)

theorem expireGrant_eq (s : State) (n : Lane) : s.expireGrant n = (s.grantEnded n).serviceStep := rfl

/-- An expired grant gives its lane and its place back, is counted and reported, and leaves the other lanes. -/
theorem grantEnded_effect (s : State) (n : Lane) :
    ((s.grantEnded n).lane n).passage = .idle ∧ ((s.grantEnded n).lane n).ctx = none ∧
      (s.grantEnded n).load = { s.load with live := s.load.live - 1 } ∧
      ((s.grantEnded n).counts.current.lanes.get n).expiries =
        min max32 ((s.counts.current.lanes.get n).expiries + 1) ∧
      (∃ r, ((s.grantEnded n).lane n).report = some r ∧ r.kind = .expired ∧ r.pass = (s.ctxPass n).getD 0) ∧
      ∀ m, m ≠ n → (s.grantEnded n).lane m = s.lane m :=
  ⟨by simp [grantEnded], by simp [grantEnded], by simp [grantEnded], by simp [grantEnded, addSat],
    (putReport_report ..).imp fun _ ⟨hr, hkind, hpass, _⟩ => ⟨hr, hkind, hpass⟩,
    fun m hm => by simp [grantEnded, putReport_lane_other _ _ _ _ _ hm, endContext_lane_other _ _ _ hm]⟩

end State

/-- Settles O35: each deadline command acts exactly where its moment is reached. -/
theorem laneDeadlinesEnd : Obligations.LaneDeadlinesEnd := by
  refine ⟨fun n c e s hrunning hgranted hctx hend => ?_,
    fun n s hrunning => ⟨fun q hq => ?_, fun g hg => ?_, fun w hw => ?_⟩⟩
  · have hexec : exec (.grantExpiry n) s =
        .next (if (s.lane n).passage = .granted ∧ s.windowPassed n then (s.expireGrant n).arbiter else s) :=
      congrArg Host.Outcome.next (State.running_of_not_stopped hrunning _)
    have hpassed : s.windowPassed n = true ↔ e ≤ s.time.ms := by
      simp [s.windowPassed_iff, hctx, hend]
    have hpass : s.ctxPass n = c.pass := by simp [State.ctxPass, hctx]
    rw [hexec]
    refine ⟨fun hearly => ?_, fun hreached => ?_⟩
    · rw [if_neg fun h => absurd (hpassed.mp h.2) (Nat.not_le.mpr hearly)]
    · rw [if_pos ⟨hgranted, hpassed.mpr hreached⟩, ← hpass]
      exact ⟨_, rfl, s.grantEnded_effect n⟩
  · refine (congrArg Host.Outcome.next (State.running_of_not_stopped hrunning _)).trans ?_
    simp [State.quietDue, hq]
  · refine (congrArg Host.Outcome.next (State.running_of_not_stopped hrunning _)).trans ?_
    simp [State.signalDue, hg]
  · refine (congrArg Host.Outcome.next (State.running_of_not_stopped hrunning _)).trans ?_
    simp [State.toneDue, hw]

end Sys2Proof.Machine

/-! # LANE MODE (O31) -/

namespace Sys2Proof.Machine

theorem modeOf_code (m : Mode) : modeOf m.code = some m := by cases m <;> rfl

theorem laneModeBlock_same {n : Lane} {m : Mode} {s : State} (h : (s.lane n).mode = m) (station : Bool) :
    laneModeBlock station (laneCode n) m.code s = answerOk s (.laneMode m (s.lane n).passage) := by
  simp [laneModeBlock, laneOf_laneCode, modeOf_code, h]

theorem laneModeBlock_badArg {lane mode : Byte} (h : laneOf lane = none ∨ modeOf mode = none) (station : Bool)
    (s : State) : laneModeBlock station lane mode s = refuseWith s .badArg := by
  unfold laneModeBlock
  split
  · next hlane hmode => simp [hlane, hmode] at h
  · rfl

theorem stationOnly_eq (p : Port) : stationOnly p = decide (p = .sp) := by cases p <;> simp [stationOnly]

namespace State

/-- The arbiter starts a visit, and takes no stamp request from the list before its visit ends (R38). -/
@[simp] theorem arbiter_stamps (s : State) : s.arbiter.reader.stamps = s.reader.stamps := by
  unfold arbiter
  split
  · rfl
  · split
    · rfl
    · split
      · rfl
      · split
        · rfl
        · split
          · unfold startScan
            split <;> rfl
          · rfl

@[simp] theorem arbiter_lane (s : State) (n : Lane) : s.arbiter.lane n = s.lane n := by simp [lane]

@[simp] theorem arbiter_port (s : State) (p : Port) : s.arbiter.port p = s.port p := by simp [port]

/-- A change of mode in the order of R82: the lane's mode, the withdrawal handed over, the quiet memory, the notice. -/
theorem changeMode_eq (s : State) (n : Lane) (m : Mode) (station : Bool) :
    ∃ t : State, s.changeMode n m station = t.arbiter ∧ t.lanes = (s.withLane n fun u => { u with mode := m }).lanes ∧
      t.load = (if m ≠ .opened ∧ (s.lane n).passage = .queued then
        { s.load with handed := s.load.handed ++ [{ lane := n, reason := .laneClosed }] } else s.load) ∧
      t.adm.quiet.get n = (if (s.lane n).mode = .opened then none else s.adm.quiet.get n) ∧
      (t.port (.lp n)).notices =
        (if station then (s.port (.lp n)).notices ||| LaneNotice.mode.mask else (s.port (.lp n)).notices) ∧
      t.reader = s.reader := by
  refine ⟨_, rfl, ?_, ?_, ?_, ?_, ?_⟩
  · simp [apply_ite State.lanes, handWithdrawal]
  · simp [apply_ite State.load, handWithdrawal]
  · simp [apply_ite fun t : State => t.adm.quiet.get n, handWithdrawal]
  · simp [apply_ite fun t : State => (t.port (.lp n)).notices, handWithdrawal]
  · simp [apply_ite State.reader, handWithdrawal]

theorem changeMode_lane (s : State) (n k : Lane) (m : Mode) (station : Bool) :
    (s.changeMode n m station).lane k = (s.withLane n fun u => { u with mode := m }).lane k := by
  obtain ⟨t, ht, hlanes, _⟩ := s.changeMode_eq n m station
  rw [ht, arbiter_lane, lane, hlanes, ← lane]

end State

theorem laneModeBlock_change {n : Lane} {m : Mode} {s : State} (h : (s.lane n).mode ≠ m) (station : Bool) :
    laneModeBlock station (laneCode n) m.code s =
      answerOk (s.changeMode n m station) (.laneMode m (s.lane n).passage) := by
  simp [laneModeBlock, laneOf_laneCode, modeOf_code, Ne.symm h, State.changeMode_lane]

/-- Settles O31, by the answers of LANE MODE and the steps of a change of mode. -/
theorem laneModeIsAnsweredAndActs : Obligations.LaneModeIsAnsweredAndActs := by
  refine ⟨fun p n m s h hp => ⟨fun hsame => ?_, fun hnew => ?_, fun lane mode hbad => ?_⟩, fun n m station s => ?_⟩
  · exact takeOrder_answered h (ownLane_laneCode hp) (laneModeBlock_same (s := s.taken p) hsame _)
  · refine takeOrder_answered h (ownLane_laneCode hp) ?_
    rw [laneModeBlock_change (s := s.taken p) hnew, stationOnly_eq]
    rfl
  · have hrights : ownLane p lane = true :=
      hbad.elim (ownLane_no_lane p) fun ⟨hlane, _⟩ => hlane ▸ ownLane_laneCode hp
    exact takeOrder_answered h hrights (laneModeBlock_badArg (hbad.imp_right And.right) _ _)
  · obtain ⟨t, ht, _, hload, hquiet, hnotices, hreader⟩ := s.changeMode_eq n m station
    refine ⟨?_, ?_, ?_, ?_, ?_, ?_, fun k hk => ?_, by simp, by simp, by simp, ?_⟩
    · simp [State.changeMode_lane]
    · simp [State.changeMode_lane]
    · simp [State.changeMode_lane]
    · simpa [ht] using hload
    · simpa [ht] using hquiet
    · simpa [ht] using hnotices
    · rw [State.changeMode_lane, State.withLane_lane_other _ _ _ _ hk]
    · rw [ht, State.arbiter_stamps, hreader]

end Sys2Proof.Machine

/-! # MANUAL GRANT (O32) -/

namespace Sys2Proof.Machine

theorem laneOf_of_gt {b : Byte} (h : 3 < b.toNat) : laneOf b = none := by
  unfold laneOf
  split
  case h_5 => rfl
  all_goals omega

theorem manualGrantBlock_no_lane {lane : Byte} (h : laneOf lane = none) (s : State) :
    manualGrantBlock lane s = refuseWith s .badArg := by
  simp [manualGrantBlock, h]

section

variable {n : Lane} {s : State}

theorem manualGrantBlock_state (h : (s.lane n).mode ≠ .opened ∨ (s.lane n).passage ≠ .idle) :
    manualGrantBlock (laneCode n) s = refuseWith s .state := by
  simp only [manualGrantBlock, laneOf_laneCode, if_pos h]

theorem manualGrantBlock_lowSupply (hmode : (s.lane n).mode = .opened) (hidle : (s.lane n).passage = .idle)
    (h : s.supply.state ≠ .run) : manualGrantBlock (laneCode n) s = refuseWith s .lowSupply := by
  simp [manualGrantBlock, laneOf_laneCode, hmode, hidle, h]

theorem manualGrantBlock_ok (hmode : (s.lane n).mode = .opened) (hidle : (s.lane n).passage = .idle)
    (h : s.supply.state = .run) : manualGrantBlock (laneCode n) s =
      answerOk (s.manualGrant n) (.passage ((s.manualGrant n).lane n).passage) := by
  simp [manualGrantBlock, laneOf_laneCode, hmode, hidle, h]

end

/-- The context of a MANUAL GRANT: no pass, class 0 (R97). -/
def manualContext : Context :=
  { pass := none, cls := 0, newDay := false, noCharge := false, grantTime := none, windowEnd := none }

namespace State

/-- The admission unit does nothing at the grant of a context without pass data (R72). -/
theorem grant_without_data {s : State} {n : Lane} (h : (s.note n).data = none) : s.grant n = s.releasing n := by
  have hdata : ((s.releasing n).note n).data = none := by simpa [releasing, note] using h
  unfold grant
  dsimp only
  split
  · next hsome => exact absurd (hsome.symm.trans hdata) (Option.some_ne_none _)
  · rfl

/-- A manual context begun, before it asks for its release. -/
def manualBegun (s : State) (n : Lane) : State := s.beginContext n manualContext { cls := 0, data := none }

@[simp] theorem manualBegun_frame (s : State) (n : Lane) :
    (s.manualBegun n).load = s.load ∧ (s.manualBegun n).time = s.time ∧ (s.manualBegun n).table = s.table ∧
      (s.manualBegun n).counts = s.counts ∧ (s.manualBegun n).room = s.room ∧
      ((s.manualBegun n).lane n).tracker = (s.lane n).tracker ∧
      ((s.manualBegun n).lane n).ctx = some manualContext ∧ ((s.manualBegun n).note n).data = none := by
  simp [manualBegun, room]

/-- A manual grant is the release of a manual context, its verdict, and the arbiter's turn. -/
theorem manualGrant_steps (s : State) (n : Lane) : s.manualGrant n =
    (((s.manualBegun n).requestRelease n 0 0).putVerdict n (manualVerdict .manual false)).arbiter := rfl

/-- With room and an empty queue a manual context is granted at once (R111). -/
theorem manualBegun_of_room {s : State} (hroom : s.room = true) (hempty : s.load.queue = []) (n : Lane) :
    (s.manualBegun n).requestRelease n 0 0 = (s.manualBegun n).releasing n := by
  rw [requestRelease_of_room (by simpa using hroom) (by simpa using hempty), grant_without_data (by simp)]

/-- The release of a manual context leaves table and counts, and gives its lane a context without a pass (R97). -/
theorem manualBegun_release (s : State) (n : Lane) :
    ((s.manualBegun n).requestRelease n 0 0).table = s.table ∧
      ((s.manualBegun n).requestRelease n 0 0).counts = s.counts ∧
      ∃ c, (((s.manualBegun n).requestRelease n 0 0).lane n).ctx = some c ∧ c.pass = none ∧ c.cls = 0 := by
  by_cases h : s.room = true ∧ s.load.queue = []
  · rw [manualBegun_of_room h.1 h.2]
    obtain ⟨htable, _, hcounts, _⟩ := (s.manualBegun n).releasing_frame n
    refine ⟨htable.trans (by simp), hcounts.trans (by simp), ?_⟩
    obtain ⟨start, stop, hctx⟩ := grant_ctx (s := s.manualBegun n) (n := n) (c := manualContext) (by simp)
    rw [grant_without_data (by simp)] at hctx
    exact ⟨_, hctx, rfl, rfl⟩
  · rw [requestRelease_of_wait (by simpa using h)]
    exact ⟨by simp, by simp, manualContext, by simp, rfl, rfl⟩

theorem manualGrant_of_room {s : State} (hroom : s.room = true) (hempty : s.load.queue = []) (n : Lane) :
    ((s.manualGrant n).lane n).passage = passageAtGrant (s.lane n).tracker ∧
      (s.manualGrant n).load = { s.load with live := s.load.live + 1 } := by
  rw [manualGrant_steps, manualBegun_of_room hroom hempty, ← grant_without_data (by simp)]
  simp [grant_passage, (grant_lane_load _ n).2]

theorem manualGrant_of_wait {s : State} (h : ¬(s.room = true ∧ s.load.queue = [])) (n : Lane) :
    ((s.manualGrant n).lane n).passage = .queued ∧
      (s.manualGrant n).load =
        { s.load with
          queue := enqueue { lane := n, pass := 0, cls := 0, enqueued := s.time.ms,
                             deadline := s.time.ms + s.load.hold * 1000 } s.load.queue } := by
  rw [manualGrant_steps, requestRelease_of_wait (by simpa using h)]
  simp

/-- A manual grant leaves table and counts, the other lanes, and a MANUAL verdict that empties the quiet memory (R54,
R77, R97). -/
theorem manualGrant_effect (s : State) (n : Lane) :
    (∃ c, ((s.manualGrant n).lane n).ctx = some c ∧ c.pass = none ∧ c.cls = 0) ∧
      (∃ v, (s.manualGrant n).adm.verdicts.get n = some v ∧ v.kind = .manual ∧ v.pass = 0) ∧
      (s.manualGrant n).adm.quiet.get n = none ∧ (s.manualGrant n).table = s.table ∧
      (s.manualGrant n).counts = s.counts ∧ ∀ m, m ≠ n → (s.manualGrant n).lane m = s.lane m := by
  obtain ⟨htable, hcounts, hctx⟩ := s.manualBegun_release n
  rw [manualGrant_steps]
  refine ⟨by simpa using hctx, ?_, ?_, by simpa using htable, by simpa using hcounts, fun m hm => ?_⟩
  · rw [(arbiter_frame _).2.1, putVerdict_verdict_same]
    exact ⟨_, rfl, rfl, rfl⟩
  · rw [(arbiter_frame _).2.1, putVerdict_quiet_same]
    rfl
  · rw [arbiter_lane, putVerdict_lane_other _ _ _ _ hm, requestRelease_lane_other _ hm, manualBegun,
      beginContext_lane_other _ _ _ _ _ hm]

end State

/-- Settles O32: the three refusals in their order, and the release of the manual context. -/
theorem manualGrantAsksForRelease : Obligations.ManualGrantAsksForRelease := by
  intro n s h
  have hrights : manualRights (.lp n) (laneCode n) = true := ownLane_laneCode (.inr rfl)
  refine ⟨fun lane hlane => ?_, fun hbad => ?_, fun hmode hidle hlow => ?_, fun hmode hidle hrun => ?_⟩
  · exact takeOrder_answered h (ownLane_no_lane (.lp n) (laneOf_of_gt hlane))
      (manualGrantBlock_no_lane (laneOf_of_gt hlane) _)
  · exact takeOrder_answered h hrights (manualGrantBlock_state (s := s.taken _) hbad)
  · exact takeOrder_answered h hrights (manualGrantBlock_lowSupply (s := s.taken _) hmode hidle hlow)
  · obtain ⟨hctx, hverdict, hquiet, htable, hcounts, hother⟩ := (s.taken (.lp n)).manualGrant_effect n
    refine ⟨(s.taken (.lp n)).manualGrant n,
      takeOrder_answered h hrights (manualGrantBlock_ok (s := s.taken _) hmode hidle hrun),
      fun hroom hempty => ?_, fun hwait => ?_, hctx, hverdict, hquiet, htable, by simp, hcounts, hother⟩
    · obtain ⟨hpassage, hload⟩ := State.manualGrant_of_room (s := s.taken (.lp n)) hroom hempty n
      exact ⟨hpassage.trans (passageAtGrant_eq _), hload⟩
    · exact State.manualGrant_of_wait (s := s.taken (.lp n)) hwait n

end Sys2Proof.Machine

/-! # Forward passages (O34) -/

namespace Sys2Proof.Machine

/-! ## What a forward passage counts (R104, R123 to R125) -/

/-- The riders in the area after one more has come in (R104). -/
def ridersAfter (k : Nat) : Nat := if k < 255 then k + 1 else k

/-- The counts after a forward passage at the lane, with the area's riders as before it and the lane's own counter
raised by `f`. -/
def Counts.passed (c : Counts) (n : Lane) (riders : Nat) (f : LaneCounts → LaneCounts) : Counts :=
  { c with
    current := { c.current with
      lanes := if c.current.lift.total < max32 then c.current.lanes.set n (f (c.current.lanes.get n))
        else c.current.lanes
      lift := { c.current.lift with
        total := if c.current.lift.total < max32 then c.current.lift.total + 1 else c.current.lift.total
        peak := if riders < 255 then max c.current.lift.peak (riders + 1) else c.current.lift.peak } }
    openBin := { c.openBin with passages := min max16 (c.openBin.passages + 1) } }

namespace State

@[simp] theorem occupancyUp_load (s : State) :
    s.occupancyUp.load = { s.load with occupancy := ridersAfter s.load.occupancy } := by
  unfold occupancyUp ridersAfter
  split <;> rfl

/-- One more rider in the area, and a passage counted at the lane, are one `Counts.passed`. -/
theorem countPassage_counts (s : State) (n : Lane) (f : LaneCounts → LaneCounts) :
    (s.occupancyUp.countPassage n f).counts = s.counts.passed n s.load.occupancy f := by
  unfold occupancyUp countPassage
  by_cases hriders : s.load.occupancy < 255 <;> by_cases htotal : s.counts.current.lift.total < max32 <;>
    simp [hriders, htotal, Counts.passed, countLift, countLane, addSat]

/-- A report raises PASSAGE on its lane's port (R96). -/
theorem putReport_notices (s : State) (n : Lane) (k : ReportKind) (p : PassNo) :
    ((s.putReport n k p).port (.lp n)).notices = (s.port (.lp n)).notices ||| LaneNotice.passage.mask := by
  simp [putReport]

/-! ## The four kinds of forward passage (R91, R94) -/

/-- How a forward passage at the lane is counted. -/
def passageCounter (s : State) (n : Lane) : LaneCounts → LaneCounts :=
  if (s.lane n).passage = .entering then
    if s.ctxPass n = none then fun c => { c with manual := c.manual + 1 }
    else fun c => { c with admitted := c.admitted + 1 }
  else if (s.lane n).mode = .free then fun c => { c with free := c.free + 1 }
  else fun c => { c with intrusions := c.intrusions + 1 }

theorem forwardPassage_completes {s : State} {n : Lane} (h : (s.lane n).passage = .entering) :
    s.forwardPassage n = s.completeGrant n := by
  simp [forwardPassage, h]

theorem forwardPassage_free {s : State} {n : Lane} (h : (s.lane n).passage ≠ .entering)
    (hfree : (s.lane n).mode = .free) : s.forwardPassage n = s.freePassage n := by
  unfold forwardPassage
  split
  · next hentering => exact absurd hentering h
  all_goals simp [hfree]

theorem forwardPassage_intrudes {s : State} {n : Lane} (h : (s.lane n).passage ≠ .entering)
    (hfree : (s.lane n).mode ≠ .free) : s.forwardPassage n = s.intrusion n := by
  unfold forwardPassage
  split
  · next hentering => exact absurd hentering h
  all_goals
    split
    · next hmode => exact absurd hmode hfree
    all_goals rfl

/-! ### A completed grant -/

@[simp] theorem passageWritten_frame (s : State) (n : Lane) :
    (s.passageWritten n).load = s.load ∧ (s.passageWritten n).counts = s.counts ∧
      (s.passageWritten n).time = s.time ∧ (s.passageWritten n).lanes = s.lanes ∧
      (s.passageWritten n).ports = s.ports := by
  unfold passageWritten
  split
  · split <;> simp
  · simp

/-- A completed grant before its report and the end of its context: the passage written, the live grant and the rider
counted. -/
def riderEntered (s : State) (n : Lane) : State :=
  (((s.passageWritten n).withLoad fun l => { l with live := l.live - 1 }).occupancyUp).countPassage n fun c =>
    if (s.ctxPass n).isSome then { c with admitted := c.admitted + 1 } else { c with manual := c.manual + 1 }

theorem completeGrant_steps (s : State) (n : Lane) : s.completeGrant n =
    ((s.riderEntered n).putReport n (if (s.ctxPass n).isSome then .admitted else .manual)
      ((s.ctxPass n).getD 0)).endContext n := rfl

@[simp] theorem riderEntered_frame (s : State) (n : Lane) :
    (s.riderEntered n).load =
        { s.load with live := s.load.live - 1, occupancy := ridersAfter s.load.occupancy } ∧
      (s.riderEntered n).time = s.time ∧ (s.riderEntered n).lanes = s.lanes ∧
      (s.riderEntered n).ports = s.ports := by
  simp [riderEntered]

theorem riderEntered_counts {s : State} {n : Lane} (h : (s.lane n).passage = .entering) :
    (s.riderEntered n).counts = s.counts.passed n s.load.occupancy (s.passageCounter n) := by
  unfold riderEntered
  rw [countPassage_counts, passageCounter, if_pos h]
  cases hpass : s.ctxPass n <;> simp

@[simp] theorem completeGrant_load (s : State) (n : Lane) : (s.completeGrant n).load =
    { s.load with live := s.load.live - 1, occupancy := ridersAfter s.load.occupancy } := by
  simp [completeGrant_steps]

/-- A completed grant leaves its lane IDLE without a context, and reports the passage (R91). -/
theorem completeGrant_effect (s : State) (n : Lane) :
    ((s.completeGrant n).lane n).passage = .idle ∧ ((s.completeGrant n).lane n).ctx = none ∧
      (∃ r, ((s.completeGrant n).lane n).report = some r ∧
        r.kind = (if (s.ctxPass n).isSome then .admitted else .manual) ∧ r.pass = (s.ctxPass n).getD 0 ∧
        r.second = s.time.runSec) ∧
      ((s.completeGrant n).port (.lp n)).notices = (s.port (.lp n)).notices ||| LaneNotice.passage.mask ∧
      ∀ m, m ≠ n → (s.completeGrant n).lane m = s.lane m := by
  rw [completeGrant_steps]
  refine ⟨by simp, by simp, ?_, ?_, fun m hm => ?_⟩
  · obtain ⟨r, hr, hkind, hpass, hsecond⟩ := (s.riderEntered n).putReport_report n
      (if (s.ctxPass n).isSome then .admitted else .manual) ((s.ctxPass n).getD 0)
    exact ⟨r, by simpa using hr, hkind, hpass, by simpa using hsecond⟩
  · rw [(endContext_views _ _).1, putReport_notices]
    simp [port]
  · rw [endContext_lane_other _ _ _ hm, putReport_lane_other _ _ _ _ _ hm]
    simp [lane]

/-! ### Passages without a grant -/

@[simp] theorem freePassage_load (s : State) (n : Lane) :
    (s.freePassage n).load = { s.load with occupancy := ridersAfter s.load.occupancy } := by
  simp [freePassage]

@[simp] theorem intrusion_load (s : State) (n : Lane) :
    (s.intrusion n).load = { s.load with occupancy := ridersAfter s.load.occupancy } := by
  simp [intrusion]

/-- A free passage changes the report of its lane, and no other lane (R94). -/
theorem freePassage_effect (s : State) (n : Lane) :
    ((s.freePassage n).lane n).passage = (s.lane n).passage ∧ ((s.freePassage n).lane n).ctx = (s.lane n).ctx ∧
      ((s.freePassage n).lane n).signal = (s.lane n).signal ∧
      (∃ r, ((s.freePassage n).lane n).report = some r ∧ r.kind = .free ∧ r.pass = 0) ∧
      (s.freePassage n).port .sp = s.port .sp ∧ ∀ m, m ≠ n → (s.freePassage n).lane m = s.lane m := by
  refine ⟨by simp [freePassage], by simp [freePassage], by simp [freePassage],
    (putReport_report ..).imp fun _ ⟨hr, hkind, hpass, _⟩ => ⟨hr, hkind, hpass⟩, ?_, fun m hm => ?_⟩
  · simp [freePassage, putReport]
  · simp [freePassage, putReport_lane_other _ _ _ _ _ hm]

/-- An intrusion starts its signal and tells the station, and leaves passage state, context and other lanes (R94). -/
theorem intrusion_effect (s : State) (n : Lane) :
    ((s.intrusion n).lane n).passage = (s.lane n).passage ∧ ((s.intrusion n).lane n).ctx = (s.lane n).ctx ∧
      ((s.intrusion n).lane n).signal = some { kind := .intrusion, endAt := s.time.ms + 3000 } ∧
      (∃ r, ((s.intrusion n).lane n).report = some r ∧ r.kind = .intrusion ∧ r.pass = 0) ∧
      ((s.intrusion n).port .sp).notices = (s.port .sp).notices ||| StationNotice.intrusion.mask ∧
      ∀ m, m ≠ n → (s.intrusion n).lane m = s.lane m := by
  refine ⟨by simp [intrusion], by simp [intrusion], by simp [intrusion, signalTime], ?_, ?_, fun m hm => ?_⟩
  · obtain ⟨r, hr, hkind, hpass, _⟩ := (s.occupancyUp.countPassage n fun c =>
      { c with intrusions := c.intrusions + 1 }).putReport_report n .intrusion 0
    exact ⟨r, by simpa [intrusion] using hr, hkind, hpass⟩
  · simp [intrusion, putReport]
  · simp [intrusion, startTone_lane_other _ _ _ _ hm, startSignal_lane_other _ _ _ _ hm,
      putReport_lane_other _ _ _ _ _ hm]

/-! ### All four kinds -/

/-- Every forward passage puts one more rider in the area and is counted by its kind (R104, R123 to R125). -/
theorem forwardPassage_counts (s : State) (n : Lane) :
    (s.forwardPassage n).load.occupancy = ridersAfter s.load.occupancy ∧
      (s.forwardPassage n).counts = s.counts.passed n s.load.occupancy (s.passageCounter n) := by
  by_cases hentering : (s.lane n).passage = .entering
  · rw [forwardPassage_completes hentering]
    exact ⟨by simp, by simp [completeGrant_steps, riderEntered_counts hentering]⟩
  · by_cases hfree : (s.lane n).mode = .free
    · rw [forwardPassage_free hentering hfree, passageCounter, if_neg hentering, if_pos hfree]
      exact ⟨by simp, by simp [freePassage, countPassage_counts]⟩
    · rw [forwardPassage_intrudes hentering hfree, passageCounter, if_neg hentering, if_neg hfree]
      exact ⟨by simp, by simp [intrusion, countPassage_counts]⟩

/-- Below the greatest total the lane's own counter moves with it (R123). -/
theorem forwardPassage_lane_count {s : State} (h : s.counts.current.lift.total < max32) (n : Lane) :
    (s.forwardPassage n).counts.current.lanes.get n = s.passageCounter n (s.counts.current.lanes.get n) := by
  rw [(s.forwardPassage_counts n).2]
  simp [Counts.passed, h]

end State

/-- Settles O34: the counts of all forward passages, then the completed grant, and the passages without one. -/
theorem forwardPassagesAreAttributed : Obligations.ForwardPassagesAreAttributed := by
  refine ⟨fun n s => ?_, fun n s hentering => ?_, fun n s hentering => ?_⟩
  · obtain ⟨hriders, hcounts⟩ := s.forwardPassage_counts n
    intro t more counted
    rw [hcounts]
    refine ⟨hriders, rfl, rfl, rfl, rfl, rfl, fun hfull => if_neg hfull, fun m hm => ?_⟩
    simp only [Counts.passed]
    split
    · exact PerLane.get_set_other _ _ _ _ hm
    · rfl
  · obtain ⟨hpassage, hctx, hreport, hnotices, hother⟩ := s.completeGrant_effect n
    have hkind : (if (s.ctxPass n).isSome then ReportKind.admitted else .manual) =
        if s.ctxPass n = none then .manual else .admitted := by
      cases s.ctxPass n <;> simp
    have hcount := fun h => State.forwardPassage_lane_count (s := s) h n
    rw [hkind] at hreport
    rw [State.forwardPassage_completes hentering] at hcount ⊢
    refine ⟨hpassage, hctx, by simp, fun h => ?_, hreport, hnotices, hother, by simp, by simp⟩
    rw [hcount h, State.passageCounter, if_pos hentering]
    split <;> rfl
  · have hcount := fun h => State.forwardPassage_lane_count (s := s) h n
    simp only [State.passageCounter, if_neg hentering] at hcount
    by_cases hfree : (s.lane n).mode = .free
    · obtain ⟨hpassage, hctx, hsignal, hreport, hport, hother⟩ := s.freePassage_effect n
      rw [State.forwardPassage_free hentering hfree] at hcount ⊢
      simp only [if_pos hfree] at hcount ⊢
      exact ⟨by simp, by simp, hpassage, hctx, hcount, hreport, hsignal, by rw [hport], hother⟩
    · obtain ⟨hpassage, hctx, hsignal, hreport, hnotices, hother⟩ := s.intrusion_effect n
      rw [State.forwardPassage_intrudes hentering hfree] at hcount ⊢
      simp only [if_neg hfree] at hcount ⊢
      exact ⟨by simp, by simp, hpassage, hctx, hcount, hreport, hsignal, hnotices, hother⟩

end Sys2Proof.Machine

/-! # Beams, BOARD and settings: what the release of riders leaves of them -/

namespace Sys2Proof.Machine

/-- What a lane unit holds of its pins and settings. -/
structure LaneInputs where
  beam : Beam → Debounced
  settings : LaneSettings

def LaneUnit.inputs (u : LaneUnit) : LaneInputs := { beam := u.beam, settings := u.settings }

/-- What the part holds of its pins and of its lanes' settings. -/
structure Inputs where
  lane : Lane → LaneInputs
  board : Debounced

def State.inputs (s : State) : Inputs := { lane := fun n => (s.lane n).inputs, board := s.load.board }

@[simp] theorem State.inputs_lane (s : State) (n : Lane) : s.inputs.lane n = (s.lane n).inputs := rfl

@[simp] theorem LaneUnit.settleLamp_inputs (ms : Nat) (u : LaneUnit) : (u.settleLamp ms).inputs = u.inputs := by
  unfold LaneUnit.settleLamp
  split <;> rfl

@[simp] theorem LaneUnit.settleLamp_beam (ms : Nat) (u : LaneUnit) : (u.settleLamp ms).beam = u.beam :=
  congrArg LaneInputs.beam (u.settleLamp_inputs ms)

namespace State

/-! ## One update of a block -/

theorem inputs_of_same {s t : State} (hlanes : t.lanes = s.lanes) (hboard : t.load.board = s.load.board) :
    t.inputs = s.inputs := by
  simp only [inputs, lane, hlanes, hboard]

theorem withLane_inputs (s : State) (n : Lane) (f : LaneUnit → LaneUnit) (h : ∀ u, (f u).inputs = u.inputs) :
    (s.withLane n f).inputs = s.inputs := by
  have hlane : ∀ m, ((s.withLane n f).lane m).inputs = (s.lane m).inputs := fun m => by
    by_cases hm : m = n
    · subst hm
      rw [withLane_lane_same, LaneUnit.settleLamp_inputs, h]
    · rw [withLane_lane_other _ _ _ _ hm]
  simp only [inputs, hlane, withLane_load]

@[simp] theorem withAdm_inputs (s : State) (f : Admission → Admission) : (s.withAdm f).inputs = s.inputs := rfl
@[simp] theorem withCounts_inputs (s : State) (f : Counts → Counts) : (s.withCounts f).inputs = s.inputs := rfl
@[simp] theorem raiseLane_inputs (s : State) (n : Lane) (x : LaneNotice) : (s.raiseLane n x).inputs = s.inputs := rfl
@[simp] theorem raiseStation_inputs (s : State) (x : StationNotice) : (s.raiseStation x).inputs = s.inputs := rfl

@[simp] theorem withLoad_inputs (s : State) (f : Loading → Loading) (h : (f s.load).board = s.load.board) :
    (s.withLoad f).inputs = s.inputs := inputs_of_same rfl h

@[simp] theorem arbiter_inputs (s : State) : s.arbiter.inputs = s.inputs := inputs_of_same (by simp) (by simp)

/-! ## The operations of a lane -/

@[simp] theorem countLane_inputs (s : State) (n : Lane) (f : LaneCounts → LaneCounts) :
    (s.countLane n f).inputs = s.inputs := rfl

@[simp] theorem countLift_inputs (s : State) (f : LiftCounts → LiftCounts) : (s.countLift f).inputs = s.inputs := rfl

@[simp] theorem countPassage_inputs (s : State) (n : Lane) (f : LaneCounts → LaneCounts) :
    (s.countPassage n f).inputs = s.inputs := inputs_of_same (by simp) (by simp)

@[simp] theorem occupancyUp_inputs (s : State) : s.occupancyUp.inputs = s.inputs := inputs_of_same (by simp) (by simp)

@[simp] theorem startSignal_inputs (s : State) (n : Lane) (k : SignalKind) : (s.startSignal n k).inputs = s.inputs :=
  withLane_inputs s n _ fun _ => rfl

@[simp] theorem startTone_inputs (s : State) (n : Lane) (p : Pattern) : (s.startTone n p).inputs = s.inputs :=
  withLane_inputs s n _ fun _ => rfl

@[simp] theorem putVerdict_inputs (s : State) (n : Lane) (v : Verdict) : (s.putVerdict n v).inputs = s.inputs := by
  rw [putVerdict, raiseLane_inputs]
  exact withLane_inputs _ n _ fun _ => rfl

@[simp] theorem putReport_inputs (s : State) (n : Lane) (k : ReportKind) (p : PassNo) :
    (s.putReport n k p).inputs = s.inputs := by
  rw [putReport, raiseLane_inputs]
  exact withLane_inputs _ n _ fun _ => rfl

@[simp] theorem endContext_inputs (s : State) (n : Lane) : (s.endContext n).inputs = s.inputs := by
  have hended := s.withLane_inputs n (fun u => { u with passage := .idle, ctx := none }) fun _ => rfl
  unfold endContext
  split
  · exact hended
  · exact hended

@[simp] theorem grant_inputs (s : State) (n : Lane) : (s.grant n).inputs = s.inputs := by
  obtain ⟨hlane, hload⟩ := s.grant_lane_load n
  have hgrant : (s.grant n).inputs = (s.releasing n).inputs := by
    simp only [inputs, hlane, hload, releasing, grantLane_frame, withLoad_load]
  rw [hgrant, releasing, grantLane, startTone_inputs]
  exact withLane_inputs _ n _ fun _ => rfl

/-! ## The release queue -/

@[simp] theorem grantHead_inputs (s : State) (n : Lane) : (s.grantHead n).inputs = s.inputs := by
  simp [grantHead]

@[simp] theorem dropEntry_inputs (s : State) (n : Lane) (r : WithdrawReason) : (s.dropEntry n r).inputs = s.inputs := by
  simp [dropEntry]

@[simp] theorem serveHead_inputs (s : State) (n : Lane) : (s.serveHead n).inputs = s.inputs := by
  unfold serveHead
  split <;> simp

theorem serviceRounds_inputs (k : Nat) (s : State) : (serviceRounds k s).inputs = s.inputs := by
  induction k generalizing s with
  | zero => rfl
  | succ k ih =>
    unfold serviceRounds
    split
    · rfl
    · split
      · rw [ih, serveHead_inputs]
      · rfl

@[simp] theorem serviceStep_inputs (s : State) : s.serviceStep.inputs = s.inputs := serviceRounds_inputs _ s

/-! ## Passages -/

@[simp] theorem expireGrant_inputs (s : State) (n : Lane) : (s.expireGrant n).inputs = s.inputs := by
  simp [expireGrant_eq, grantEnded]

@[simp] theorem completeGrant_inputs (s : State) (n : Lane) : (s.completeGrant n).inputs = s.inputs := by
  rw [completeGrant_steps, endContext_inputs, putReport_inputs]
  exact inputs_of_same (by simp) (by simp)

@[simp] theorem freePassage_inputs (s : State) (n : Lane) : (s.freePassage n).inputs = s.inputs := by
  simp [freePassage]

@[simp] theorem intrusion_inputs (s : State) (n : Lane) : (s.intrusion n).inputs = s.inputs := by
  simp [intrusion]

@[simp] theorem forwardPassage_inputs (s : State) (n : Lane) : (s.forwardPassage n).inputs = s.inputs := by
  by_cases hentering : (s.lane n).passage = .entering
  · rw [forwardPassage_completes hentering, completeGrant_inputs]
  · by_cases hfree : (s.lane n).mode = .free
    · rw [forwardPassage_free hentering hfree, freePassage_inputs]
    · rw [forwardPassage_intrudes hentering hfree, intrusion_inputs]

@[simp] theorem reversePassage_inputs (s : State) (n : Lane) : (s.reversePassage n).inputs = s.inputs := by
  simp [reversePassage, occupancyDown]

@[simp] theorem backOut_inputs (s : State) (n : Lane) : (s.backOut n).inputs = s.inputs := by
  unfold backOut
  split
  · split
    · exact s.expireGrant_inputs n
    · exact s.withLane_inputs n _ fun _ => rfl
  · rfl

/-- Whatever the tracker hands over, beams, BOARD and settings stay. -/
@[simp] theorem handOver_inputs (s : State) (n : Lane) (h : HandOver) : (s.handOver n h).inputs = s.inputs := by
  cases h with
  | entryBegun =>
    change (s.entryBegun n).inputs = s.inputs
    unfold entryBegun
    split
    · exact s.withLane_inputs n _ fun _ => rfl
    · rfl
  | exitBegun => rfl
  | forward => exact s.forwardPassage_inputs n
  | reverse => exact s.reversePassage_inputs n
  | cleared seen => cases seen with
    | true => rfl
    | false => exact s.backOut_inputs n
  | nothing => rfl

end State
end Sys2Proof.Machine

/-! # The beams and their tracker (O33) -/

namespace Sys2Proof.Machine

theorem LaneUnit.beam_setBeam (u : LaneUnit) (b c : Beam) (d : Debounced) :
    (u.setBeam b d).beam c = if c = b then d else u.beam c := by
  cases b <;> cases c <;> rfl

/-- What Table 4-1 makes of a beam's debounced change at the lane: the tracker, and what it hands over. -/
def LaneUnit.moved (u : LaneUnit) (b : Beam) : Tracker × HandOver :=
  if (u.beam b).raw then trackBreak b u.tracker else trackClear (u.beam (otherBeam b)).level u.tracker

/-- A lane unit after a beam's debounced change: the level settled, the tracker moved (R84, R85). -/
def LaneUnit.settleBeam (u : LaneUnit) (b : Beam) : LaneUnit :=
  { u.setBeam b (u.beam b).settle with tracker := (u.moved b).1 }

theorem LaneUnit.settleBeam_beam (u : LaneUnit) (b c : Beam) :
    (u.settleBeam b).beam c = if c = b then (u.beam c).settle else u.beam c := by
  rw [show (u.settleBeam b).beam c = (u.setBeam b (u.beam b).settle).beam c from rfl, beam_setBeam]
  split
  · next h => rw [h]
  · rfl

theorem LaneUnit.settleBeam_settings (u : LaneUnit) (b : Beam) : (u.settleBeam b).settings = u.settings := by
  cases b <;> rfl

theorem Debounced.rawChange_of_ne {raw : Bool} {d : Debounced} (h : raw ≠ d.raw) (now : Nat) :
    d.rawChange now raw = { raw := raw, level := d.level, since := if raw = d.level then none else some now } :=
  if_neg h

theorem Debounced.due_iff (now debounce : Nat) (d : Debounced) :
    d.due now debounce = true ↔ ∃ t, d.since = some t ∧ t + debounce ≤ now := by
  unfold Debounced.due
  cases d.since <;> simp

namespace State

/-! ## What is handed over (R89, R90, R95) -/

/-- The state of a reverse passage before the service step. -/
def riderReturned (s : State) (n : Lane) : State :=
  (s.occupancyDown.countLane n fun c => { c with reverse := addSat max32 1 c.reverse }).putReport n .reverse 0

theorem reversePassage_eq (s : State) (n : Lane) : s.reversePassage n = (s.riderReturned n).serviceStep := rfl

/-- A reverse passage takes a rider from the area, is counted and reported, and leaves passage states and contexts
(R95). -/
theorem riderReturned_effect (s : State) (n : Lane) :
    (s.riderReturned n).load = { s.load with occupancy := s.load.occupancy - 1 } ∧
      ((s.riderReturned n).counts.current.lanes.get n).reverse =
        min max32 ((s.counts.current.lanes.get n).reverse + 1) ∧
      (s.riderReturned n).counts.current.lift = s.counts.current.lift ∧
      (∃ r, ((s.riderReturned n).lane n).report = some r ∧ r.kind = .reverse ∧ r.pass = 0 ∧
        r.second = s.time.runSec) ∧
      ((s.riderReturned n).port (.lp n)).notices = (s.port (.lp n)).notices ||| LaneNotice.passage.mask ∧
      ((s.riderReturned n).lane n).passage = (s.lane n).passage ∧
      ((s.riderReturned n).lane n).ctx = (s.lane n).ctx ∧ (s.riderReturned n).table = s.table ∧
      ∀ m, m ≠ n → (s.riderReturned n).lane m = s.lane m :=
  ⟨by simp [riderReturned, occupancyDown], by simp [riderReturned, addSat], by simp [riderReturned],
    putReport_report .., putReport_notices .., by simp [riderReturned], by simp [riderReturned],
    by simp [riderReturned], fun m hm => by simp [riderReturned, putReport_lane_other _ _ _ _ _ hm]⟩

theorem backOut_outside {s : State} {n : Lane} (h : (s.lane n).passage ≠ .entering) : s.backOut n = s := if_neg h

theorem backOut_in_window {s : State} {n : Lane} (h : (s.lane n).passage = .entering)
    (hwindow : ¬s.windowPassed n = true) : s.backOut n = s.withLane n fun u => { u with passage := .granted } := by
  simp [backOut, h, hwindow]

theorem backOut_expires {s : State} {n : Lane} (h : (s.lane n).passage = .entering)
    (hwindow : s.windowPassed n = true) : s.backOut n = (s.grantEnded n).serviceStep := by
  simp [backOut, h, hwindow, expireGrant_eq]

/-! ## A beam's change (R84, R85) -/

theorem beamChanged_eq (s : State) (n : Lane) (b : Beam) :
    s.beamChanged n b = (s.withLane n fun u => u.settleBeam b).handOver n ((s.lane n).moved b).2 := rfl

/-- A beam's debounced change settles that beam, and leaves all other beams, the settings and BOARD. -/
theorem beamChanged_inputs (s : State) (n : Lane) (b : Beam) :
    (s.beamChanged n b).inputs = (s.withLane n fun u => u.settleBeam b).inputs := by
  rw [beamChanged_eq, handOver_inputs]

theorem beamChanged_beam (s : State) (n m : Lane) (b c : Beam) :
    ((s.beamChanged n b).lane m).beam c =
      if m = n ∧ c = b then ((s.lane m).beam c).settle else (s.lane m).beam c := by
  have hbeam : ((s.beamChanged n b).lane m).beam = ((s.withLane n fun u => u.settleBeam b).lane m).beam :=
    congrArg (fun i : Inputs => (i.lane m).beam) (s.beamChanged_inputs n b)
  rw [hbeam]
  by_cases hm : m = n
  · subst hm
    rw [withLane_lane_same]
    simpa using LaneUnit.settleBeam_beam (s.lane m) b c
  · rw [withLane_lane_other _ _ _ _ hm, if_neg fun h => hm h.1]

end State

/-- Settles O33: Table 4-1 line by line, the change of a beam, each case of what is handed over, and the two events. -/
theorem beamsDriveTheTracker : Obligations.BeamsDriveTheTracker := by
  refine ⟨⟨rfl, rfl, rfl, rfl, rfl, rfl, fun _ => rfl, fun _ => rfl, fun _ => rfl, fun _ => rfl, fun _ => rfl,
    fun _ => rfl⟩, fun n b s => ?_, fun n s => ?_,
    fun n b s hrunning => ⟨fun broken hbroken => ?_, fun t0 hsince hdue => ?_, fun hearly => ?_⟩⟩
  · cases b <;> rfl
  · simp only [← s.windowPassed_iff]
    exact ⟨rfl, rfl, rfl, rfl, fun h => if_pos h, fun h => if_neg h, fun h => State.backOut_outside h,
      fun h hwindow => State.backOut_in_window h hwindow,
      fun h hwindow => ⟨_, State.backOut_expires h hwindow, s.grantEnded_effect n⟩,
      s.riderReturned n, s.reversePassage_eq n, s.riderReturned_effect n⟩
  · have hevent : ((s.lane n).beam b).rawEvent s.stopped s.time.ms broken =
        { raw := broken, level := ((s.lane n).beam b).level,
          since := if broken = ((s.lane n).beam b).level then none else some s.time.ms } := by
      rw [Debounced.rawEvent, hrunning]
      exact Debounced.rawChange_of_ne hbroken _
    rw [← hevent]
    rfl
  · refine ⟨(congrArg Host.Outcome.next (State.running_of_not_stopped hrunning _)).trans ?_, ?_⟩
    · rw [if_pos ((Debounced.due_iff _ _ _).mpr ⟨t0, hsince, hdue⟩)]
    · rw [State.beamChanged_beam, if_pos ⟨rfl, rfl⟩]
      rfl
  · refine (congrArg Host.Outcome.next (State.running_of_not_stopped hrunning _)).trans ?_
    rw [if_neg]
    rw [Debounced.due_iff]
    rintro ⟨t0, hsince, hdue⟩
    exact absurd hdue (Nat.not_le.mpr (hearly t0 hsince))

end Sys2Proof.Machine

/-! # LANE SET, LOADING SET and REFUND SET (O18) -/

namespace Sys2Proof.Machine

/-! ## Fields -/

theorem pitchOf_code (p : Pitch) : pitchOf p.code = some p := by cases p <;> rfl

theorem lt_of_pitchOf {b : Byte} {p : Pitch} (h : pitchOf b = some p) : b.toNat < 4 := by
  unfold pitchOf at h
  split at h
  case h_5 => exact absurd h nofun
  all_goals omega

theorem lt_of_boolOf {b : Byte} {x : Bool} (h : boolOf b = some x) : b.toNat < 2 :=
  Nat.lt_of_not_le fun hge => absurd ((boolOf_of_gt hge).symm.trans h) nofun

theorem mem_of_inRange {lo hi n k : Nat} (h : inRange lo hi n = some k) : lo ≤ n ∧ n ≤ hi :=
  Decidable.of_not_not fun hn => absurd ((inRange_not_mem hn).symm.trans h) nofun

theorem laneOf_of_lt {b : Byte} (h : b.toNat < 4) : ∃ n, laneOf b = some n ∧ b = laneCode n := by
  obtain hb | hb | hb | hb : b = 0#8 ∨ b = 1#8 ∨ b = 2#8 ∨ b = 3#8 := by bv_omega
  · exact ⟨.l0, by rw [hb]; rfl, hb⟩
  · exact ⟨.l1, by rw [hb]; rfl, hb⟩
  · exact ⟨.l2, by rw [hb]; rfl, hb⟩
  · exact ⟨.l3, by rw [hb]; rfl, hb⟩

theorem laneCode_inj {m n : Lane} (h : laneCode m = laneCode n) : m = n :=
  Option.some.inj ((laneOf_laneCode m).symm.trans ((congrArg laneOf h).trans (laneOf_laneCode n)))

theorem mem_lane_all (n : Lane) : n ∈ Lane.all := by cases n <;> simp [Lane.all]

theorem lanesOf_none {lane : Byte} (h : ¬(lane = 0xFF ∨ lane.toNat < 4)) : lanesOf lane = none := by
  obtain ⟨hall, hlane⟩ := not_or.mp h
  exact (if_neg hall).trans (by rw [laneOf_of_gt (by omega), Option.map_none])

/-- The lanes that LANE SET names, each once, and the settings its reply shows for them (R101). -/
theorem lanesOf_some {lane : Byte} (h : lane = 0xFF ∨ lane.toNat < 4) :
    ∃ ns, lanesOf lane = some ns ∧ ns.Nodup ∧ (∀ n, n ∈ ns ↔ lane = 0xFF ∨ lane = laneCode n) ∧
      ∀ x : LaneSettings, (ns.map fun _ => x) = if lane = 0xFF then [x, x, x, x] else [x] := by
  by_cases hall : lane = 0xFF
  · exact ⟨Lane.all, if_pos hall, by decide, fun n => iff_of_true (mem_lane_all n) (.inl hall),
      fun x => (if_pos hall).symm⟩
  · obtain ⟨n, hn, rfl⟩ := laneOf_of_lt (h.resolve_left hall)
    refine ⟨[n], (if_neg hall).trans (by rw [hn, Option.map_some]), List.nodup_singleton n, fun m => ?_,
      fun x => (if_neg hall).symm⟩
    rw [List.mem_singleton]
    exact ⟨fun hm => .inr (hm ▸ rfl), fun hm => laneCode_inj (hm.resolve_left hall).symm⟩

section

variable {window debounce high low mute : Byte}

theorem laneSettingsOf_of_ok {h l : Pitch} (hwindow : 10 ≤ window.toNat) (hlow : 5 ≤ debounce.toNat)
    (hhigh : debounce.toNat ≤ 250) (hmute : mute.toNat < 2) :
    laneSettingsOf window debounce h.code l.code mute = some
      ({ window := window.toNat, high := h, low := l, mute := decide (mute = 1) }, debounce.toNat) := by
  unfold laneSettingsOf
  rw [inRange_mem hwindow (by omega), inRange_mem hlow hhigh, pitchOf_code, pitchOf_code,
    boolOf_of_le (by omega)]

theorem laneSettingsOf_of_bad
    (h : ¬(10 ≤ window.toNat ∧ 5 ≤ debounce.toNat ∧ debounce.toNat ≤ 250 ∧ high.toNat < 4 ∧ low.toNat < 4 ∧
      mute.toNat < 2)) : laneSettingsOf window debounce high low mute = none := by
  unfold laneSettingsOf
  split
  · next hwindow hdebounce hhigh hlow hmute =>
    exact absurd ⟨(mem_of_inRange hwindow).1, (mem_of_inRange hdebounce).1, (mem_of_inRange hdebounce).2,
      lt_of_pitchOf hhigh, lt_of_pitchOf hlow, lt_of_boolOf hmute⟩ h
  · rfl

end

theorem laneSetBlock_badArg {ns : Option (List Lane)} {x : Option (LaneSettings × Nat)} (h : ns = none ∨ x = none)
    (s : State) : laneSetBlock ns x s = refuseWith s .badArg := by
  rcases h with rfl | rfl
  · rfl
  · cases ns <;> rfl

/-! ## Folds over lanes -/

/-- A fold over different lanes does to each of them what one round does to its own lane, where the rounds keep the
conditions `P` they work under. -/
theorem foldl_lanes {α : Type} {f : State → Lane → State} {view : State → Lane → α} {g : α → α} {P : State → Prop}
    (hP : ∀ s n, P s → P (f s n)) (hf : ∀ s n m, P s → view (f s n) m = if m = n then g (view s n) else view s m)
    {ns : List Lane} (hns : ns.Nodup) {s : State} (hs : P s) (m : Lane) :
    view (ns.foldl f s) m = if m ∈ ns then g (view s m) else view s m := by
  induction ns generalizing s with
  | nil => simp
  | cons n ns ih =>
    obtain ⟨hn, hns⟩ := List.nodup_cons.mp hns
    rw [List.foldl_cons, ih hns (hP s n hs), hf s n m hs]
    by_cases hm : m = n
    · subst hm
      simp [hn]
    · simp [hm]

/-! ## A settled input (R84) -/

/-- An input after its pending change has taken effect, where it has stood for the debounce time. -/
def Debounced.settled (now debounce : Nat) (d : Debounced) : Debounced := if d.due now debounce then d.settle else d

/-- An input waits while its pending change has not stood for the debounce time, or where it has none. -/
theorem Debounced.waits_iff (now debounce : Nat) (d : Debounced) :
    (∀ t, d.since = some t → now < t + debounce) ↔ d.due now debounce = false := by
  rw [← Bool.not_eq_true, Debounced.due_iff]
  simp

theorem Debounced.settled_spec (now debounce : Nat) (d : Debounced) :
    ((∀ t, d.since = some t → now < t + debounce) → d.settled now debounce = d) ∧
      (¬(∀ t, d.since = some t → now < t + debounce) →
        d.settled now debounce = { raw := d.raw, level := d.raw, since := none }) := by
  rw [Debounced.waits_iff, Bool.not_eq_false]
  exact ⟨fun h => if_neg (by simp [h]), fun h => if_pos h⟩

/-! ## The new settings at a lane (R100, R101) -/

theorem Tone.retune_eq (now : Nat) (x : LaneSettings) (w : Tone) :
    w.retune now x = if w.pattern = .twoLow ∧ now < w.start + 200 then
      { w with second := if x.mute then none else some x.low } else w := by
  unfold Tone.retune
  cases hp : w.pattern <;> simp

/-- A lane unit with new settings: they hold at once, and for a second low tone that has not started (R100; log 17). -/
def LaneUnit.takeSettings (now : Nat) (x : LaneSettings) (u : LaneUnit) : LaneUnit :=
  ({ u with settings := x, tone := u.tone.map (Tone.retune now x) } : LaneUnit).settleLamp now

@[simp] theorem LaneUnit.takeSettings_settings (now : Nat) (x : LaneSettings) (u : LaneUnit) :
    (u.takeSettings now x).settings = x := by
  simp [takeSettings]

@[simp] theorem LaneUnit.takeSettings_beam (now : Nat) (x : LaneSettings) (u : LaneUnit) :
    (u.takeSettings now x).beam = u.beam := by
  rw [takeSettings, settleLamp_beam]
  rfl

namespace State

theorem setLane_lane (s : State) (n m : Lane) (x : LaneSettings) :
    (s.setLane n x).lane m = if m = n then (s.lane n).takeSettings s.time.ms x else s.lane m :=
  withLane_lane s n m _

/-- The state of LANE SET with settings and debounce time taken, before pending inputs take effect. -/
def settingsTaken (s : State) (ns : List Lane) (x : LaneSettings) (d : Nat) : State :=
  { ns.foldl (fun s n => s.setLane n x) s with debounce := d }

theorem setLanes_eq (s : State) (ns : List Lane) (x : LaneSettings) (d : Nat) :
    s.setLanes ns x d = (s.settingsTaken ns x d).settleInputs.arbiter := rfl

theorem settingsTaken_frame (s : State) (ns : List Lane) (x : LaneSettings) (d : Nat) :
    (s.settingsTaken ns x d).table = s.table ∧ (s.settingsTaken ns x d).load = s.load ∧
      (s.settingsTaken ns x d).counts = s.counts ∧ (s.settingsTaken ns x d).adm = s.adm ∧
      (s.settingsTaken ns x d).refund = s.refund ∧ (s.settingsTaken ns x d).time = s.time ∧
      (s.settingsTaken ns x d).debounce = d := by
  have hkeeps : ∀ {α : Type} (g : State → α), (∀ t n, g (State.setLane t n x) = g t) →
      g (ns.foldl (fun t n => t.setLane n x) s) = g s := fun g h => foldl_keeps _ g h ns s
  exact ⟨hkeeps State.table fun _ _ => rfl, hkeeps State.load fun _ _ => rfl, hkeeps State.counts fun _ _ => rfl,
    hkeeps State.adm fun _ _ => rfl, hkeeps State.refund fun _ _ => rfl, hkeeps State.time fun _ _ => rfl, rfl⟩

/-- The lanes named take the settings, and the other lanes stay. -/
theorem settingsTaken_lane (s : State) {ns : List Lane} (hns : ns.Nodup) (x : LaneSettings) (d : Nat) (m : Lane) :
    (s.settingsTaken ns x d).lane m = if m ∈ ns then (s.lane m).takeSettings s.time.ms x else s.lane m :=
  foldl_lanes (f := fun t n => t.setLane n x) (view := State.lane) (g := LaneUnit.takeSettings s.time.ms x)
    (P := fun t => t.time.ms = s.time.ms)
    (fun _ _ ht => ht) (fun t n k ht => (t.setLane_lane n k x).trans (by rw [ht])) hns rfl m

/-- Of a lane named, LANE SET changes the settings and a second low tone that has not started; no lane changes else. -/
theorem settingsTaken_unit (s : State) {ns : List Lane} (hns : ns.Nodup) (x : LaneSettings) (d : Nat) (m : Lane) :
    ((s.settingsTaken ns x d).lane m).mode = (s.lane m).mode ∧
      ((s.settingsTaken ns x d).lane m).passage = (s.lane m).passage ∧
      ((s.settingsTaken ns x d).lane m).tracker = (s.lane m).tracker ∧
      ((s.settingsTaken ns x d).lane m).ctx = (s.lane m).ctx ∧
      ((s.settingsTaken ns x d).lane m).signal = (s.lane m).signal ∧
      ((s.settingsTaken ns x d).lane m).report = (s.lane m).report ∧
      ((s.settingsTaken ns x d).lane m).tone = (s.lane m).tone.map fun w =>
        if m ∈ ns ∧ w.pattern = .twoLow ∧ s.time.ms < w.start + 200 then
          { w with second := if x.mute then none else some x.low }
        else w := by
  rw [s.settingsTaken_lane hns]
  by_cases hm : m ∈ ns
  · simp [hm, LaneUnit.takeSettings, ← Tone.retune_eq]
  · simp [hm]

/-! ## Pending inputs take effect (R84; log 16) -/

theorem beamIfDue_beam (s : State) (n m : Lane) (b c : Beam) :
    ((s.beamIfDue n b).lane m).beam c =
      if m = n ∧ c = b then ((s.lane m).beam c).settled s.time.ms s.debounce else (s.lane m).beam c := by
  unfold beamIfDue
  by_cases hdue : ((s.lane n).beam b).due s.time.ms s.debounce = true
  · rw [if_pos hdue, beamChanged_beam]
    by_cases hsame : m = n ∧ c = b
    · obtain ⟨rfl, rfl⟩ := hsame
      simp [Debounced.settled, hdue]
    · rw [if_neg hsame, if_neg hsame]
  · rw [if_neg hdue]
    by_cases hsame : m = n ∧ c = b
    · obtain ⟨rfl, rfl⟩ := hsame
      simp [Debounced.settled, hdue]
    · rw [if_neg hsame]

/-- What a beam's change leaves: the settings of every lane, and BOARD. -/
theorem beamIfDue_keeps (s : State) (n : Lane) (b : Beam) :
    (∀ m, ((s.beamIfDue n b).lane m).settings = (s.lane m).settings) ∧ (s.beamIfDue n b).load.board = s.load.board := by
  have hchanged := s.beamChanged_inputs n b
  unfold beamIfDue
  split
  · refine ⟨fun m => (congrArg (fun i : Inputs => (i.lane m).settings) hchanged).trans ?_,
      congrArg Inputs.board hchanged⟩
    rw [inputs_lane]
    by_cases hm : m = n
    · subst hm
      rw [withLane_lane_same, LaneUnit.settleLamp_inputs]
      exact (s.lane m).settleBeam_settings b
    · rw [withLane_lane_other _ _ _ _ hm]
      rfl
  · exact ⟨fun _ => rfl, rfl⟩

/-- Both beams of a lane take effect where they are due. -/
def beamsIfDue (s : State) (n : Lane) : State := (s.beamIfDue n .enb).beamIfDue n .exb

theorem settleInputs_eq (s : State) : s.settleInputs = (Lane.all.foldl beamsIfDue s).boardIfDue := rfl

theorem beamsIfDue_beam (s : State) (n m : Lane) : ((s.beamsIfDue n).lane m).beam =
    if m = n then fun c => ((s.lane n).beam c).settled s.time.ms s.debounce else (s.lane m).beam := by
  funext c
  simp only [beamsIfDue, beamIfDue_beam, beamIfDue_frame]
  by_cases hm : m = n
  · subst hm
    cases c <;> simp
  · simp [hm]

theorem beamsIfDue_keeps (s : State) (n : Lane) :
    (s.beamsIfDue n).time = s.time ∧ (s.beamsIfDue n).debounce = s.debounce ∧
      (∀ m, ((s.beamsIfDue n).lane m).settings = (s.lane m).settings) ∧
      (s.beamsIfDue n).load.board = s.load.board :=
  ⟨by simp [beamsIfDue], by simp [beamsIfDue],
    fun m => ((beamIfDue_keeps _ n .exb).1 m).trans ((s.beamIfDue_keeps n .enb).1 m),
    (beamIfDue_keeps _ n .exb).2.trans (s.beamIfDue_keeps n .enb).2⟩

@[simp] theorem boardPulse_inputs (s : State) : s.boardPulse.inputs = s.inputs := by
  simp [boardPulse, occupancyDown]

/-- BOARD takes effect where it is due, and leaves beams and settings. -/
theorem boardIfDue_inputs (s : State) :
    s.boardIfDue.inputs = { s.inputs with board := s.load.board.settled s.time.ms s.debounce } := by
  unfold boardIfDue Debounced.settled
  split
  · unfold boardChanged
    dsimp only
    split
    · rw [boardPulse_inputs]
      rfl
    · rfl
  · rfl

/-- Every input takes effect where it is due; the settings stay. -/
theorem settleInputs_inputs (s : State) :
    (∀ m c, (s.settleInputs.lane m).beam c = ((s.lane m).beam c).settled s.time.ms s.debounce) ∧
      (∀ m, (s.settleInputs.lane m).settings = (s.lane m).settings) ∧
      s.settleInputs.load.board = s.load.board.settled s.time.ms s.debounce := by
  have hinputs := (Lane.all.foldl beamsIfDue s).boardIfDue_inputs
  have htime : (Lane.all.foldl beamsIfDue s).time = s.time :=
    foldl_keeps _ State.time (fun t n => (t.beamsIfDue_keeps n).1) _ s
  have hdebounce : (Lane.all.foldl beamsIfDue s).debounce = s.debounce :=
    foldl_keeps _ State.debounce (fun t n => (t.beamsIfDue_keeps n).2.1) _ s
  rw [settleInputs_eq]
  refine ⟨fun m c => ?_, fun m => ?_, ?_⟩
  · have hbeam : ((Lane.all.foldl beamsIfDue s).lane m).beam =
        fun c => ((s.lane m).beam c).settled s.time.ms s.debounce :=
      (foldl_lanes (view := fun t k => (t.lane k).beam) (g := fun y c => (y c).settled s.time.ms s.debounce)
        (P := fun t => t.time = s.time ∧ t.debounce = s.debounce)
        (fun t n ⟨ht, hd⟩ => ⟨(t.beamsIfDue_keeps n).1.trans ht, (t.beamsIfDue_keeps n).2.1.trans hd⟩)
        (fun t n k ⟨ht, hd⟩ => by rw [t.beamsIfDue_beam n k, ht, hd]) (by decide) ⟨rfl, rfl⟩ m).trans
        (if_pos (mem_lane_all m))
    exact (congrArg (fun i : Inputs => (i.lane m).beam c) hinputs).trans (congrFun hbeam c)
  · exact (congrArg (fun i : Inputs => (i.lane m).settings) hinputs).trans
      (foldl_keeps _ (fun t => (t.lane m).settings) (fun t n => (t.beamsIfDue_keeps n).2.2.1 m) _ s)
  · refine (congrArg Inputs.board hinputs).trans ?_
    rw [htime, hdebounce, show (Lane.all.foldl beamsIfDue s).load.board = s.load.board from
      foldl_keeps _ (fun t => t.load.board) (fun t n => (t.beamsIfDue_keeps n).2.2.2) _ s]

/-- Where every input waits, nothing takes effect. -/
theorem settleInputs_waiting {s : State} (hbeams : ∀ n b, ((s.lane n).beam b).due s.time.ms s.debounce = false)
    (hboard : s.load.board.due s.time.ms s.debounce = false) : s.settleInputs = s := by
  have hround : ∀ n, s.beamsIfDue n = s := fun n => by simp [beamsIfDue, beamIfDue, hbeams]
  rw [settleInputs_eq, show Lane.all.foldl beamsIfDue s = s by simp [Lane.all, hround]]
  simp [boardIfDue, hboard]

/-! ## The whole of LANE SET -/

section

variable {ns : List Lane} (hns : ns.Nodup) (s : State) (x : LaneSettings) (d : Nat)
include hns

/-- After LANE SET the lanes named have the settings, and every input has taken effect where it was due. -/
theorem setLanes_inputs :
    (∀ n, ((s.setLanes ns x d).lane n).settings = if n ∈ ns then x else (s.lane n).settings) ∧
      (∀ n b, ((s.setLanes ns x d).lane n).beam b = ((s.lane n).beam b).settled s.time.ms d) ∧
      (s.setLanes ns x d).load.board = s.load.board.settled s.time.ms d := by
  obtain ⟨hbeam, hsettings, hboard⟩ := (s.settingsTaken ns x d).settleInputs_inputs
  obtain ⟨_, hload, _, _, _, htime, hdebounce⟩ := s.settingsTaken_frame ns x d
  have hlane := s.settingsTaken_lane hns x d
  rw [setLanes_eq]
  refine ⟨fun n => ?_, fun n b => ?_, ?_⟩
  · rw [arbiter_lane, hsettings, hlane]
    split
    · exact LaneUnit.takeSettings_settings ..
    · rfl
  · have hsame : ((s.settingsTaken ns x d).lane n).beam = (s.lane n).beam := by
      rw [hlane]
      split
      · exact LaneUnit.takeSettings_beam ..
      · rfl
    rw [arbiter_lane, hbeam, hsame, htime, hdebounce]
  · rw [show (s.settingsTaken ns x d).settleInputs.arbiter.load = (s.settingsTaken ns x d).settleInputs.load by simp,
      hboard, hload, htime, hdebounce]

/-- Where no input is due, LANE SET changes the settings and the tones alone. -/
theorem setLanes_waiting (hbeams : ∀ n b, ((s.lane n).beam b).due s.time.ms d = false)
    (hboard : s.load.board.due s.time.ms d = false) : s.setLanes ns x d = (s.settingsTaken ns x d).arbiter := by
  obtain ⟨_, hload, _, _, _, htime, hdebounce⟩ := s.settingsTaken_frame ns x d
  have hbeam : ∀ n, ((s.settingsTaken ns x d).lane n).beam = (s.lane n).beam := fun n => by
    rw [s.settingsTaken_lane hns x d]
    split
    · exact LaneUnit.takeSettings_beam ..
    · rfl
  rw [setLanes_eq, settleInputs_waiting]
  · intro n b
    rw [hbeam, htime, hdebounce, hbeams]
  · rw [hload, htime, hdebounce, hboard]

end

end State

/-- Settles O18: the ranges of each order's fields, the settings at the lanes named, and the inputs that are due. -/
theorem laneLoadingAndRefundSettingsAreReplaced : Obligations.LaneLoadingAndRefundSettingsAreReplaced := by
  refine ⟨fun lane window debounce high low mute s hopen => ⟨fun hbad => ?_, fun h l hhigh hlow hok => ?_⟩,
    fun limit hold s hopen => ⟨fun hok => ?_, fun hbad => ?_⟩, fun hold s hopen => ⟨fun hok => ?_, fun hbad => ?_⟩⟩
  · refine takeOrder_answered hopen rfl (laneSetBlock_badArg ?_ _)
    by_cases hlane : lane = 0xFF ∨ lane.toNat < 4
    · exact .inr (laneSettingsOf_of_bad fun hrest => hbad ⟨hlane, hrest⟩)
    · exact .inl (lanesOf_none hlane)
  · subst hhigh hlow
    obtain ⟨hlane, hwindow, hmin, hmax, _, _, hmute⟩ := hok
    obtain ⟨ns, hns, hnodup, hmem, hreply⟩ := lanesOf_some hlane
    intro x d waits settled
    obtain ⟨hsettings, hbeam, hboard⟩ := State.setLanes_inputs hnodup (s.taken .sp) x d
    refine ⟨(s.taken .sp).setLanes ns x d, ?_, ?_, fun n => ?_, fun n b => ?_, ?_, fun hbeams hboards => ?_⟩
    · refine takeOrder_answered hopen rfl ?_
      rw [hns, laneSettingsOf_of_ok hwindow hmin hmax hmute, ← hreply x]
      rfl
    · rw [State.setLanes_eq]
      simp [State.settingsTaken]
    · rw [hsettings]
      simp only [hmem]
      rfl
    · rw [hbeam]
      exact Debounced.settled_spec s.time.ms d _
    · rw [hboard]
      exact Debounced.settled_spec s.time.ms d _
    · rw [State.setLanes_waiting hnodup (s.taken .sp) x d
        (fun n b => (Debounced.waits_iff _ _ _).mp (hbeams n b)) ((Debounced.waits_iff _ _ _).mp hboards)]
      obtain ⟨htable, hload, hcounts, hadm, hrefund, _, _⟩ := (s.taken .sp).settingsTaken_frame ns x d
      refine ⟨by simp [htable], by simp [hload], by simp [hcounts], by simp [hadm], by simp [hrefund], fun n => ?_⟩
      rw [State.arbiter_lane]
      simpa only [hmem, x, decide_eq_true_eq, State.taken_lane, State.taken_frame] using
        (s.taken .sp).settingsTaken_unit hnodup x d n
  · exact takeOrder_answered hopen rfl (if_pos hok)
  · exact takeOrder_answered hopen rfl (if_neg hbad)
  · exact takeOrder_answered hopen rfl (if_pos hok)
  · exact takeOrder_answered hopen rfl (if_neg hbad)

end Sys2Proof.Machine

/-! # The service step of the release queue (O37) -/

namespace Sys2Proof.Machine

/-! ## Room, and the place of a new entry (R109, R110) -/

theorem State.room_iff (s : State) :
    s.room = true ↔
      s.load.occupancy + s.load.live < s.load.limit ∧ s.load.liftStop = false ∧ s.supply.state = .run := by
  simp [State.room, and_assoc]

/-- A new entry parts a queue in service order: before it no higher class number, after it only higher ones. -/
theorem enqueue_parts (e : QueueEntry) {q : List QueueEntry} (h : q.Pairwise fun a b => a.cls ≤ b.cls) :
    ∃ before after, q = before ++ after ∧ enqueue e q = before ++ e :: after ∧ (∀ x ∈ before, x.cls ≤ e.cls) ∧
      ∀ x ∈ after, e.cls < x.cls := by
  induction q with
  | nil => exact ⟨[], [], rfl, rfl, nofun, nofun⟩
  | cons x q ih =>
    obtain ⟨hfirst, hrest⟩ := List.pairwise_cons.mp h
    by_cases hlt : e.cls < x.cls
    · refine ⟨[], x :: q, rfl, if_pos hlt, nofun, fun y hy => ?_⟩
      rcases List.mem_cons.mp hy with rfl | hy
      · exact hlt
      · exact Nat.lt_of_lt_of_le hlt (hfirst y hy)
    · obtain ⟨before, after, rfl, henqueued, hbefore, hafter⟩ := ih hrest
      refine ⟨x :: before, after, rfl, ?_, ?_, hafter⟩
      · rw [enqueue, if_neg hlt, henqueued, List.cons_append]
      · simpa using ⟨Nat.not_lt.mp hlt, hbefore⟩

/-! ## A grant from the queue (R78, R112) -/

namespace State

theorem grantHead_load (s : State) (n : Lane) :
    (s.grantHead n).load = { s.load with queue := s.load.queue.tail, live := s.load.live + 1 } := by
  simp [grantHead, (grant_lane_load _ n).2]

/-- The verdict record of a grant from the queue is formed from the context and the note before the grant, and shows
the passage state after it. -/
theorem grantHead_verdict (s : State) (n : Lane) :
    (s.grantHead n).adm.verdicts.get n = some
      { grantVerdict (s.ctxPass n) (s.note n) with
        seq := nextSeq (s.adm.verdicts.get n), passage := ((s.grantHead n).lane n).passage } := by
  simp [grantHead]

end State

theorem grantVerdict_fromQueue (pass : Option PassNo) (note : Note) :
    (grantVerdict pass note).flags.fromQueue = true := by
  unfold grantVerdict
  split <;> rfl

theorem grantVerdict_admitted {note : Note} {d : NoteData} (h : note.data = some d) (p : PassNo) :
    grantVerdict (some p) note =
      { seq := 0, kind := .admitted, pass := p, product := some d.product,
        remaining := daysRemaining d.days d.used d.flags.newDay, lastDay := some d.lastDay,
        flags := { d.flags with fromQueue := true }, cls := note.cls, passage := .idle } := by
  simp [grantVerdict, h]

theorem grantVerdict_manual (note : Note) : grantVerdict none note = manualVerdict .manual true := rfl

/-! ## The rounds of the service step (R112) -/

namespace State

/-- Whichever way the head is served, it leaves the queue, and no other entry comes in. -/
theorem serveHead_queue {s : State} {e : QueueEntry} {q : List QueueEntry} (h : s.load.queue = e :: q) :
    (s.serveHead e.lane).load.queue.Sublist q := by
  unfold serveHead
  split
  · simp [h]
  · rw [grantHead_load, h]
    exact List.Sublist.refl q

/-- More rounds than the queue has entries serve no further. -/
theorem serviceRounds_enough (j : Nat) : ∀ (k : Nat) (s : State), s.load.queue.length ≤ j →
    s.load.queue.length ≤ k → serviceRounds j s = serviceRounds k s := by
  induction j with
  | zero =>
    intro k s hj _
    have hempty : s.load.queue = [] := List.eq_nil_of_length_eq_zero (Nat.le_zero.mp hj)
    cases k with
    | zero => rfl
    | succ k => simp [serviceRounds, hempty]
  | succ j ih =>
    intro k s hj hk
    cases hqueue : s.load.queue with
    | nil => cases k <;> simp [serviceRounds, hqueue]
    | cons e q =>
      rw [hqueue, List.length_cons] at hj hk
      obtain ⟨k, rfl⟩ : ∃ i, k = i + 1 := ⟨k - 1, by omega⟩
      have hserved := (serveHead_queue hqueue).length_le
      have hrounds := ih k (s.serveHead e.lane) (by omega) (by omega)
      simp only [serviceRounds, hqueue, hrounds]

/-- While room exists, the service step serves the head and goes on from there. -/
theorem serviceStep_serves {s : State} {e : QueueEntry} {q : List QueueEntry} (hqueue : s.load.queue = e :: q)
    (hroom : s.room = true) : s.serviceStep = (s.serveHead e.lane).serviceStep := by
  have hserved := (serveHead_queue hqueue).length_le
  calc s.serviceStep = serviceRounds q.length (s.serveHead e.lane) := by
        simp [serviceStep, serviceRounds, hqueue, hroom]
    _ = (s.serveHead e.lane).serviceStep := serviceRounds_enough _ _ _ hserved (Nat.le_refl _)

/-- The service step, round by round: what holds where the step stops and is carried back over the serving of a head
holds of the step. -/
theorem serviceStep_induct {P : State → State → Prop} (stop : ∀ s, s.load.queue = [] ∨ s.room = false → P s s)
    (serve : ∀ s e q t, s.load.queue = e :: q → s.room = true → P (s.serveHead e.lane) t → P s t) (s : State) :
    P s s.serviceStep := by
  induction hlength : s.load.queue.length using Nat.strongRecOn generalizing s with
  | ind k ih =>
    cases hqueue : s.load.queue with
    | nil =>
      rw [s.serviceStep_empty hqueue]
      exact stop s (.inl hqueue)
    | cons e q =>
      cases hroom : s.room with
      | false =>
        rw [s.serviceStep_without_room hroom]
        exact stop s (.inr hroom)
      | true =>
        have hserved := (serveHead_queue hqueue).length_le
        rw [hqueue, List.length_cons] at hlength
        rw [serviceStep_serves hqueue hroom]
        exact serve s e q _ hqueue hroom (ih _ (by omega) _ rfl)

theorem serviceStep_done (s : State) : s.serviceStep.load.queue = [] ∨ s.serviceStep.room = false :=
  serviceStep_induct (P := fun _ t => t.load.queue = [] ∨ t.room = false) (fun _ h => h) (fun _ _ _ _ _ _ h => h) s

end State

/-- What service leaves of the loading area: the queue loses entries alone, occupancy and limit stay. -/
structure Loading.Served (l m : Loading) : Prop where
  queue : m.queue.Sublist l.queue
  occupancy : m.occupancy = l.occupancy
  limit : m.limit = l.limit

namespace Loading.Served

theorem refl (l : Loading) : l.Served l := ⟨.refl _, rfl, rfl⟩

theorem trans {l m k : Loading} (h : l.Served m) (h' : m.Served k) : l.Served k :=
  ⟨h'.queue.trans h.queue, h'.occupancy.trans h.occupancy, h'.limit.trans h.limit⟩

end Loading.Served

namespace State

theorem dropEntry_served (s : State) (n : Lane) (r : WithdrawReason) : s.load.Served (s.dropEntry n r).load := by
  rw [dropEntry_load]
  exact ⟨List.filter_sublist, rfl, rfl⟩

theorem serveHead_served (s : State) (n : Lane) : s.load.Served (s.serveHead n).load := by
  unfold serveHead
  split
  · exact s.dropEntry_served n _
  · rw [grantHead_load]
    exact ⟨List.tail_sublist _, rfl, rfl⟩

theorem serviceStep_served (s : State) : s.load.Served s.serviceStep.load :=
  serviceStep_induct (P := fun s t => s.load.Served t.load) (fun s _ => .refl s.load)
    (fun s e _ _ _ _ h => (s.serveHead_served e.lane).trans h) s

/-- Where nothing was handed over, the entries served leave from the front, and each is one live grant more. -/
theorem serviceStep_grants (s : State) : s.load.handed = [] →
    ∃ served, s.load.queue = served ++ s.serviceStep.load.queue ∧
      s.serviceStep.load.live = s.load.live + served.length := by
  refine serviceStep_induct (P := fun s t => s.load.handed = [] → ∃ served, s.load.queue = served ++ t.load.queue ∧
      t.load.live = s.load.live + served.length) (fun s _ _ => ⟨[], rfl, rfl⟩) (fun s e q t hqueue _ ih hhanded => ?_) s
  have hserved : (s.serveHead e.lane).load = { s.load with queue := q, live := s.load.live + 1 } := by
    rw [serveHead_granted _ _ (by simp [hhanded]), grantHead_load, hqueue, List.tail_cons]
  rw [hserved] at ih
  obtain ⟨served, hfront, hlive⟩ := ih hhanded
  refine ⟨e :: served, ?_, ?_⟩
  · rw [hqueue, show q = _ from hfront, List.cons_append]
  · rw [hlive, List.length_cons, Nat.add_right_comm, Nat.add_assoc]

/-- The first withdrawal handed over for the lane gives the reason. -/
theorem handedReason_first {s : State} {n : Lane} {earlier later : List Handed} {h : Handed}
    (hsplit : s.load.handed = earlier ++ h :: later) (hlane : h.lane = n) (hearlier : ∀ x ∈ earlier, x.lane ≠ n) :
    s.handedReason n = some h.reason := by
  have hnone : earlier.find? (fun x => x.lane == n) = none := by simpa using hearlier
  simp [handedReason, hsplit, hnone, hlane]

end State

/-- Settles O37: the place of a new entry, the verdict of a grant from the queue, and the service step by its rounds. -/
theorem queueIsServedWhileRoomLasts : Obligations.QueueIsServedWhileRoomLasts := by
  refine ⟨State.room_iff, fun e q h => enqueue_parts e h, fun n s => ?_, fun s => ?_⟩
  · refine ⟨_, s.grantHead_verdict n, rfl, rfl, grantVerdict_fromQueue _ _, s.grantHead_load n,
      fun p note d hpass hnote hdata => ?_, fun hpass => ?_⟩
    · have hsame : s.note n = note := by simp [State.note, hnote]
      rw [hpass, hsame, grantVerdict_admitted hdata]
      exact ⟨rfl, rfl, rfl, rfl, rfl, rfl, rfl⟩
    · rw [hpass, grantVerdict_manual]
      exact ⟨rfl, rfl, rfl, rfl⟩
  · refine ⟨s.serviceStep_done, s.serviceStep_without_room, fun e rest hqueue hroom hhanded => ?_,
      fun e rest earlier h later hqueue hroom hsplit hlane hearlier => ?_, s.serviceStep_grants,
      s.serviceStep_served.occupancy, s.serviceStep_served.limit, by simp⟩
    · exact (State.serviceStep_serves hqueue hroom).trans (by rw [State.serveHead_granted _ _ hhanded])
    · exact (State.serviceStep_serves hqueue hroom).trans
        (by rw [State.serveHead_withdrawn _ _ _ (State.handedReason_first hsplit hlane hearlier)])

end Sys2Proof.Machine

/-! # Withdrawals (O40) -/

namespace Sys2Proof.Machine
namespace State

/-! ## The withdrawal of an entry (R113) -/

/-- A withdrawn entry leaves its lane IDLE without a context, with the withdrawn signal, and is counted (R87, R99). -/
theorem dropEntry_effect (s : State) (n : Lane) (r : WithdrawReason) :
    ((s.dropEntry n r).lane n).passage = .idle ∧ ((s.dropEntry n r).lane n).ctx = none ∧
      ((s.dropEntry n r).lane n).signal = some { kind := .withdrawn, endAt := s.time.ms + 2000 } ∧
      ((s.dropEntry n r).counts.current.lanes.get n).withdrawals =
        min max32 ((s.counts.current.lanes.get n).withdrawals + 1) :=
  ⟨by simp [dropEntry], by simp [dropEntry], by simp [dropEntry, signalTime], by simp [dropEntry, addSat]⟩

/-! ## When a withdrawal is taken (R113, R114) -/

/-- The hold deadline of an entry of the lane is reached (log 15). -/
theorem holdDue_iff (s : State) (n : Lane) :
    s.holdDue n = true ↔ ∃ e ∈ s.load.queue, e.lane = n ∧ e.deadline ≤ s.time.ms := by
  simp [holdDue]

end State

theorem execHoldTimeout_running {s : State} (h : s.stopped = false) (n : Lane) :
    exec (.holdTimeout n) s =
      .next (if s.holdDue n = true then (s.withdraw n .holdTimeout).arbiter else s) :=
  congrArg Host.Outcome.next (State.running_of_not_stopped h _)

theorem execWithdrawalTaken_running {s : State} (h : s.stopped = false) (n : Lane) (r : WithdrawReason) :
    exec (.withdrawalTaken n r) s =
      .next (if s.load.handed.contains { lane := n, reason := r } = true then
        ((s.withLoad fun l => { l with handed := l.handed.erase { lane := n, reason := r } }).withdraw n r).arbiter
        else s) :=
  congrArg Host.Outcome.next (State.running_of_not_stopped h _)

/-- Settles O40, by what the withdrawal of an entry does, and by the two events that take one. -/
theorem withdrawalTakesTheEntryAway : Obligations.WithdrawalTakesTheEntryAway := by
  refine fun n r s => ⟨fun habsent => ?_, fun hqueued => ?_, fun hrunning => ⟨fun hdue => ?_, fun hearly => ?_,
    fun hhanded => ?_, fun hhanded => ?_⟩⟩
  · simp [State.withdraw, habsent]
  · obtain ⟨hpassage, hctx, hsignal, hcount⟩ := s.dropEntry_effect n r
    exact ⟨s.dropEntry n r, if_pos hqueued, hpassage, hctx, s.dropEntry_load n r, s.dropEntry_verdict n r, hsignal,
      hcount, fun m hm => s.dropEntry_lane_other n m r hm⟩
  · rw [execHoldTimeout_running hrunning, if_pos ((s.holdDue_iff n).mpr hdue)]
  · rw [execHoldTimeout_running hrunning, if_neg (mt (s.holdDue_iff n).mp hearly)]
  · rw [execWithdrawalTaken_running hrunning, if_pos (List.contains_iff_mem.mpr hhanded)]
  · rw [execWithdrawalTaken_running hrunning, if_neg (mt List.contains_iff_mem.mp hhanded)]

end Sys2Proof.Machine

/-! # BOARD and LIFT_STOP (O39) -/

namespace Sys2Proof.Machine
namespace State

/-! ## BOARD (R107) -/

/-- The state of a BOARD pulse before the service step. -/
def riderBoarded (s : State) : State :=
  (s.occupancyDown.countLift fun l =>
    { l with boarded := addSat max32 1 l.boarded
             excess := if s.load.occupancy == 0 then addSat max32 1 l.excess else l.excess }).withCounts fun c =>
    { c with openBin := { c.openBin with boarded := addSat max16 1 c.openBin.boarded } }

theorem boardPulse_eq (s : State) : s.boardPulse = s.riderBoarded.serviceStep := rfl

/-- A rider who boards leaves the area and is counted in the day and the open bin, with a boarding excess where the
area was empty; table and lanes stay. -/
theorem riderBoarded_effect (s : State) :
    s.riderBoarded.load = { s.load with occupancy := s.load.occupancy - 1 } ∧
      s.riderBoarded.counts.current.lift.boarded = min max32 (s.counts.current.lift.boarded + 1) ∧
      s.riderBoarded.counts.current.lift.excess =
        (if s.load.occupancy = 0 then min max32 (s.counts.current.lift.excess + 1)
        else s.counts.current.lift.excess) ∧
      s.riderBoarded.counts.openBin.boarded = min max16 (s.counts.openBin.boarded + 1) ∧
      s.riderBoarded.table = s.table ∧ s.riderBoarded.lanes = s.lanes :=
  ⟨rfl, rfl, by simp [riderBoarded, occupancyDown, addSat], rfl, rfl, rfl⟩

/-- BOARD with its level settled. -/
def boardSettled (s : State) : State := s.withLoad fun l => { l with board := s.load.board.settle }

/-- A BOARD level that becomes active is a pulse, and one that becomes inactive is no event. -/
theorem boardChanged_eq (s : State) :
    s.boardChanged = if s.load.board.raw = true then s.boardSettled.riderBoarded.serviceStep else s.boardSettled := rfl

end State

/-- BOARD PULSE where the change to active has stood for the debounce time. -/
theorem execBoardPulse_due {s : State} (hrunning : s.stopped = false) (hraw : s.load.board.raw = true)
    (hdue : s.load.board.due s.time.ms s.debounce = true) :
    exec .boardPulse s = .next s.boardSettled.riderBoarded.serviceStep.arbiter := by
  refine (congrArg Host.Outcome.next (State.running_of_not_stopped hrunning _)).trans ?_
  simp [hraw, hdue, State.boardChanged_eq]

/-- BOARD DEBOUNCED INACTIVE where the change to inactive has stood for the debounce time. -/
theorem execBoardDebouncedInactive_due {s : State} (hrunning : s.stopped = false) (hraw : s.load.board.raw = false)
    (hdue : s.load.board.due s.time.ms s.debounce = true) :
    exec .boardDebouncedInactive s = .next s.boardSettled := by
  refine (congrArg Host.Outcome.next (State.running_of_not_stopped hrunning _)).trans ?_
  simp [hraw, hdue, State.boardIfDue, State.boardChanged_eq]

theorem execBoardRawChange_running {s : State} (hrunning : s.stopped = false) (active : Bool) :
    exec (.boardRawChange active) s =
      .next (s.withLoad fun l => { l with board := s.load.board.rawChange s.time.ms active }) := by
  refine (congrArg Host.Outcome.next ?_ : exec (.boardRawChange active) s = _)
  simp [hrunning, State.withLoad]

/-! ## LIFT_STOP (R108) -/

/-- A LIFT_STOP level that is no end of a stop in a running part is taken, and no event follows (log 19). -/
theorem execLiftStop_quiet {s : State} {active : Bool}
    (h : s.stopped = true ∨ s.load.liftStop = active ∨ active = true) :
    exec (.liftStop active) s = .next (s.withLoad fun l => { l with liftStop := active }) := by
  refine congrArg Host.Outcome.next (if_pos ?_)
  simpa [or_assoc] using h

/-- The end of LIFT_STOP in a running part runs the service step. -/
theorem execLiftStop_ends {s : State} (hrunning : s.stopped = false) (h : s.load.liftStop = true) :
    exec (.liftStop false) s = .next (s.withLoad fun l => { l with liftStop := false }).serviceStep.arbiter := by
  refine congrArg Host.Outcome.next (if_neg ?_)
  simp [hrunning, h]

/-- Settles O39, by BOARD's raw change, pulse and rest, and by both changes of LIFT_STOP. -/
theorem boardAndLiftStopActOnTheArea : Obligations.BoardAndLiftStopActOnTheArea := by
  refine ⟨fun s hrunning => ⟨fun active hactive => ?_, fun t0 hsince hreached => ?_⟩,
    fun s => ⟨execLiftStop_quiet (.inr (.inr rfl)), execLiftStop_ends, fun hlevel => ?_⟩⟩
  · rw [execBoardRawChange_running hrunning, Debounced.rawChange_of_ne hactive]
    rfl
  · have hdue := (Debounced.due_iff _ _ _).mpr ⟨t0, hsince, hreached⟩
    refine ⟨fun hraw => ?_, fun hraw => ?_⟩
    · obtain ⟨hload, hcounted⟩ := s.boardSettled.riderBoarded_effect
      refine ⟨s.boardSettled.riderBoarded, execBoardPulse_due hrunning hraw hdue, ?_, hcounted⟩
      rw [hload, ← hraw]
      rfl
    · rw [execBoardDebouncedInactive_due hrunning hraw hdue, ← hraw]
      rfl
  · rw [execLiftStop_quiet (.inr (.inl hlevel)), ← hlevel]
    rfl

end Sys2Proof.Machine

/-! # O58: the queue's order, its waiting, and the supply

The queue laws rest on the loading area and the supply alone. Within an action the queue may for a moment wait although
room exists; what holds there too is `State.QueueSound`, and the service step makes the laws of it again. -/

namespace Sys2Proof.Machine

theorem enqueue_inOrder (e : QueueEntry) {q : List QueueEntry} (h : q.Pairwise fun a b => a.cls ≤ b.cls) :
    (enqueue e q).Pairwise fun a b => a.cls ≤ b.cls := by
  obtain ⟨before, after, rfl, henqueued, hbefore, hafter⟩ := enqueue_parts e h
  obtain ⟨hfront, hback, hacross⟩ := List.pairwise_append.mp h
  rw [henqueued, List.pairwise_append, List.pairwise_cons]
  refine ⟨hfront, ⟨fun x hx => Nat.le_of_lt (hafter x hx), hback⟩, fun x hx y hy => ?_⟩
  rcases List.mem_cons.mp hy with rfl | hy
  · exact hbefore x hx
  · exact hacross x hx y hy

/-! ## The laws, and what holds of them within an action -/

/-- The queue stands in service order, the limit lies in its range, and the supply state follows VMAIN. -/
structure State.QueueSound (s : State) : Prop where
  order : s.queueInOrder
  limit : s.load.limit ≤ 60
  supply : s.supplyAgrees

/-- A sound queue that waits, in a running part, only while room is absent (R111). -/
structure State.QueueLaws (s : State) : Prop extends State.QueueSound s where
  waits : s.stopped = false → s.load.queue = [] ∨ s.room = false

theorem State.queueLaws_iff (s : State) : s.QueueLaws ↔ s.queueInOrder ∧ s.queueWaits ∧ s.supplyAgrees :=
  ⟨fun h => ⟨h.order, ⟨h.limit, h.waits⟩, h.supply⟩,
    fun ⟨horder, ⟨hlimit, hwaits⟩, hsupply⟩ => ⟨⟨horder, hlimit, hsupply⟩, hwaits⟩⟩

namespace State.QueueSound

variable {s t : State}

/-- Entries may leave the queue. -/
theorem fewer (h : s.QueueSound) (hqueue : t.load.queue.Sublist s.load.queue) (hlimit : t.load.limit = s.load.limit)
    (hsupply : t.supply = s.supply) : t.QueueSound where
  order := h.order.sublist hqueue
  limit := hlimit ▸ h.limit
  supply := by rw [supplyAgrees, hsupply]; exact h.supply

theorem served (h : s.QueueSound) (hload : s.load.Served t.load) (hsupply : t.supply = s.supply) : t.QueueSound :=
  h.fewer hload.queue hload.limit hsupply

/-- The service step ends with an empty queue or without room (R112). -/
theorem serviceStep (h : s.QueueSound) : s.serviceStep.QueueLaws :=
  ⟨h.served s.serviceStep_served (by simp), fun _ => s.serviceStep_done⟩

/-- Outside RUN no room exists (R109). -/
theorem outside_run (h : s.QueueSound) (hstate : s.supply.state ≠ .run) : s.QueueLaws :=
  ⟨h, fun _ => .inr (by simp [room, hstate])⟩

theorem withdraw (h : s.QueueSound) (n : Lane) (r : WithdrawReason) : (s.withdraw n r).QueueSound := by
  unfold State.withdraw
  split
  · exact (h.served (s.dropEntry_served n r) (by simp)).serviceStep.toQueueSound
  · exact h

theorem withdrawAll (h : s.QueueSound) : s.withdrawAll.QueueSound :=
  Law.foldl (Q := State.QueueSound) (fun _ n ht => ht.withdraw n .lowSupply) _ h

end State.QueueSound

namespace State.QueueLaws

variable {s t : State}

/-- An operation that leaves queue, limit and supply, and makes no room. -/
theorem no_more_room (h : s.QueueLaws) (hqueue : t.load.queue = s.load.queue) (hlimit : t.load.limit = s.load.limit)
    (hsupply : t.supply = s.supply) (hroom : t.room = true → s.room = true) : t.QueueLaws where
  toQueueSound := h.fewer (hqueue ▸ List.Sublist.refl _) hlimit hsupply
  waits hrunning := by
    rw [stopped, hsupply] at hrunning
    rw [hqueue]
    refine (h.waits hrunning).imp_right fun hnone => ?_
    exact Bool.eq_false_iff.mpr fun ht => Bool.eq_false_iff.mp hnone (hroom ht)

/-- An operation that leaves loading area and supply, as its frame lemma says. -/
theorem same (h : s.QueueLaws) (hload : t.load = s.load) (hsupply : t.supply = s.supply) : t.QueueLaws :=
  h.no_more_room (by rw [hload]) (by rw [hload]) hsupply (by simp [room, hload, hsupply])

theorem arbiter (h : s.QueueLaws) : s.arbiter.QueueLaws := h.same (by simp) (by simp)

/-- A change of what was handed over alone. -/
theorem handed (h : s.QueueLaws) {l : List Handed} (hload : t.load = { s.load with handed := l })
    (hsupply : t.supply = s.supply) : t.QueueLaws :=
  h.no_more_room (by rw [hload]) (by rw [hload]) hsupply (by simp [room, hload, hsupply])

/-- A change of BOARD alone. -/
theorem board (h : s.QueueLaws) (d : Debounced) : (s.withLoad fun l => { l with board := d }).QueueLaws :=
  h.no_more_room rfl rfl rfl id

/-- A rider who enters the area, with or without a live grant, makes no room: an area that is full at its cap of 255
riders lies above every limit (R104). -/
theorem entered (h : s.QueueLaws) {live : Nat} (hlive : s.load.live ≤ live + 1)
    (hload : t.load = { s.load with occupancy := ridersAfter s.load.occupancy, live := live })
    (hsupply : t.supply = s.supply) : t.QueueLaws := by
  refine h.no_more_room (by rw [hload]) (by rw [hload]) hsupply fun hroom => ?_
  obtain ⟨hbelow, hstop, hrun⟩ := t.room_iff.mp hroom
  rw [hload] at hbelow hstop
  have hrange := h.limit
  refine s.room_iff.mpr ⟨?_, hstop, hsupply ▸ hrun⟩
  simp only [ridersAfter] at hbelow
  split at hbelow <;> omega

/-! ## The release queue (R111 to R114) -/

/-- A request is granted at once, or it waits behind others or for room. -/
theorem requestRelease (h : s.QueueLaws) (n : Lane) (p : PassNo) (cls : Nat) :
    (s.requestRelease n p cls).QueueLaws := by
  by_cases hfree : s.room = true ∧ s.load.queue = []
  · rw [requestRelease_of_room hfree.1 hfree.2]
    have hload := (s.grant_lane_load n).2
    exact ⟨h.fewer (by rw [hload]) (by rw [hload]) (by simp), fun _ => .inl (by rw [hload]; exact hfree.2)⟩
  · rw [requestRelease_of_wait hfree]
    refine ⟨⟨enqueue_inOrder _ h.order, h.limit, h.supply⟩, fun hrunning => .inr ?_⟩
    rcases h.waits hrunning with hempty | hfull
    · exact Bool.eq_false_iff.mpr fun hroom => hfree ⟨hroom, hempty⟩
    · exact hfull

theorem withdraw (h : s.QueueLaws) (n : Lane) (r : WithdrawReason) : (s.withdraw n r).QueueLaws := by
  unfold State.withdraw
  split
  · exact (h.served (s.dropEntry_served n r) (by simp)).serviceStep
  · exact h

/-! ## Card answers at a lane (R63 to R70) -/

theorem putVerdict (h : s.QueueLaws) (n : Lane) (v : Verdict) : (s.putVerdict n v).QueueLaws :=
  h.same (by simp) (by simp)

theorem seatPass (h : s.QueueLaws) (n : Lane) (c : Context) (note : Note) (p : PassNo) (cls : Nat) :
    (s.seatPass n c note p cls).QueueLaws := by
  have hseated : (s.seated n c note p).QueueLaws := h.same (by simp) (by simp [seated])
  exact hseated.requestRelease n p cls

theorem admitCard (h : s.QueueLaws) (n : Lane) (c : Card) (b : Basis) (rule : LaneRule) :
    (s.admitCard n c b rule).QueueLaws := by
  by_cases hrun : s.supply.state = .run
  · rw [admitCard_run hrun]
    exact (h.seatPass n _ _ c.pass rule.cls).putVerdict n _
  · rw [admitCard_not_run hrun]
    exact h.same (by simp [turnedAway]) (by simp [turnedAway])

theorem judge (h : s.QueueLaws) (n : Lane) (c : Card) (b : Basis) : (s.judge n c b).QueueLaws := by
  unfold State.judge
  split
  · exact h.same (by simp) (by simp)
  · dsimp only
    split
    · exact h.same (by simp) (by simp)
    · exact h.admitCard n c b _
    · exact h

theorem scanAnswer (h : s.QueueLaws) (n : Lane) (c : Card) : (s.scanAnswer n c).QueueLaws := by
  have hreached : (s.reachTable n c).1.QueueLaws := h.same (by simp) (by simp)
  unfold State.scanAnswer State.admission
  split
  · exact h
  · split
    · exact h.same (by simp) (by simp)
    · split
      · exact h.same (by simp) (by simp)
      · split
        · exact h.same (by simp) (by simp)
        · split
          · exact h.same (by simp) (by simp)
          · exact hreached.judge n c _

theorem endVisit (h : s.QueueLaws) : s.endVisit.QueueLaws := h.same (by simp) (by simp)

theorem readVisit (h : s.QueueLaws) (r : Reception) : (s.readVisit r).QueueLaws := by
  have hdelivered : ∀ (t : State) (v : CardVisit) (o : VisitOutcome) (frame : List Byte), t.QueueLaws →
      (t.deliverRead v o frame).QueueLaws := by
    intro t v o frame ht
    unfold State.deliverRead
    split
    · split
      · exact ht.scanAnswer _ _
      · exact ht
    · split
      · exact ht.same (by simp) (by simp)
      · exact ht.same (by simp) (by simp)
  unfold State.readVisit
  split
  · split
    · next v _ _ =>
      have houtcome : ∀ o, (s.applyOutcome v.position v.antenna o).QueueLaws := fun _ => h.same (by simp) (by simp)
      exact endVisit (hdelivered _ v _ _ (houtcome _))
    · exact h
  all_goals exact h

/-! ## Passages and inputs (R85 to R95, R107) -/

theorem expireGrant (h : s.QueueLaws) (n : Lane) : (s.expireGrant n).QueueLaws := by
  obtain ⟨_, _, hload, _⟩ := s.grantEnded_effect n
  rw [expireGrant_eq]
  exact (h.fewer (by rw [hload]) (by rw [hload]) (by simp [grantEnded])).serviceStep

theorem reversePassage (h : s.QueueLaws) (n : Lane) : (s.reversePassage n).QueueLaws := by
  obtain ⟨hload, _⟩ := s.riderReturned_effect n
  rw [reversePassage_eq]
  exact (h.fewer (by rw [hload]) (by rw [hload]) (by simp [riderReturned])).serviceStep

theorem completeGrant (h : s.QueueLaws) (n : Lane) : (s.completeGrant n).QueueLaws :=
  h.entered (by omega) (s.completeGrant_load n) (by simp)

theorem forwardPassage (h : s.QueueLaws) (n : Lane) : (s.forwardPassage n).QueueLaws := by
  by_cases hentering : (s.lane n).passage = .entering
  · rw [forwardPassage_completes hentering]
    exact h.completeGrant n
  · by_cases hfree : (s.lane n).mode = .free
    · rw [forwardPassage_free hentering hfree]
      exact h.entered (Nat.le_succ _) (by simp [freePassage]) (by simp)
    · rw [forwardPassage_intrudes hentering hfree]
      exact h.entered (Nat.le_succ _) (by simp [intrusion]) (by simp)

theorem backOut (h : s.QueueLaws) (n : Lane) : (s.backOut n).QueueLaws := by
  unfold State.backOut
  split
  · split
    · exact h.expireGrant n
    · exact h.same (by simp) (by simp)
  · exact h

theorem handOver (h : s.QueueLaws) (n : Lane) (x : HandOver) : (s.handOver n x).QueueLaws := by
  cases x with
  | entryBegun => exact h.same (s.entryBegun_frame n).2.2.2.2.1 (by simp)
  | exitBegun => exact h
  | forward => exact h.forwardPassage n
  | reverse => exact h.reversePassage n
  | cleared seen => cases seen with
    | true => exact h
    | false => exact h.backOut n
  | nothing => exact h

theorem beamChanged (h : s.QueueLaws) (n : Lane) (b : Beam) : (s.beamChanged n b).QueueLaws := by
  rw [beamChanged_eq]
  exact QueueLaws.handOver (h.same (by simp) (by simp)) n _

theorem beamIfDue (h : s.QueueLaws) (n : Lane) (b : Beam) : (s.beamIfDue n b).QueueLaws := by
  unfold State.beamIfDue
  split
  · exact h.beamChanged n b
  · exact h

theorem boardChanged (h : s.QueueLaws) : s.boardChanged.QueueLaws := by
  have hsettled : s.boardSettled.QueueLaws := h.board _
  obtain ⟨hload, _⟩ := s.boardSettled.riderBoarded_effect
  rw [boardChanged_eq]
  split
  · exact (hsettled.fewer (by rw [hload]) (by rw [hload]) (by simp [riderBoarded])).serviceStep
  · exact hsettled

theorem boardIfDue (h : s.QueueLaws) : s.boardIfDue.QueueLaws := by
  unfold State.boardIfDue
  split
  · exact h.boardChanged
  · exact h

theorem setLanes (h : s.QueueLaws) (ns : List Lane) (x : LaneSettings) (d : Nat) : (s.setLanes ns x d).QueueLaws := by
  have hset : (s.settingsTaken ns x d).QueueLaws :=
    h.same (s.settingsTaken_frame ns x d).2.1
      (foldl_keeps (fun t n => State.setLane t n x) State.supply (fun _ _ => by simp) ns s)
  rw [setLanes_eq, settleInputs_eq]
  exact (boardIfDue (Law.foldl (Q := State.QueueLaws)
    (fun t n ht => (ht.beamIfDue n .enb).beamIfDue n .exb) _ hset)).arbiter

end State.QueueLaws

/-! ## Orders and frames -/

/-- The taking of an order keeps what its block keeps, where the ports do not matter. -/
theorem takeOrder_holds {P : State → Prop} (hport : ∀ (t : State) p f, P t → P (t.withPort p f)) (p : Port)
    (code : Byte) (done : DoneNotice) (rights : Rights) {block : State → Answer}
    (hblock : ∀ t, P t → P (block t).state) {s : State} (h : P s) : P (takeOrder p code done rights block s) := by
  have hreply : ∀ (t : State) res body, P t → P (t.replyNow p code done res body) := by
    intro t res body ht
    unfold State.replyNow State.raiseBits
    cases done with
    | raised => exact hport _ _ _ (hport _ _ _ ht)
    | silent => exact hport _ _ _ ht
  cases hopen : s.portOpen p with
  | true =>
    have hanswered := hblock (s.taken p) (hport _ _ _ h)
    rw [takeOrder_open _ _ _ _ _ _ hopen]
    split
    · split
      · exact hreply _ _ _ hanswered
      · exact hport _ _ _ hanswered
    · exact hreply _ _ _ (hport _ _ _ h)
  | false =>
    cases hstop : s.stopped with
    | true => rwa [takeOrder_stopped _ _ _ _ _ _ hstop]
    | false =>
      cases hwait : (s.port p).awaitRelease with
      | true =>
        rw [takeOrder_awaiting _ _ _ _ _ _ hstop hwait]
        exact hport _ _ _ h
      | false =>
        cases hslot : (s.port p).slot with
        | inProgress c =>
          rw [takeOrder_busy _ _ _ _ _ _ _ hstop hwait hslot]
          exact hport _ _ _ h
        | empty => simp [State.portOpen, hstop, hwait, hslot] at hopen
        | ready r => simp [State.portOpen, hstop, hwait, hslot] at hopen

/-- A block on a pass may hand a withdrawal over, and changes nothing else of the loading area. -/
theorem editPass_load (p : PassNo) (st : Standing) (create : Bool) (s : State) :
    ∃ l, (editPass p st create s).state.load = { s.load with handed := l } := by
  have hhanded : ∀ t : State, ∃ l, (t.handBlocked p st).load = { t.load with handed := l } := fun t => by
    unfold State.handBlocked
    split
    · split
      · exact ⟨_, rfl⟩
      · exact ⟨_, rfl⟩
    all_goals exact ⟨_, rfl⟩
  unfold editPass
  split
  · exact ⟨_, rfl⟩
  · split
    · split
      · exact ⟨_, rfl⟩
      · exact hhanded _
    · split
      · exact ⟨_, rfl⟩
      · split
        · exact ⟨_, rfl⟩
        · exact hhanded _

namespace State.QueueLaws

variable {s t : State}

theorem takeOrder (h : s.QueueLaws) (p : Port) (code : Byte) (done : DoneNotice) (rights : Rights)
    {block : State → Answer} (hblock : ∀ t : State, t.QueueLaws → (block t).state.QueueLaws) :
    (takeOrder p code done rights block s).QueueLaws :=
  takeOrder_holds (fun _ _ _ ht => ht.same rfl rfl) p code done rights hblock h

theorem editPass (h : s.QueueLaws) (p : PassNo) (st : Standing) (create : Bool) :
    (editPass p st create s).state.QueueLaws := by
  obtain ⟨l, hload⟩ := editPass_load p st create s
  exact h.handed hload (by simp)

theorem laneModeBlock (h : s.QueueLaws) (station : Bool) (lane mode : Byte) :
    (laneModeBlock station lane mode s).state.QueueLaws := by
  unfold Machine.laneModeBlock
  split
  · next n m _ _ =>
    dsimp only
    split
    · exact h
    · obtain ⟨t, ht, _, hload, _⟩ := s.changeMode_eq n m station
      have hchanged : (s.changeMode n m station).load = t.load := by simp [ht]
      rw [← hchanged] at hload
      split at hload
      · exact h.handed hload (by simp)
      · exact h.same hload (by simp)
  · exact h

theorem manualGrantBlock (h : s.QueueLaws) (lane : Byte) : (manualGrantBlock lane s).state.QueueLaws := by
  unfold Machine.manualGrantBlock
  split
  · exact h
  · next n _ =>
    split
    · exact h
    · split
      · exact h
      · have hbegun : (s.manualBegun n).QueueLaws := h.same (by simp) (by simp [manualBegun])
        exact ((hbegun.requestRelease n 0 0).putVerdict n _).arbiter

/-- A new limit lies in its range, and the service step follows it (R116). -/
theorem loadingSetBlock (h : s.QueueLaws) (limit hold : Nat) : (loadingSetBlock limit hold s).state.QueueLaws := by
  unfold Machine.loadingSetBlock
  split
  · next hrange =>
    have hset : (s.withLoad fun l => { l with limit := limit, hold := hold }).QueueSound :=
      ⟨h.order, hrange.2.1, h.supply⟩
    exact hset.serviceStep.arbiter
  · exact h

theorem orderEffect (h : s.QueueLaws) (i : Instr) : (orderEffect i s).QueueLaws := by
  cases i with
  | passPut p pass state =>
    refine h.takeOrder _ _ _ _ fun t ht => ?_
    unfold passPutBlock
    split
    · exact ht.editPass _ _ _
    · exact ht
  | passBlock p pass => exact h.takeOrder _ _ _ _ fun t ht => ht.editPass _ _ _
  | passUnblock p pass => exact h.takeOrder _ _ _ _ fun t ht => ht.editPass _ _ _
  | laneMode p lane mode => exact h.takeOrder _ _ _ _ fun t ht => ht.laneModeBlock _ _ _
  | laneSet p lane window debounce high low mute =>
    refine h.takeOrder _ _ _ _ fun t ht => ?_
    unfold laneSetBlock
    split
    · exact ht.setLanes _ _ _
    · exact ht
  | manualGrant p lane => exact h.takeOrder _ _ _ _ fun t ht => ht.manualGrantBlock _
  | loadingSet p limit hold => exact h.takeOrder _ _ _ _ fun t ht => ht.loadingSetBlock _ _
  | _ => exact h.same (by simp [Machine.orderEffect]) (by simp)

theorem checkFrame (h : s.QueueLaws) (p : Port) (code : Byte) (bytes : List Byte) (insideByte : Bool) :
    (checkFrame p code bytes insideByte s).QueueLaws := by
  have hrefused : ∀ res, (s.refuseFrame p code res).QueueLaws := fun _ => h.same (by simp) (by simp)
  unfold Machine.checkFrame
  split
  · exact hrefused _
  · split
    · exact hrefused _
    · split
      · exact hrefused _
      · unfold orderEffectOf
        split
        · exact h.orderEffect _
        · exact h.same (by simp) (by simp)

theorem takeFrame (h : s.QueueLaws) (p : Port) (bytes : List Byte) (insideByte : Bool) :
    (s.takeFrame p bytes insideByte).QueueLaws := by
  have hport : ∀ f, (s.withPort p f).QueueLaws := fun _ => h.same rfl rfl
  unfold State.takeFrame
  split
  · exact hport _
  · split
    · split
      · exact hport _
      · exact h
    · split
      · exact h.same (by simp) (by simp)
      · exact h
    · split
      · exact hport _
      · split
        · exact hport _
        all_goals exact h.checkFrame _ _ _ _

end State.QueueLaws
end Sys2Proof.Machine

/-! ## The supply, and start-ups (R181 to R187) -/

namespace Sys2Proof.Machine

theorem State.stopped_iff (s : State) : s.stopped = true ↔ s.supply.state = .down ∨ s.supply.resetHeld = true := by
  simp [stopped]

/-- A queue in order that is withdrawn in LOW or DOWN has no room to wait for (R115). -/
theorem State.QueueSound.withdrawn {s : State} (h : s.QueueSound) (hstate : s.supply.state ≠ .run) :
    s.withdrawAll.QueueLaws :=
  h.withdrawAll.outside_run (by simpa using hstate)

/-- The monitor of a held part keeps the supply state after VMAIN, and does not leave DOWN (R181). -/
theorem Supply.monitorHeld_follows (u : Supply) :
    (u.monitorHeld.vmain = .belowRetention → u.monitorHeld.state = .down) ∧
      (u.state = .down → u.monitorHeld.state = .down) ∧ u.monitorHeld.resetHeld = u.resetHeld := by
  unfold Supply.monitorHeld
  cases hstate : u.state with
  | run =>
    by_cases hbelow : u.vmain = .belowRetention
    · simp [hbelow]
    · by_cases hsag : sagging u.vmain = true <;> simp [hbelow, hsag]
  | low => by_cases hbelow : u.vmain = .belowRetention <;> simp [hbelow]
  | down => exact ⟨fun _ => hstate, fun _ => hstate, rfl⟩

/-- A start-up empties the queue; the limit is the retained one or the cold one (R118, Table 10-2). -/
theorem State.startUp_area (s : State) (cause : StartCause) (selected : PerPort Bool) :
    (s.startUp cause selected).load.queue = [] ∧
      (s.startUp cause selected).load.limit = (if s.supply.checkValid then s.load.limit else 24) ∧
      (s.startUp cause selected).supply.vmain = s.supply.vmain := by
  cases hvalid : s.supply.checkValid <;>
    simp [startUp, hvalid, warmContent, coldContent, Loading.start, Supply.start]

namespace State.QueueLaws

variable {s t : State}

/-- A stopped part may let its queue wait (R183). -/
theorem of_stopped (h : s.QueueSound) (hstopped : s.stopped = true) : s.QueueLaws :=
  ⟨h, fun hrunning => nomatch hrunning.symm.trans hstopped⟩

/-- A change of the supply that leaves its state, VMAIN and RESET. -/
theorem supply_same (h : s.QueueLaws) (hload : t.load = s.load) (hstate : t.supply.state = s.supply.state)
    (hvmain : t.supply.vmain = s.supply.vmain) (hreset : t.supply.resetHeld = s.supply.resetHeld) : t.QueueLaws where
  order := by rw [queueInOrder, hload]; exact h.order
  limit := hload ▸ h.limit
  supply := by rw [supplyAgrees, hstate, hvmain]; exact h.supply
  waits := by
    rw [stopped, room, hload, hstate, hreset]
    exact h.waits

/-- The supply monitor makes the supply state follow VMAIN again, wherever VMAIN has moved (R181). -/
theorem monitorRunning (horder : s.queueInOrder) (hlimit : s.load.limit ≤ 60)
    (hwaits : s.stopped = false → s.load.queue = [] ∨ s.room = false) : s.monitorRunning.QueueLaws := by
  have hdown : s.enterDown.QueueLaws := QueueSound.withdrawn ⟨horder, hlimit, fun _ => rfl⟩ nofun
  unfold State.monitorRunning
  split
  · split
    · exact hdown
    · next hvmain =>
      split
      · exact QueueSound.withdrawn ⟨horder, hlimit, fun hbelow => absurd hbelow hvmain⟩ nofun
      · exact ⟨⟨horder, hlimit, fun hbelow => absurd hbelow hvmain⟩, hwaits⟩
  · split
    · exact hdown
    · next hvmain => exact ⟨⟨horder, hlimit, fun hbelow => absurd hbelow hvmain⟩, hwaits⟩
  · next hstate => exact ⟨⟨horder, hlimit, fun _ => hstate⟩, hwaits⟩

theorem vmainChange (h : s.QueueLaws) (band : VmainBand) : ∃ t, execVmainChange band s = .next t ∧ t.QueueLaws := by
  refine ⟨_, rfl, ?_⟩
  split
  · next hstop =>
    have hstopped := s.stopped_iff.mp hstop
    obtain ⟨hfollows, hdown, hreset⟩ := (s.supply.moveVmain band).monitorHeld_follows
    have hstill := hstopped.imp hdown hreset.trans
    exact of_stopped ⟨h.order, h.limit, hfollows⟩ ((stopped_iff _).mpr hstill)
  · exact monitorRunning h.order h.limit h.waits

/-- LOW to RUN: VMAIN stands above the retention threshold there, and the service step follows (R181, R182). -/
theorem enterRun (h : s.QueueLaws) (hdue : s.recoveryDue = true) : s.enterRun.QueueLaws := by
  have hlow : s.supply.state = .low := by
    simp only [recoveryDue, Bool.and_eq_true, beq_iff_eq] at hdue
    exact hdue.1
  have hvmain : s.supply.vmain ≠ .belowRetention := fun hbelow => nomatch hlow.symm.trans (h.supply hbelow)
  have hrun : ((s.withSupply fun u =>
      { u with state := .run, recovery := none, lastChange := some s.time.runSec }).raiseStation .supply).QueueSound :=
    ⟨h.order, h.limit, fun hbelow => absurd hbelow hvmain⟩
  exact hrun.serviceStep.arbiter

theorem startUp (hrange : s.load.limit ≤ 60) (hvmain : s.supply.vmain ≠ .belowRetention) (cause : StartCause)
    (selected : PerPort Bool) : (s.startUp cause selected).QueueLaws := by
  obtain ⟨hqueue, hlimit, hkept⟩ := s.startUp_area cause selected
  refine ⟨⟨?_, ?_, fun hbelow => absurd (hkept.symm.trans hbelow) hvmain⟩, fun _ => .inl hqueue⟩
  · rw [queueInOrder, hqueue]
    exact .nil
  · rw [hlimit]
    split <;> omega

/-- The release of RESET alone leaves a part without VMAIN in DOWN, and so stopped (R183, R185). -/
theorem startUpCommand (h : s.QueueLaws) (cause : StartCause) (selected : PerPort Bool) :
    ∃ t, execStartUp cause selected s = .next t ∧ t.QueueLaws := by
  refine ⟨_, rfl, ?_⟩
  cases cause with
  | power =>
    dsimp only
    split
    · next hready => exact startUp h.limit hready.2.2 _ _
    · exact h
  | reset =>
    dsimp only
    split
    · split
      · next hvmain => exact startUp (s := s.withSupply _) h.limit hvmain _ _
      · next hbelow =>
        have hdown : s.supply.state = .down := h.supply (not_not.mp hbelow)
        exact of_stopped ⟨h.order, h.limit, h.supply⟩ ((stopped_iff _).mpr (.inl hdown))
    · exact h

/-! ## Commands and steps -/

/-- LIFT_STOP takes the room away, and its end in a running part runs the service step (R108). -/
theorem liftStop (h : s.QueueLaws) (active : Bool) : ∃ t, exec (.liftStop active) s = .next t ∧ t.QueueLaws := by
  by_cases hquiet : s.stopped = true ∨ s.load.liftStop = active ∨ active = true
  · refine ⟨_, execLiftStop_quiet hquiet, ?_⟩
    rcases hquiet with hstopped | rfl | rfl
    · exact of_stopped ⟨h.order, h.limit, h.supply⟩ hstopped
    · exact h.same rfl rfl
    · exact h.no_more_room rfl rfl rfl (by simp [room])
  · have hsound : (s.withLoad fun l => { l with liftStop := false }).QueueSound := ⟨h.order, h.limit, h.supply⟩
    simp only [not_or, Bool.not_eq_true] at hquiet
    obtain ⟨hrunning, hlevel, rfl⟩ := hquiet
    exact ⟨_, execLiftStop_ends hrunning (Bool.eq_true_of_not_eq_false hlevel), hsound.serviceStep.arbiter⟩

theorem running (h : s.QueueLaws) {f : State → State} (hf : (f s).QueueLaws) : (s.running f).QueueLaws := by
  unfold State.running
  split
  · exact h
  · exact hf

/-- Every command ends, and keeps the queue laws. -/
theorem exec (h : s.QueueLaws) (i : Instr) : ∃ t, exec i s = .next t ∧ t.QueueLaws := by
  have event : ∀ f : State → State, Machine.exec i s = .next (s.running f) → (f s).QueueLaws →
      ∃ t, Machine.exec i s = .next t ∧ t.QueueLaws := fun _ hexec hf => ⟨_, hexec, h.running hf⟩
  have order : Machine.exec i s = .next (Machine.orderEffect i s) → ∃ t, Machine.exec i s = .next t ∧ t.QueueLaws :=
    fun hexec => ⟨_, hexec, h.orderEffect i⟩
  cases i with
  | orderFrame p bytes insideByte => exact event _ rfl (h.takeFrame p bytes insideByte)
  | readVisitCompletion r => exact event _ rfl (h.readVisit r)
  | stampAttemptCompletion r => exact event _ rfl (h.same (by simp) (by simp))
  | tuneCompletion i4 i12 => exact event _ rfl (h.same (by simp) (by simp))
  | beamRawChange n b broken => exact ⟨_, rfl, h.same rfl rfl⟩
  | beamDebouncedChange n b =>
    refine event _ rfl ?_
    split
    · exact (h.beamChanged n b).arbiter
    · exact h
  | boardRawChange active => exact ⟨_, rfl, h.board _⟩
  | boardPulse =>
    refine event _ rfl ?_
    split
    · exact h.boardChanged.arbiter
    · exact h
  | boardDebouncedInactive =>
    refine event _ rfl ?_
    split
    · exact h
    · exact h.boardIfDue
  | liftStop active => exact h.liftStop active
  | grantExpiry n =>
    refine event _ rfl ?_
    split
    · exact (h.expireGrant n).arbiter
    · exact h
  | holdTimeout n =>
    refine event _ rfl ?_
    split
    · exact (h.withdraw n _).arbiter
    · exact h
  | withdrawalTaken n r =>
    refine event _ rfl ?_
    dsimp only
    split
    · have hended : (s.withLoad fun l => { l with handed := l.handed.erase { lane := n, reason := r } }).QueueLaws :=
        h.handed rfl rfl
      exact (hended.withdraw n r).arbiter
    · exact h
  | vmainChange band => exact h.vmainChange band
  | recoveryTimer =>
    refine event _ rfl ?_
    split
    · next hdue => exact h.enterRun hdue
    · exact h
  | reset => exact ⟨_, rfl, of_stopped ⟨h.order, h.limit, h.supply⟩ ((stopped_iff _).mpr (.inr rfl))⟩
  | startUp cause selected => exact h.startUpCommand cause selected
  | vbakFailure =>
    refine ⟨_, rfl, ?_⟩
    split
    · exact h.supply_same rfl rfl rfl rfl
    · exact h
  | orderFrameDiscarded | fetchTransaction | fetchStatusFixed | repeatQuietDeadline | timedSignalEnd | tonePatternEnd
  | refundHoldExpiry | localSecondBoundary | runMinute | stpPulse | pulseWatchExpiry =>
    refine event _ rfl (h.same ?_ ?_) <;> (split <;> simp)
  | _ => exact order rfl

/-- A millisecond leaves the loading area, and of the supply its state, VMAIN and RESET (R155). -/
theorem tick (h : s.QueueLaws) : s.tick.QueueLaws := by
  have hsupply : s.tick.supply = s.supply.tick := by
    unfold State.tick
    dsimp only
    split <;> rfl
  have hkept : s.supply.tick.state = s.supply.state ∧ s.supply.tick.vmain = s.supply.vmain ∧
      s.supply.tick.resetHeld = s.supply.resetHeld := by
    unfold Supply.tick
    split <;> exact ⟨rfl, rfl, rfl⟩
  rw [← hsupply] at hkept
  exact h.supply_same (by simp) hkept.1 hkept.2.1 hkept.2.2

theorem step (h : s.QueueLaws) (hstep : step s = .next t) : t.QueueLaws := by
  have command : ∀ (i : Instr) (u : State), u.QueueLaws → Machine.exec i u = .next t → t.QueueLaws := by
    intro i u hu hi
    obtain ⟨t', ht', hlaws⟩ := hu.exec i
    rw [ht'] at hi
    cases hi
    exact hlaws
  unfold Machine.step at hstep
  split at hstep
  · next c rest _ => exact command c { s with pending := rest } (h.same rfl rfl) hstep
  · split at hstep
    · exact command _ s h hstep
    · cases hstep
      exact h.tick

end State.QueueLaws

/-- Settles O58: the three laws together pass through every step. -/
theorem everyStepKeepsTheQueueInOrder : Obligations.EveryStepKeepsTheQueueInOrder :=
  fun s t horder hwaits hsupply hstep =>
    t.queueLaws_iff.mp ((s.queueLaws_iff.mpr ⟨horder, hwaits, hsupply⟩).step hstep)

end Sys2Proof.Machine

/-! # COUNTS READ (O41) -/

namespace Sys2Proof.Machine

/-! ## Rights (R171) -/

/-- The lane and refusal parts have the rights of the lane they name. -/
theorem countsRights_lane_or_refusal (p : Port) {part : Byte} (h : part.toNat ≤ 1) (lane : Byte) :
    countsRights p part lane = ownLane p lane := by
  cases p with
  | sp => rfl
  | lp n => rcases Nat.le_one_iff_eq_zero_or_eq_one.mp h with hpart | hpart <;> simp [countsRights, hpart]

theorem countsRights_own {p : Port} {n : Lane} (hp : p = .sp ∨ p = .lp n) {part : Byte} (h : part.toNat ≤ 1) :
    countsRights p part (laneCode n) = true :=
  (countsRights_lane_or_refusal p h _).trans (ownLane_laneCode hp)

/-- An order that names no part passes to its block, which refuses it. -/
theorem countsRights_no_part (p : Port) {part : Byte} (h : 3 < part.toNat) (lane : Byte) :
    countsRights p part lane = true := by
  unfold countsRights
  split
  case h_1 | h_6 => rfl
  all_goals omega

/-! ## The set that the period names (R128) -/

theorem readSet_today (body : CountSet → Body) (s : State) :
    readSet false body s = answerOk s (body s.counts.current) := rfl

theorem readSet_previous {s : State} {c : CountSet} (h : s.counts.previous = some c) (body : CountSet → Body) :
    readSet true body s = answerOk s (body c) := by
  simp [readSet, Counts.setOf, h]

theorem readSet_no_previous {s : State} (h : s.counts.previous = none) (body : CountSet → Body) :
    readSet true body s = refuseWith s .notFound := by
  simp [readSet, Counts.setOf, h]

theorem binsBlock_read {start number : Nat} (h : start ≤ 59 ∧ 1 ≤ number ∧ number ≤ 6) (s : State) :
    binsBlock start number s =
      answerOk s (.bins s.counts.ring.length ((s.counts.ring.drop start).take number) s.counts.openBin) :=
  if_pos h

theorem binsBlock_badArg {start number : Nat} (h : ¬(start ≤ 59 ∧ 1 ≤ number ∧ number ≤ 6)) (s : State) :
    binsBlock start number s = refuseWith s .badArg :=
  if_neg h

/-! ## The block, part by part (R128) -/

section

variable {period : Byte} {prev : Bool} (hperiod : boolOf period = some prev) (start number : Nat) (s : State)
include hperiod

theorem countsReadBlock_lanePart {lane : Byte} {n : Lane} (hlane : laneOf lane = some n) :
    countsReadBlock period 0 lane start number s =
      readSet prev (fun c => .lanePart c.day (s.todaySet prev) (c.lanes.get n)) s := by
  simp [countsReadBlock, hperiod, hlane]

theorem countsReadBlock_refusalPart {lane : Byte} {n : Lane} (hlane : laneOf lane = some n) :
    countsReadBlock period 1 lane start number s =
      readSet prev (fun c => .refusalPart c.day (s.todaySet prev) (c.refusals.get n)) s := by
  simp [countsReadBlock, hperiod, hlane]

theorem countsReadBlock_liftPart (lane : Byte) :
    countsReadBlock period 2 lane start number s =
      readSet prev (fun c => .liftPart c.day (s.todaySet prev) c.lift) s := by
  simp [countsReadBlock, hperiod]

theorem countsReadBlock_bins (lane : Byte) :
    countsReadBlock period 3 lane start number s =
      if prev then refuseWith s .badArg else binsBlock start number s := by
  cases prev <;> simp [countsReadBlock, hperiod]

end

section

variable {period part lane : Byte} (start number : Nat) (s : State)

theorem countsReadBlock_no_period (h : 1 < period.toNat) :
    countsReadBlock period part lane start number s = refuseWith s .badArg := by
  simp [countsReadBlock, boolOf_of_gt h]

theorem countsReadBlock_no_part (h : 3 < part.toNat) :
    countsReadBlock period part lane start number s = refuseWith s .badArg := by
  unfold countsReadBlock
  split
  case h_5 => rfl
  all_goals omega

theorem countsReadBlock_no_lane (hpart : part.toNat ≤ 1) (h : laneOf lane = none) :
    countsReadBlock period part lane start number s = refuseWith s .badArg := by
  unfold countsReadBlock
  rw [h]
  split
  case h_1 | h_2 => contradiction
  case h_3 | h_4 => omega
  case h_5 => rfl

end

/-! ## The order -/

/-- The reads of the lane and refusal parts of a lane whose byte the port may name. -/
theorem countsRead_own_lane {p : Port} {n : Lane} (hp : p = .sp ∨ p = .lp n) (start number : Byte) {s : State}
    (h : s.portOpen p = true) {period part : Byte} (hpart : part.toNat ≤ 1) {res : Result} {body : Body}
    (hblock : countsReadBlock period part (laneCode n) start.toNat number.toNat (s.taken p) =
      ⟨s.taken p, some (res, body)⟩) :
    exec (.countsRead p period part (laneCode n) start number) s = .next ((s.taken p).answered p 0x61 res body) :=
  takeOrder_answered h (countsRights_own hp hpart) hblock

/-- Settles O41, part by part: the rights of the port, then the set that the period names. -/
theorem countsReadReturnsTheSet : Obligations.CountsReadReturnsTheSet := by
  have today : boolOf 0 = some false := rfl
  have previous : boolOf 1 = some true := rfl
  refine fun p n start number s h => ⟨fun hp => ?_, fun period part lane hbad => ?_, fun hsp lane => ?_⟩
  · have hlane := laneOf_laneCode n
    have own := fun {period part : Byte} => countsRead_own_lane hp start number h (period := period) (part := part)
    refine ⟨own (by decide) ((countsReadBlock_lanePart today _ _ _ hlane).trans (readSet_today _ _)),
      own (by decide) ((countsReadBlock_refusalPart today _ _ _ hlane).trans (readSet_today _ _)),
      fun c hc => ⟨own (by decide) ?_, own (by decide) ?_⟩, fun hnone => ⟨own (by decide) ?_, own (by decide) ?_⟩,
      fun period part hperiod hpart => own hpart (countsReadBlock_no_period _ _ _ hperiod)⟩
    · exact (countsReadBlock_lanePart previous _ _ _ hlane).trans (readSet_previous (s := s.taken p) hc _)
    · exact (countsReadBlock_refusalPart previous _ _ _ hlane).trans (readSet_previous (s := s.taken p) hc _)
    · exact (countsReadBlock_lanePart previous _ _ _ hlane).trans (readSet_no_previous (s := s.taken p) hnone _)
    · exact (countsReadBlock_refusalPart previous _ _ _ hlane).trans (readSet_no_previous (s := s.taken p) hnone _)
  · rcases hbad with hpart | ⟨hpart, hlane⟩
    · exact takeOrder_answered h (countsRights_no_part p hpart _) (countsReadBlock_no_part _ _ _ hpart)
    · have hnone := laneOf_of_gt hlane
      exact takeOrder_answered h ((countsRights_lane_or_refusal p hpart _).trans (ownLane_no_lane p hnone))
        (countsReadBlock_no_lane _ _ _ hpart hnone)
  · subst hsp
    refine ⟨takeOrder_answered h rfl ((countsReadBlock_liftPart today _ _ _ lane).trans (readSet_today _ _)),
      fun c hc => takeOrder_answered h rfl ?_, fun hnone => takeOrder_answered h rfl ?_,
      fun hin => takeOrder_answered h rfl ?_, fun hout => takeOrder_answered h rfl ?_,
      takeOrder_answered h rfl (countsReadBlock_bins previous _ _ _ lane),
      fun period part hperiod => takeOrder_answered h rfl (countsReadBlock_no_period _ _ _ hperiod)⟩
    · exact (countsReadBlock_liftPart previous _ _ _ lane).trans (readSet_previous (s := s.taken .sp) hc _)
    · exact (countsReadBlock_liftPart previous _ _ _ lane).trans (readSet_no_previous (s := s.taken .sp) hnone _)
    · exact (countsReadBlock_bins today _ _ _ lane).trans (binsBlock_read hin _)
    · exact (countsReadBlock_bins today _ _ _ lane).trans (binsBlock_badArg hout _)

end Sys2Proof.Machine

/-! # The journal orders (O47, O48) -/

namespace Sys2Proof.Machine

/-! ## JOURNAL READ (R150) -/

theorem journalReadBlock_read {n : Nat} (h : 1 ≤ n ∧ n ≤ 8) (s : State) : journalReadBlock n s =
    answerOk s (.journal s.refund.journal.length s.refund.nextSeq (s.refund.journal.take n)) := by
  unfold journalReadBlock
  rw [if_pos h]

theorem journalReadBlock_badArg {n : Nat} (h : ¬(1 ≤ n ∧ n ≤ 8)) (s : State) :
    journalReadBlock n s = refuseWith s .badArg := by
  unfold journalReadBlock
  rw [if_neg h]

/-- Settles O47, by the two cases of the count; the body's first four bytes are those before the entries. -/
theorem journalReadReturnsTheOldest : Obligations.JournalReadReturnsTheOldest :=
  fun _ s h => ⟨fun hn => takeOrder_answered h rfl (journalReadBlock_read hn (s.taken .sp)),
    fun hn => takeOrder_answered h rfl (journalReadBlock_badArg hn (s.taken .sp)), fun _ _ _ => rfl⟩

/-! ## JOURNAL REMOVE (R151) -/

theorem journalRemoveBlock_empty {s : State} (h : s.refund.journal = []) (seq : Nat) :
    journalRemoveBlock seq s = refuseWith s .notFound := by
  simp [journalRemoveBlock, h]

section

variable {s : State} {e : JournalEntry} {rest : List JournalEntry} (h : s.refund.journal = e :: rest) {seq : Nat}
include h

theorem journalRemoveBlock_badArg (hseq : e.seq ≠ seq) : journalRemoveBlock seq s = refuseWith s .badArg := by
  simp [journalRemoveBlock, h, hseq]

theorem journalRemoveBlock_pending (hseq : e.seq = seq) (hstatus : e.status = .pending) :
    journalRemoveBlock seq s = refuseWith s .state := by
  simp [journalRemoveBlock, h, hseq, hstatus]

theorem journalRemoveBlock_removed (hseq : e.seq = seq) (hstatus : e.status ≠ .pending) :
    journalRemoveBlock seq s =
      answerOk (s.withRefund fun r => { r with journal := rest }) (.remaining rest.length) := by
  simp [journalRemoveBlock, h, hseq, hstatus]

end

/-- A PENDING entry is the newest one, so the oldest is PENDING only where it is the only one (R148). -/
theorem RefundEngine.journalAgrees.eq_nil_of_pending {r : RefundEngine} (h : r.journalAgrees) {e : JournalEntry}
    {rest : List JournalEntry} (hj : r.journal = e :: rest) (he : e.status = .pending) : rest = [] := by
  obtain ⟨-, -, -, -, hpending⟩ := h
  rw [hj] at hpending
  cases hctx : r.ctx with
  | committing q n =>
    simp only [hctx] at hpending
    obtain ⟨older, newest, heq, -, -, hold⟩ := hpending
    cases older with
    | nil => exact (List.cons.inj heq).2
    | cons x older =>
      obtain ⟨rfl, -⟩ := List.cons.inj heq
      exact absurd he (hold e List.mem_cons_self)
  | idle | reading | quoted =>
    simp only [hctx] at hpending
    exact absurd he (hpending e List.mem_cons_self)

/-- Settles O48, by the cases of the oldest entry. -/
theorem journalRemoveTakesTheOldest : Obligations.JournalRemoveTakesTheOldest :=
  fun _ s h => ⟨fun hj => takeOrder_answered h rfl (journalRemoveBlock_empty (s := s.taken .sp) hj _),
    fun _ _ hj => ⟨fun hseq => takeOrder_answered h rfl (journalRemoveBlock_badArg (s := s.taken .sp) hj hseq),
      fun hseq hstatus => takeOrder_answered h rfl (journalRemoveBlock_pending (s := s.taken .sp) hj hseq hstatus),
      fun hseq hstatus => takeOrder_answered h rfl (journalRemoveBlock_removed (s := s.taken .sp) hj hseq hstatus),
      fun hagrees he => hagrees.eq_nil_of_pending hj he⟩⟩

end Sys2Proof.Machine

/-! # Numbers in frames, and the taking of a frame (R169, R170, R190) -/

namespace Sys2Proof.Machine

/-! ## Multi-byte numbers (R190) -/

theorem length_beBytes (k n : Nat) : (beBytes k n).length = k := by
  induction k with
  | zero => rfl
  | succ k ih => rw [beBytes, List.length_cons, ih]

/-- Bytes after a number add their places to it. -/
theorem beNat_foldl (bytes : List Byte) (acc : Nat) :
    bytes.foldl (fun acc b => acc * 256 + b.toNat) acc = acc * 256 ^ bytes.length + beNat bytes := by
  unfold beNat
  induction bytes generalizing acc with
  | nil => simp
  | cons b bytes ih =>
    rw [List.foldl_cons, List.foldl_cons, ih, ih (0 * 256 + b.toNat), List.length_cons, pow_succ]
    ring

theorem beNat_beBytes (k n : Nat) : beNat (beBytes k n) = n % 256 ^ k := by
  induction k with
  | zero => simp [beBytes, beNat, Nat.mod_one]
  | succ k ih =>
    have hcons : beNat (beBytes (k + 1) n) = (n / 256 ^ k % 256) * 256 ^ k + beNat (beBytes k n) := by
      have h := beNat_foldl (beBytes k n) (0 * 256 + (BitVec.ofNat 8 (n / 256 ^ k)).toNat)
      rw [length_beBytes] at h
      simpa [beNat, beBytes] using h
    rw [hcons, ih, pow_succ, Nat.mod_mul]
    ring

theorem beNat_beBytes_toNat {k w : Nat} (hw : w = 8 * k) (x : BitVec w) : beNat (beBytes k x.toNat) = x.toNat := by
  rw [beNat_beBytes, Nat.mod_eq_of_lt]
  calc x.toNat < 2 ^ w := x.isLt
    _ = 256 ^ k := by rw [hw, pow_mul]; norm_num

/-- Blocks of `k` bytes in a row: the block at place `i`. -/
theorem drop_take_flatten {α β : Type} {f : α → List β} {k : Nat} (hf : ∀ x, (f x).length = k) (l : List α) (i : Nat)
    (hi : i < l.length) : ((l.map f).flatten.drop (k * i)).take k = f l[i] := by
  induction l generalizing i with
  | nil => exact absurd hi (Nat.not_lt_zero i)
  | cons x l ih =>
    rw [List.map_cons, List.flatten_cons]
    cases i with
    | zero => rw [Nat.mul_zero, List.drop_zero, List.take_left' (hf x)]; rfl
    | succ i =>
      rw [Nat.mul_succ, Nat.add_comm, ← List.drop_drop, List.drop_left' (hf x), ih i (Nat.lt_of_succ_lt_succ hi)]
      rfl

/-- A number of a frame, between the bytes before it and the bytes after it. -/
theorem field_append {before after : List Byte} {n k w : Nat} (hn : before.length = n) (hw : w = 8 * k)
    (x : BitVec w) : field (before ++ (beBytes k x.toNat ++ after)) n k = x.toNat := by
  unfold field
  rw [List.drop_left' hn, List.take_left' (length_beBytes k _), beNat_beBytes_toNat hw]

/-- The list prices of a TARIFF PUT body stand behind its part byte and product, three bytes each (R191). -/
theorem pricesAt_body {k : Nat} {head after : List Byte} (hhead : head.length = 3) (prices : Vector (BitVec 24) k) :
    pricesAt k (head ++ ((prices.toList.map fun x => beBytes 3 x.toNat).flatten ++ after)) = prices := by
  ext i hi
  have hlen : (prices.toList.map fun x => beBytes 3 x.toNat).flatten.length = 3 * k := by
    simp [List.length_flatten, length_beBytes, Function.comp_def, Nat.mul_comm]
  have hblock := drop_take_flatten (f := fun x : BitVec 24 => beBytes 3 x.toNat) (fun x => length_beBytes 3 _)
    prices.toList i (by simpa using hi)
  have hfield : field (head ++ ((prices.toList.map fun x => beBytes 3 x.toNat).flatten ++ after)) (3 + 3 * i) 3 =
      prices[i].toNat := by
    unfold field
    rw [← List.drop_drop, List.drop_left' hhead, List.drop_append_of_le_length (by omega),
      List.take_append_of_le_length (by rw [List.length_drop]; omega), hblock, beNat_beBytes_toNat rfl]
    simp
  simp [pricesAt, tripleAt, hfield]

/-! ## The check of a well-formed frame (R169) -/

section

variable {code : Byte} {body : List Byte} (hlong : body.length ≤ 56)
include hlong

theorem statedLength_frameOf : statedLength (frameOf code body) = body.length := by
  simp [statedLength, byteAt, frameOf]
  omega

theorem malformed_frameOf : malformed (frameOf code body) false = false := by
  have hstated := statedLength_frameOf (code := code) hlong
  have hlength : (frameOf code body).length = body.length + 3 := by simp [frameOf]
  have hcheck : (frameOf code body).getLast? = some (crc8 (frameOf code body).dropLast) := by
    unfold frameOf
    rw [List.getLast?_concat, List.dropLast_concat]
  unfold malformed
  rw [hstated, hlength, hcheck]
  simp [hlong]

theorem checkFrame_frameOf (hlength : orderLength code = some body.length) (p : Port) (s : State) :
    checkFrame p code (frameOf code body) false s = orderEffectOf p code body s := by
  have hbody : ((frameOf code body).drop 2).take body.length = body := by simp [frameOf]
  unfold checkFrame
  rw [malformed_frameOf hlong, if_neg Bool.false_ne_true]
  simp only [hlength, statedLength_frameOf hlong, hbody, ne_eq, not_true_eq_false, if_false]

/-- A well-formed frame whose order takes the port as `takeOrder` does acts as that taking in every state (R167, R169,
R170). -/
theorem exec_frameOf (hfetch : code ≠ 0xF0#8) (hlength : orderLength code = some body.length) {p : Port}
    {done : DoneNotice} {rights : Rights} {block : State → Answer}
    (heffect : ∀ t, orderEffectOf p code body t = takeOrder p code done rights block t) (s : State) :
    exec (.orderFrame p (frameOf code body) false) s = .next (takeOrder p code done rights block s) := by
  change Host.Outcome.next (s.running fun s => s.takeFrame p (frameOf code body) false) = _
  have hcons : frameOf code body =
      code :: (BitVec.ofNat 8 body.length :: body ++ [crc8 (code :: BitVec.ofNat 8 body.length :: body)]) := rfl
  have hcheck := checkFrame_frameOf hlong hlength p s
  unfold State.running
  cases hstopped : s.stopped with
  | true => rw [takeOrder_stopped _ _ _ _ _ _ hstopped]; rfl
  | false =>
    cases hawait : (s.port p).awaitRelease with
    | true => simp [State.takeFrame, hawait, takeOrder_awaiting _ _ _ _ _ _ hstopped hawait]
    | false =>
      rw [hcons] at hcheck ⊢
      cases hslot : (s.port p).slot with
      | inProgress c =>
        rw [takeOrder_busy _ _ _ _ _ _ _ hstopped hawait hslot]
        simp only [State.takeFrame, hawait, hslot, Bool.false_eq_true, if_false, hfetch]
      | empty | ready _ =>
        simp only [State.takeFrame, hawait, hslot, Bool.false_eq_true, if_false, hfetch, hcheck, heffect]

end

end Sys2Proof.Machine

/-! # The tariff orders (O43) -/

namespace Sys2Proof.Machine

/-! ## The checks of a set (R131) -/

theorem notFalling_iff (l : List Nat) :
    notFalling l = true ↔ ∀ (k x y : Nat), l[k]? = some x → l[k + 1]? = some y → x ≤ y := by
  induction l with
  | nil => simp [notFalling]
  | cons a l ih =>
    cases l with
    | nil => simp [notFalling]
    | cons b l =>
      rw [notFalling, Bool.and_eq_true, decide_eq_true_eq, ih]
      constructor
      · rintro ⟨hab, hl⟩ (_ | k) x y hx hy
        · obtain ⟨rfl, rfl⟩ : a = x ∧ b = y := by simpa using And.intro hx hy
          exact hab
        · exact hl k x y hx hy
      · exact fun h => ⟨h 0 a b rfl rfl, fun k => h (k + 1)⟩

theorem headD_pos_iff (l : List Nat) : 0 < l.headD 0 ↔ ∃ x, l[0]? = some x ∧ 0 < x := by
  cases l <;> simp

theorem Tariff.valid_iff (t : Tariff) : t.valid = true ↔
    t.product ≤ 4095 ∧ (∀ x ∈ t.prices, x ≤ 1048575) ∧ (∃ x, t.prices[0]? = some x ∧ 0 < x) ∧
      (∀ (k x y : Nat), t.prices[k]? = some x → t.prices[k + 1]? = some y → x ≤ y) ∧ t.fee ≤ 65535 ∧ t.minDays ≤ 21 ∧
      t.unit ∈ [1, 2, 5, 10, 20, 50, 100, 200, 500] ∧ t.minRefund ≤ 65535 ∧ t.claim ≤ 30 := by
  have hunits : roundingUnits = [1, 2, 5, 10, 20, 50, 100, 200, 500] := rfl
  simp only [Tariff.valid, Bool.and_eq_true, decide_eq_true_eq, List.all_eq_true, notFalling_iff, headD_pos_iff,
    List.contains_iff_mem, hunits, and_assoc]

/-! ## The list of sets (R131) -/

section

variable {ts : List Tariff} {t : Tariff}

theorem putTariff_replaced (h : ∃ x ∈ ts, x.product = t.product) :
    putTariff ts t = some (ts.map fun x => if x.product = t.product then t else x) := by
  unfold putTariff
  exact if_pos (by simpa using h)

theorem putTariff_new (h : ∀ x ∈ ts, x.product ≠ t.product) :
    putTariff ts t = if ts.length < 32 then some (ts ++ [t]) else none := by
  unfold putTariff
  exact if_neg (by simpa using h)

end

/-! ## TARIFF PUT, part 1 (R191) -/

section

variable {product : BitVec 16} {first : Vector (BitVec 24) 11} {fee : BitVec 16} {minDays : Byte}
  {unit minRefund : BitVec 16} {claim refundable : Byte}

theorem stagingOf_of_le (h : refundable.toNat ≤ 1) :
    stagingOf product first fee minDays unit minRefund claim refundable =
      some { product := product.toNat, prices := first.toList.map (·.toNat), fee := fee.toNat,
             minDays := minDays.toNat, unit := unit.toNat, minRefund := minRefund.toNat, claim := claim.toNat,
             refundable := decide (refundable = 1) } := by
  rw [stagingOf, boolOf_of_le h, Option.map_some]

theorem stagingOf_of_gt (h : 1 < refundable.toNat) :
    stagingOf product first fee minDays unit minRefund claim refundable = none := by
  rw [stagingOf, boolOf_of_gt h, Option.map_none]

end

theorem tariffPart1Block_valid {t : Staging} (h : t.valid = true) (s : State) : tariffPart1Block (some t) s =
    answerOk (s.withRefund fun r => { r with staging := some t }) .none := by
  simp [tariffPart1Block, h]

theorem tariffPart1Block_invalid {t : Staging} (h : ¬t.valid = true) (s : State) : tariffPart1Block (some t) s =
    refuseWith (s.withRefund fun r => { r with staging := none }) .badArg := by
  simp [tariffPart1Block, h]

/-! ## TARIFF PUT, part 2 (R191) -/

theorem tariffPart2Block_unstaged {s : State} (h : s.refund.staging = none) (product : Nat) (prices : List Nat) :
    tariffPart2Block product prices s = refuseWith s .state := by
  simp [tariffPart2Block, h]

section

variable {s : State} {st : Staging} (h : s.refund.staging = some st) {product : Nat} {prices : List Nat}
include h

theorem tariffPart2Block_other (hproduct : st.product ≠ product) :
    tariffPart2Block product prices s = refuseWith s .state := by
  simp [tariffPart2Block, h, hproduct]

variable (hproduct : st.product = product)
include hproduct

theorem tariffPart2Block_invalid (hvalid : { st with prices := st.prices ++ prices : Tariff }.valid = false) :
    tariffPart2Block product prices s =
      refuseWith (s.withRefund fun r => { r with staging := none }) .badArg := by
  subst hproduct
  simp [tariffPart2Block, h, hvalid]

variable (hvalid : { st with prices := st.prices ++ prices : Tariff }.valid = true)
include hvalid

theorem tariffPart2Block_full (hput : putTariff s.refund.tariffs { st with prices := st.prices ++ prices } = none) :
    tariffPart2Block product prices s =
      refuseWith (s.withRefund fun r => { r with staging := none }) .tableFull := by
  subst hproduct
  simp [tariffPart2Block, h, hvalid, hput]

theorem tariffPart2Block_put {ts : List Tariff}
    (hput : putTariff s.refund.tariffs { st with prices := st.prices ++ prices } = some ts) :
    tariffPart2Block product prices s =
      answerOk (s.withRefund fun r => { r with staging := none, tariffs := ts }) .none := by
  subst hproduct
  simp [tariffPart2Block, h, hvalid, hput]
  rfl

end

/-! ## TARIFF PUT frames (R171, R191) -/

theorem orderOf_tariffPut (p : Port) (body : List Byte) : orderOf p 0x71 body = tariffPutOf p body := rfl

/-- A part 2 body carries its product and prices, whatever stands behind them. -/
theorem tariffPutOf_part2 (p : Port) (product : BitVec 16) (prices : Vector (BitVec 24) 10) (after : List Byte) :
    tariffPutOf p ([2] ++ beBytes 2 product.toNat ++ (prices.toList.map fun x => beBytes 3 x.toNat).flatten ++ after) =
      some (.tariffPutPart2 p product prices) := by
  have hproduct := field_append (before := [2]) (after := (prices.toList.map fun x => beBytes 3 x.toNat).flatten ++ after)
    (n := 1) (k := 2) rfl rfl product
  have hprices := pricesAt_body (head := [2] ++ beBytes 2 product.toNat) (after := after)
    (by simp [length_beBytes]) prices
  simp only [List.append_assoc] at hprices ⊢
  unfold tariffPutOf wordAt
  rw [hproduct, hprices]
  simp [byteAt]

/-- A body whose part byte is neither 1 nor 2 carries no order. -/
theorem tariffPutOf_other (p : Port) {part : Byte} (h1 : part ≠ 1) (h2 : part ≠ 2) (rest : List Byte) :
    tariffPutOf p (part :: rest) = none := by
  unfold tariffPutOf
  have hpart : byteAt (part :: rest) 0 = part := rfl
  rw [hpart]
  split
  · next h => exact absurd (BitVec.eq_of_toNat_eq h) h1
  · next h => exact absurd (BitVec.eq_of_toNat_eq h) h2
  · rfl

theorem exec_tariffPart2_frame (p : Port) (product : BitVec 16) (prices : Vector (BitVec 24) 10) {ignored : List Byte}
    (h : ignored.length = 12) (s : State) :
    exec (.orderFrame p (frameOf 0x71 ([2] ++ beBytes 2 product.toNat ++
      (prices.toList.map fun x => beBytes 3 x.toNat).flatten ++ ignored)) false) s =
        exec (.tariffPutPart2 p product prices) s := by
  have hlength : ([2] ++ beBytes 2 product.toNat ++
      (prices.toList.map fun x : BitVec 24 => beBytes 3 x.toNat).flatten ++ ignored).length = 45 := by
    simp [List.length_flatten, length_beBytes, Function.comp_def, h]
  refine exec_frameOf (by omega) (by decide) (by rw [hlength]; rfl) (fun t => ?_) s
  simp only [orderEffectOf, orderOf_tariffPut, tariffPutOf_part2]
  rfl

theorem exec_tariffOther_frame (p : Port) {part : Byte} (h1 : part ≠ 1) (h2 : part ≠ 2) {rest : List Byte}
    (h : rest.length = 44) (s : State) :
    exec (.orderFrame p (frameOf 0x71 (part :: rest)) false) s = .next (orderTariffPutOther p s) := by
  have hlength : (part :: rest).length = 45 := by rw [List.length_cons, h]
  refine exec_frameOf (by omega) (by decide) (by rw [hlength]; rfl) (fun t => ?_) s
  simp only [orderEffectOf, orderOf_tariffPut, tariffPutOf_other p h1 h2]
  rfl

/-! ## TARIFF QUERY, TARIFF ERASE (R132) -/

/-- The answer to a look for a set: the set with the number held, or NOT_FOUND. -/
def tariffFound (s : State) : Option Tariff → Answer
  | some t => answerOk s (.tariff s.refund.tariffs.length t)
  | none => refuseWith s .notFound

theorem tariffQueryBlock_product {s : State} {v : Nat} (h : v ≤ 4095) {o : Option Tariff}
    (ho : findTariff s.refund.tariffs v = o) : tariffQueryBlock 0 v s = tariffFound s o :=
  (if_neg (Nat.not_lt.mpr h)).trans (congrArg (tariffFound s) ho)

theorem tariffQueryBlock_no_product {v : Nat} (h : 4095 < v) (s : State) :
    tariffQueryBlock 0 v s = refuseWith s .badArg := if_pos h

theorem tariffQueryBlock_position {s : State} {v : Nat} (h : v ≤ 31) {o : Option Tariff}
    (ho : s.refund.tariffs[v]? = o) : tariffQueryBlock 1 v s = tariffFound s o :=
  (if_neg (Nat.not_lt.mpr h)).trans (congrArg (tariffFound s) ho)

theorem tariffQueryBlock_no_position {v : Nat} (h : 31 < v) (s : State) :
    tariffQueryBlock 1 v s = refuseWith s .badArg := if_pos h

theorem tariffQueryBlock_badArg {sel : Byte} (h : 1 < sel.toNat) (v : Nat) (s : State) :
    tariffQueryBlock sel v s = refuseWith s .badArg := by
  unfold tariffQueryBlock
  split
  · omega
  · omega
  · rfl

theorem tariffEraseBlock_badArg {v : Nat} (h : 4095 < v) (s : State) : tariffEraseBlock v s = refuseWith s .badArg := by
  unfold tariffEraseBlock
  exact if_pos h

theorem tariffEraseBlock_absent {s : State} {v : Nat} (h : v ≤ 4095) (hnone : findTariff s.refund.tariffs v = none) :
    tariffEraseBlock v s = refuseWith s .notFound := by
  simp [tariffEraseBlock, hnone, Nat.not_lt.mpr h]

theorem tariffEraseBlock_erased {s : State} {v : Nat} (h : v ≤ 4095) {t : Tariff}
    (hfound : findTariff s.refund.tariffs v = some t) : tariffEraseBlock v s =
      answerOk (s.withRefund fun r => { r with tariffs := r.tariffs.filter fun x => x.product != v }) .none := by
  simp [tariffEraseBlock, hfound, Nat.not_lt.mpr h]

/-- TARIFF QUERY and TARIFF ERASE on the open station port. -/
theorem tariffQuery_answered {s t : State} {sel : Byte} {value : BitVec 16} {res : Result} {body : Body}
    (h : s.portOpen .sp = true) (hblock : tariffQueryBlock sel value.toNat (s.taken .sp) = ⟨t, some (res, body)⟩) :
    exec (.tariffQuery .sp sel value) s = .next (t.answered .sp 0x72 res body) :=
  takeOrder_answered h rfl hblock

theorem tariffErase_answered {s t : State} {value : BitVec 16} {res : Result} {body : Body}
    (h : s.portOpen .sp = true) (hblock : tariffEraseBlock value.toNat (s.taken .sp) = ⟨t, some (res, body)⟩) :
    exec (.tariffErase .sp value) s = .next (t.answered .sp 0x73 res body) :=
  takeOrder_answered h rfl hblock

/-- Settles O43: the two parts and their frames, the checks of a set and its place in the list, and the look for a set
and its removal. -/
theorem tariffOrdersKeepTheSets : Obligations.TariffOrdersKeepTheSets := by
  refine ⟨fun product first second fee minDays unit minRefund claim refundable s h => ?_,
    fun p product second ignored s hlen => ?_, fun p part rest s h h1 h2 hlen => ?_, Tariff.valid_iff,
    fun ts t => ⟨putTariff_replaced, fun hnew hroom => ?_, fun hnew hfull => ?_⟩, fun value s h => ?_⟩
  · refine ⟨fun hbyte => ?_, fun hbyte => ?_, fun hnone => ?_, fun st hst => ⟨fun hother => ?_, fun hsame =>
      ⟨fun hbad => ?_, fun hgood hfull => ?_, fun ts hgood hput => ?_⟩⟩⟩
    · have hstaging := stagingOf_of_le (product := product) (first := first) (fee := fee) (minDays := minDays)
        (unit := unit) (minRefund := minRefund) (claim := claim) hbyte
      dsimp only
      split
      · next hvalid => exact takeOrder_answered h rfl (hstaging ▸ tariffPart1Block_valid hvalid _)
      · next hvalid => exact takeOrder_answered h rfl (hstaging ▸ tariffPart1Block_invalid hvalid _)
    · exact takeOrder_answered h rfl (by rw [stagingOf_of_gt hbyte]; rfl)
    · exact takeOrder_answered h rfl (tariffPart2Block_unstaged (s := s.taken .sp) hnone _ _)
    · exact takeOrder_answered h rfl (tariffPart2Block_other (s := s.taken .sp) hst hother)
    · exact takeOrder_answered h rfl (tariffPart2Block_invalid (s := s.taken .sp) hst hsame hbad)
    · exact takeOrder_answered h rfl (tariffPart2Block_full (s := s.taken .sp) hst hsame hgood hfull)
    · exact takeOrder_answered h rfl (tariffPart2Block_put (s := s.taken .sp) hst hsame hgood hput)
  · exact exec_tariffPart2_frame p product second hlen s
  · rw [exec_tariffOther_frame p h1 h2 hlen s]
    cases p with
    | sp => exact takeOrder_answered h rfl rfl
    | lp n => exact congrArg _ ((takeOrder_denied _ _ _ _ _ _ h rfl).trans (State.replyNow_raised _ _ _ _ _))
  · rw [putTariff_new hnew, if_pos hroom]
  · rw [putTariff_new hnew, if_neg (Nat.not_lt.mpr hfull)]
  · exact ⟨fun t hv hfound => ⟨tariffQuery_answered h (tariffQueryBlock_product (s := s.taken .sp) hv hfound),
        tariffErase_answered h (tariffEraseBlock_erased (s := s.taken .sp) hv hfound)⟩,
      fun hv hnone => ⟨tariffQuery_answered h (tariffQueryBlock_product (s := s.taken .sp) hv hnone),
        tariffErase_answered h (tariffEraseBlock_absent (s := s.taken .sp) hv hnone)⟩,
      fun hv => ⟨tariffQuery_answered h (tariffQueryBlock_no_product hv _),
        tariffErase_answered h (tariffEraseBlock_badArg hv _)⟩,
      fun t hv hfound => tariffQuery_answered h (tariffQueryBlock_position (s := s.taken .sp) hv hfound),
      fun hv hnone => tariffQuery_answered h (tariffQueryBlock_position (s := s.taken .sp) hv hnone),
      fun hv => tariffQuery_answered h (tariffQueryBlock_no_position hv _),
      fun sel hsel => tariffQuery_answered h (tariffQueryBlock_badArg hsel _ _)⟩

end Sys2Proof.Machine

/-! # A commit and its end (O44, O46) -/

namespace Sys2Proof.Machine

namespace State

/-! ## The expiry of a hold (R144) -/

section

variable (s : State) (q : StandingQuote)

theorem expireHold_refund : (s.expireHold q).refund = { s.refund with
    ctx := .idle, lastQuote := s.refund.lastQuote.map fun l => { l with outcome := .expired } } := by
  simp [expireHold, endHold, endQuote]

/-- A record that is HELD takes its prior state back; every other record stays. -/
theorem expireHold_record : (∀ x p, s.record q.pass = some x → x.state = .held p →
      (s.expireHold q).record q.pass = some { x with state := p.toState }) ∧
    ∀ p, p ≠ q.pass → (s.expireHold q).record p = s.record p := by
  have htable : (s.expireHold q).table =
      (s.updateRecord q.pass fun r => { r with state := releaseState r.state }).table := by
    simp [expireHold, endHold]
  simp only [record_eq_of_table htable]
  refine ⟨fun x p hx hp => ?_, fun p hp => s.record_updateRecord_other q.pass p _ (fun _ => rfl) hp⟩
  rw [record_updateRecord_same _ _ _ (by intro _; rfl), hx, Option.map_some, hp]
  rfl

theorem expireHold_notices :
    ((s.expireHold q).port .sp).notices = (s.port .sp).notices ||| StationNotice.holdEnd.mask := by
  have hport : (s.endHold q .expired).port .sp = s.port .sp := by simp [port]
  rw [expireHold, raiseStation_port_same, hport]

/-! ## The end of a commit (R146) -/

/-- A commit that has failed is taken back: the newest entry is gone, its sequence is given back, and the quote stands. -/
def commitTakenBack : State :=
  s.withRefund fun r =>
    { r with journal := r.journal.dropLast, nextSeq := (r.nextSeq + 65535) % 65536, ctx := .quoted q }

theorem commitConfirmed_refund (seq : Nat) : (s.commitConfirmed q seq).1.refund = { s.refund with
    journal := s.refund.journal.map (settleEntry seq), ctx := .idle
    lastQuote := s.refund.lastQuote.map fun l => { l with outcome := .committed } } := by
  simp [commitConfirmed, endQuote]

theorem commitConfirmed_lift (seq : Nat) : (s.commitConfirmed q seq).1.counts.current.lift =
    { s.counts.current.lift with
      refunds := min max32 (s.counts.current.lift.refunds + 1)
      refundTotal := min max32 (s.counts.current.lift.refundTotal + q.quote.refund) } := by
  simp [commitConfirmed, countLift, addSat]

theorem commitConfirmed_notices (seq : Nat) : ((s.commitConfirmed q seq).1.port .sp).notices =
    (s.port .sp).notices ||| StationNotice.journal.mask := by
  simp only [commitConfirmed, raiseStation_port_same]
  rfl

theorem commitConfirmed_record (seq : Nat) : (s.commitConfirmed q seq).1.record q.pass =
    (s.record q.pass).map fun r => { r with state := .refunded } := by
  have htable : (s.commitConfirmed q seq).1.table =
      (s.updateRecord q.pass fun r => { r with state := .refunded }).table := by
    simp [commitConfirmed]
    rfl
  rw [record_eq_of_table htable, record_updateRecord_same _ _ _ (by intro _; rfl)]

theorem commitFailed_result (echoed : Option PassNo) : (s.commitFailed q echoed).2 =
    (if echoed = none ∨ echoed = some q.pass then .noCard else .cardMismatch, .none) := by
  unfold commitFailed
  cases echoed with
  | none => dsimp only; split <;> simp
  | some p => dsimp only; split <;> simp

variable {s q}

theorem commitFailed_stands (h : s.time.runSec < q.deadline) (echoed : Option PassNo) :
    (s.commitFailed q echoed).1 = s.commitTakenBack q := by
  simp [commitFailed, commitTakenBack, Nat.not_le.mpr h]

theorem commitFailed_expires (h : q.deadline ≤ s.time.runSec) (echoed : Option PassNo) :
    (s.commitFailed q echoed).1 = (s.commitTakenBack q).expireHold q := by
  simp [commitFailed, commitTakenBack, h]

variable (s q) in
/-- Whether the quote stands or expires, the newest entry is gone and its sequence given back. -/
theorem commitFailed_journal (echoed : Option PassNo) :
    (s.commitFailed q echoed).1.refund.journal = s.refund.journal.dropLast ∧
      (s.commitFailed q echoed).1.refund.nextSeq = (s.refund.nextSeq + 65535) % 65536 := by
  by_cases h : q.deadline ≤ s.time.runSec
  · rw [commitFailed_expires h, expireHold_refund]
    exact ⟨rfl, rfl⟩
  · rw [commitFailed_stands (Nat.not_le.mp h)]
    exact ⟨rfl, rfl⟩

variable {seq : Nat} (hctx : s.refund.ctx = .committing q seq) (echoed : Option PassNo)
include hctx

theorem settleCommit_confirmed :
    s.settleCommit true echoed = ((s.commitConfirmed q seq).1, some (.ok, .journalSeq seq)) := by
  simp [settleCommit, hctx, commitConfirmed]

theorem settleCommit_failed : s.settleCommit false echoed = ((s.commitFailed q echoed).1,
    some (if echoed = none ∨ echoed = some q.pass then .noCard else .cardMismatch, .none)) := by
  simp [settleCommit, hctx, ← s.commitFailed_result q echoed]

end

/-! ## A service stamp that ends (R46, R137) -/

theorem settleService_writeBack {s : State} {r : StampReq} {rd : Reading} {q : Quote}
    (hrequester : r.requester = .writeBack) (hctx : s.refund.ctx = .reading (some rd)) (hquote : rd.quote = some q)
    (ok : Bool) : s.settleService r ok =
      if ok then s.placeHold { rd with seq := (rd.seq + 1) % 256 } q
      else s.placeHold rd { q with flags := { q.flags with cardBehind := true } } := by
  simp only [settleService, hrequester, settleWriteBack, hctx, hquote, addWrap]

theorem settleService_commit {s : State} {r : StampReq} (hrequester : r.requester = .commit) (ok : Bool) :
    (∀ t res body, s.settleCommit ok r.echoed = (t, some (res, body)) → s.settleService r ok = t.completeLong res body) ∧
      ∀ t, s.settleCommit ok r.echoed = (t, none) → s.settleService r ok = t := by
  have hservice : s.settleService r ok = s.settleCommitLong ok r.echoed := by simp only [settleService, hrequester]
  rw [hservice, settleCommitLong]
  exact ⟨fun t res body h => by rw [h], fun t h => by rw [h]⟩

/-! ## STAMP ATTEMPT COMPLETION at PS (R45, R46) -/

/-- A stamp attempt at PS that ends: its outcome acts, the stamp is settled, and the visit ends (R30, R46, R47). -/
theorem exec_serviceStampAttempt {v : CardVisit} (r : Reception) {s : State} (hrunning : s.stopped = false)
    (hvisit : s.reader.visit = some (.card v)) (hpurpose : v.purpose = .serviceStamp) (hposition : v.position = .ps) :
    exec (.stampAttemptCompletion r) s =
      .next ((s.applyOutcome .ps v.antenna (outcomeOf 14 0xB6 r)).settleServiceStamp (outcomeOf 14 0xB6 r)
        (r.frame.getD [])).endVisit := by
  change Host.Outcome.next (s.running fun s => s.stampAttempt r) = _
  unfold running stampAttempt stampCompleted
  simp only [hrunning, hvisit, hpurpose, hposition, Purpose.kind, Bool.false_eq_true, if_false, if_true]

theorem applyOutcome_slot (s : State) (p : Position) (a : Antenna) (o : VisitOutcome) :
    (s.applyOutcome p a o).reader.slot = s.reader.slot := by
  rw [applyOutcome_reader]

section

variable {s : State} {q : StampReq} (hslot : s.reader.slot = some (.stamp q)) {o : VisitOutcome} {frame : List Byte}
include hslot

theorem settleServiceStamp_confirmed (h : q.confirmedBy o frame = true) : s.settleServiceStamp o frame =
    ((s.withReader fun d => { d with slot := none }).clearBehind q).settleService q true := by
  simp only [settleServiceStamp, hslot, if_pos h]

theorem settleServiceStamp_last (h : ¬q.confirmedBy o frame = true) (ha : q.attempts ≤ 1) :
    s.settleServiceStamp o frame =
      (s.withReader fun d => { d with slot := none }).settleService (q.noted o frame) false := by
  simp only [settleServiceStamp, hslot, if_neg h, if_neg (Nat.not_lt.mpr ha)]

theorem settleServiceStamp_again (h : ¬q.confirmedBy o frame = true) (ha : 1 < q.attempts) :
    s.settleServiceStamp o frame =
      s.withReader fun d => { d with slot := some (.stamp { q.noted o frame with attempts := q.attempts - 1 }) } := by
  simp only [settleServiceStamp, hslot, if_neg h, if_pos ha]

end

end State

theorem StampReq.noted_eq (q : StampReq) (o : VisitOutcome) (frame : List Byte) : q.noted o frame =
    { q with echoed := if o = .card then some (BitVec.ofNat 40 (beNat ((frame.drop 1).take 5))) else q.echoed } := by
  unfold noted
  split <;> rfl

/-- Settles O46: the two ends of a commit, what the requester of a service stamp does, and the three ends of an
attempt. -/
theorem commitEndsConfirmedOrFailed : Obligations.CommitEndsConfirmedOrFailed := by
  refine ⟨fun q seq echoed s hctx => ⟨fun t a hta => ?_, fun t a hta => ?_⟩, fun r ok s =>
    ⟨fun hrequester => State.settleService_commit hrequester ok, fun rd q hrequester hrd hquote =>
      State.settleService_writeBack hrequester hrd hquote ok⟩,
    fun v r q s hrunning hvisit hpurpose hposition hslot => ?_⟩
  · obtain ⟨rfl, rfl⟩ := Prod.mk.inj ((State.settleCommit_confirmed hctx echoed).symm.trans hta)
    have hlift := s.commitConfirmed_lift q seq
    refine ⟨rfl, by rw [State.commitConfirmed_refund], by rw [State.commitConfirmed_refund]; rfl, fun x hx => ?_,
      by rw [hlift], by rw [hlift], s.commitConfirmed_notices q seq⟩
    rw [State.commitConfirmed_record, hx]
    rfl
  · obtain ⟨rfl, rfl⟩ := Prod.mk.inj ((State.settleCommit_failed hctx echoed).symm.trans hta)
    obtain ⟨hjournal, hnext⟩ := s.commitFailed_journal q echoed
    refine ⟨rfl, hjournal, hnext, fun hbefore => ?_, fun hpassed => ?_⟩
    · rw [State.commitFailed_stands hbefore]
      exact ⟨rfl, rfl⟩
    · rw [State.commitFailed_expires hpassed]
      exact ⟨by rw [State.expireHold_refund], (State.expireHold_record (s.commitTakenBack q) q).1,
        State.expireHold_notices (s.commitTakenBack q) q⟩
  · have hexec := State.exec_serviceStampAttempt r hrunning hvisit hpurpose hposition
    have hslot := (s.applyOutcome_slot .ps v.antenna (outcomeOf 14 0xB6 r)).trans hslot
    have hiff := q.confirmedBy_iff (outcomeOf 14 0xB6 r) (r.frame.getD [])
    have hnoted := q.noted_eq (outcomeOf 14 0xB6 r) (r.frame.getD [])
    dsimp only
    rw [hexec]
    refine ⟨fun hc => ?_, fun hc ha => ?_, fun hc ha => ?_⟩
    · rw [State.settleServiceStamp_confirmed hslot (hiff.mpr hc)]
      rfl
    · rw [State.settleServiceStamp_last hslot (mt hiff.mp hc) ha, hnoted]
    · rw [State.settleServiceStamp_again hslot (mt hiff.mp hc) ha, hnoted]

end Sys2Proof.Machine


/-! # REFUND QUOTE and REFUND COMMIT (O44) -/

namespace Sys2Proof.Machine

/-- PS cannot carry out work where it is unmapped or its fault flag is set (R36). -/
theorem State.unworkable_ps_iff (s : State) :
    s.unworkable .ps = true ↔ s.reader.map.ps = none ∨ s.reader.pos.ps.fault = true := by
  simp [State.unworkable, PerPos.get]

/-! ## REFUND QUOTE (R135) -/

section

variable {s : State}

theorem refundQuoteBlock_busy (h : s.refund.ctx ≠ .idle) : refundQuoteBlock s = refuseWith s .busy := if_pos h

variable (hidle : ¬s.refund.ctx ≠ .idle)
include hidle

theorem refundQuoteBlock_lowSupply (h : s.supply.state ≠ .run) : refundQuoteBlock s = refuseWith s .lowSupply := by
  rw [refundQuoteBlock, if_neg hidle, if_pos h]

variable (hrun : ¬s.supply.state ≠ .run)
include hrun

theorem refundQuoteBlock_state (h : s.time.tod = none) : refundQuoteBlock s = refuseWith s .state := by
  rw [refundQuoteBlock, if_neg hidle, if_neg hrun, if_pos (by simp [h])]

variable (hset : ¬s.time.tod = none)
include hset

theorem refundQuoteBlock_noCard (h : s.reader.map.ps = none ∨ s.reader.pos.ps.fault = true) :
    refundQuoteBlock s = refuseWith s .noCard := by
  rw [refundQuoteBlock, if_neg hidle, if_neg hrun, if_neg (by simpa using hset), if_pos (s.unworkable_ps_iff.mpr h)]

theorem refundQuoteBlock_reading (h : ¬(s.reader.map.ps = none ∨ s.reader.pos.ps.fault = true)) :
    refundQuoteBlock s =
      ⟨((s.withRefund fun r => { r with ctx := .reading none }).withReader fun d =>
        { d with slot := some (.read 0) }).arbiter, none⟩ := by
  rw [refundQuoteBlock, if_neg hidle, if_neg hrun, if_neg (by simpa using hset),
    if_neg (mt s.unworkable_ps_iff.mp h)]
  rfl

end

/-! ## REFUND COMMIT (R145) -/

/-- A commit that its block takes back at once: the journal is as before, and JOURNAL is raised (R145, R146). -/
theorem State.beginCommit_takenBack {s : State} {q : StandingQuote} (h : s.refund.ctx = .quoted q) :
    (s.beginCommit q).commitTakenBack q =
      (s.withRefund fun _ => { s.refund with nextSeq := s.refund.nextSeq % 65536 }).raiseStation .journal := by
  have hrefund : ({ s.refund with
      journal := (s.refund.journal ++ [pendingEntry s q]).dropLast
      nextSeq := ((s.refund.nextSeq + 1) % 65536 + 65535) % 65536, ctx := .quoted q } : RefundEngine) =
        { s.refund with nextSeq := s.refund.nextSeq % 65536 } := by
    have hseq : ((s.refund.nextSeq + 1) % 65536 + 65535) % 65536 = s.refund.nextSeq % 65536 := by omega
    rw [List.dropLast_concat, hseq, ← h]
  exact congrArg (fun e => (s.withRefund fun _ => e).raiseStation .journal) hrefund

theorem refundCommitBlock_state {s : State} (h : ∀ q, s.refund.ctx ≠ .quoted q) (k : Nat) :
    refundCommitBlock k s = refuseWith s .state := by
  unfold refundCommitBlock
  split
  · next q hq => exact absurd hq (h q)
  all_goals rfl

section

variable {s : State} {q : StandingQuote} (hctx : s.refund.ctx = .quoted q) {k : Nat}
include hctx

theorem refundCommitBlock_badArg (hk : q.number ≠ k) : refundCommitBlock k s = refuseWith s .badArg := by
  simp [refundCommitBlock, hctx, hk]

variable (hk : q.number = k)
include hk

theorem refundCommitBlock_lowSupply (h : s.supply.state ≠ .run) :
    refundCommitBlock k s = refuseWith s .lowSupply := by
  simp [refundCommitBlock, hctx, hk, h]

variable (hrun : s.supply.state = .run)
include hrun

theorem refundCommitBlock_journalFull (h : 48 ≤ s.refund.journal.length) :
    refundCommitBlock k s = refuseWith s .journalFull := by
  simp [refundCommitBlock, hctx, hk, hrun, h]

variable (hroom : s.refund.journal.length < 48)
include hroom

theorem refundCommitBlock_taken : refundCommitBlock k s = (s.beginCommit q).commitStamp q := by
  simp [refundCommitBlock, hctx, hk, hrun, Nat.not_le.mpr hroom]

/-- With PS away the commit stamp fails at once, and the order is answered NO_CARD (R36). -/
theorem refundCommitBlock_away (h : s.reader.map.ps = none ∨ s.reader.pos.ps.fault = true) :
    refundCommitBlock k s = ⟨((s.beginCommit q).commitFailed q none).1, some (.noCard, .none)⟩ := by
  have hfailed := State.settleCommit_failed (s := s.beginCommit q) (q := q) (seq := s.refund.nextSeq) rfl none
  rw [refundCommitBlock_taken hctx hk hrun hroom, State.commitStamp,
    if_pos ((s.beginCommit q).unworkable_ps_iff.mpr h), hfailed]
  rfl

/-- The commit stamp waits at PS (R145). -/
theorem refundCommitBlock_waits (h : ¬(s.reader.map.ps = none ∨ s.reader.pos.ps.fault = true)) {x : PassRecord}
    (hx : s.record q.pass = some x) : refundCommitBlock k s =
      ⟨((s.beginCommit q).withReader fun d =>
        { d with slot := some (.stamp (s.newStamp .ps .commit q.pass x true q.seq)) }).arbiter, none⟩ := by
  have hrecord : (s.beginCommit q).record q.pass = some x := hx
  rw [refundCommitBlock_taken hctx hk hrun hroom, State.commitStamp,
    if_neg (mt (s.beginCommit q).unworkable_ps_iff.mp h)]
  simp only [hrecord]
  rfl

end

/-- REFUND QUOTE and REFUND COMMIT on the open station port. -/
theorem refundQuote_answered {s t : State} {res : Result} {body : Body} (h : s.portOpen .sp = true)
    (hblock : refundQuoteBlock (s.taken .sp) = ⟨t, some (res, body)⟩) :
    exec (.refundQuote .sp) s = .next (t.answered .sp 0x75 res body) :=
  takeOrder_answered h rfl hblock

theorem refundCommit_answered {s t : State} {n : BitVec 16} {res : Result} {body : Body} (h : s.portOpen .sp = true)
    (hblock : refundCommitBlock n.toNat (s.taken .sp) = ⟨t, some (res, body)⟩) :
    exec (.refundCommit .sp n) s = .next (t.answered .sp 0x76 res body) :=
  takeOrder_answered h rfl hblock

/-- Settles O44, by the cases of the two blocks; a commit with PS away is taken back at once. -/
theorem quoteAndCommitAreTaken : Obligations.QuoteAndCommitAreTaken := by
  refine ⟨fun s h => ⟨fun hbusy => ?_, fun hidle hlow => ?_, fun hidle hrun hunset => ?_,
      fun hidle hrun hset haway => ?_, fun hidle hrun hset hhere => ?_⟩, fun n s h => ⟨fun hnot => ?_, fun q hq =>
    ⟨fun hne => ?_, fun hk => ⟨fun hlow => ?_, fun hrun hfull => ?_, fun hrun hroom haway hbefore => ?_,
      fun hrun hroom haway hpassed => ?_, fun x hrun hroom hhere hx => ?_⟩⟩⟩⟩
  · exact refundQuote_answered h (refundQuoteBlock_busy (s := s.taken .sp) hbusy)
  · exact refundQuote_answered h (refundQuoteBlock_lowSupply (s := s.taken .sp) hidle hlow)
  · exact refundQuote_answered h (refundQuoteBlock_state (s := s.taken .sp) hidle hrun hunset)
  · exact refundQuote_answered h (refundQuoteBlock_noCard (s := s.taken .sp) hidle hrun hset haway)
  · exact congrArg Host.Outcome.next (takeOrder_long .sp _ _ _ _ s _ h rfl
      (refundQuoteBlock_reading (s := s.taken .sp) hidle hrun hset hhere))
  · exact refundCommit_answered h (refundCommitBlock_state (s := s.taken .sp) hnot _)
  · exact refundCommit_answered h (refundCommitBlock_badArg (s := s.taken .sp) hq hne)
  · exact refundCommit_answered h (refundCommitBlock_lowSupply (s := s.taken .sp) hq hk hlow)
  · exact refundCommit_answered h (refundCommitBlock_journalFull (s := s.taken .sp) hq hk hrun hfull)
  · have hblock := refundCommitBlock_away (s := s.taken .sp) hq hk hrun hroom haway
    rw [State.commitFailed_stands (s := (s.taken .sp).beginCommit q) hbefore,
      State.beginCommit_takenBack (s := s.taken .sp) hq] at hblock
    exact refundCommit_answered h hblock
  · have hblock := refundCommitBlock_away (s := s.taken .sp) hq hk hrun hroom haway
    rw [State.commitFailed_expires (s := (s.taken .sp).beginCommit q) hpassed,
      State.beginCommit_takenBack (s := s.taken .sp) hq] at hblock
    refine ⟨_, refundCommit_answered h hblock, State.expireHold_refund _ q, (State.expireHold_record _ q).1,
      (State.expireHold_record _ q).2, by simp, ?_⟩
    rw [State.expireHold_notices, State.raiseStation_port_same]
    rfl
  · refine ⟨_, congrArg Host.Outcome.next (takeOrder_long .sp _ _ _ _ s _ h rfl
      (refundCommitBlock_waits (s := s.taken .sp) hq hk hrun hroom hhere hx)), rfl, rfl, rfl, ?_⟩
    rw [State.withReader_port, State.beginCommit, State.raiseStation_port_same]
    rfl

end Sys2Proof.Machine

/-! # The refund computed, and a card answer at the window (O42) -/

namespace Sys2Proof.Machine

/-! ## The refund computation (R138 to R140) -/

theorem creditDue_iff (today used : Nat) (r : PassRecord) (rides : Nat) : creditDue today used r rides = true ↔
    1 ≤ used ∧ r.lastUse = some today ∧ r.consumedHere = some today ∧ rides = 0 := by
  simp only [creditDue, Bool.and_eq_true, decide_eq_true_eq, beq_iff_eq, and_assoc]

theorem Tariff.price_succ {t : Tariff} {k x : Nat} (h : t.prices[k]? = some x) : t.price (k + 1) = x := by
  simp [Tariff.price, List.getD, h]

section

variable (today used rides : Nat) (tk : Ticket) (t : Tariff) (r : PassRecord)

/-- The used value is the ceiling of A × T(K) / T(D) (R139). -/
theorem computeQuote_usedValue_le_iff (hD : 0 < t.price tk.days) (v : Nat) :
    let q := computeQuote today tk used t r rides
    q.usedValue ≤ v ↔ tk.paid * t.price q.charged ≤ v * t.price tk.days := by
  intro q
  have hceil : q.usedValue = (tk.paid * t.price q.charged) ⌈/⌉ t.price tk.days :=
    (Nat.ceilDiv_eq_add_pred_div _ _).symm
  rw [hceil, ceilDiv_le_iff_le_mul hD, Nat.mul_comm (t.price tk.days)]

/-- The ceiling's two bounds, and the price paid above it where the charged days list no higher than the days bought. -/
theorem computeQuote_usedValue (hD : 0 < t.price tk.days) :
    let q := computeQuote today tk used t r rides
    t.price q.charged ≤ t.price tk.days →
      q.usedValue ≤ tk.paid ∧ tk.paid * t.price q.charged ≤ q.usedValue * t.price tk.days ∧
        (0 < q.usedValue → (q.usedValue - 1) * t.price tk.days < tk.paid * t.price q.charged) := by
  intro q hle
  have hvalue := computeQuote_usedValue_le_iff today used rides tk t r hD
  exact ⟨(hvalue tk.paid).mpr (Nat.mul_le_mul_left _ hle), (hvalue q.usedValue).mp (le_refl _), fun hpos =>
    Nat.lt_of_not_le (mt (hvalue (q.usedValue - 1)).mpr (Nat.not_le.mpr (Nat.sub_lt hpos Nat.one_pos)))⟩

/-- Rounded down to the unit, and 0 where that is above 0 and below the minimum (R140). -/
theorem computeQuote_refund :
    let q := computeQuote today tk used t r rides
    let rounded := q.afterFee / t.unit * t.unit
    let below := 0 < rounded ∧ rounded < t.minRefund
    q.refund = (if below then 0 else rounded) ∧ (q.flags.belowMinimum = true ↔ below) := by
  intro q rounded below
  have hbelow : q.flags.belowMinimum = decide below := rfl
  have hrefund : q.refund = if decide below then 0 else rounded := rfl
  rw [hbelow, hrefund]
  simp only [decide_eq_true_eq, and_self]

/-- The refund is a multiple of the unit, and never above the price paid. -/
theorem computeQuote_refund_bound :
    let q := computeQuote today tk used t r rides
    (∃ k, q.refund = k * t.unit) ∧ q.refund ≤ tk.paid := by
  intro q
  have hafter : q.afterFee ≤ tk.paid := (Nat.sub_le _ _).trans (Nat.sub_le _ _)
  have hrounded : q.afterFee / t.unit * t.unit ≤ tk.paid := (Nat.div_mul_le_self _ _).trans hafter
  obtain ⟨hrefund, -⟩ := computeQuote_refund today used rides tk t r
  rw [show q.refund = _ from hrefund]
  split
  · exact ⟨⟨0, (Nat.zero_mul _).symm⟩, Nat.zero_le _⟩
  · exact ⟨⟨_, rfl⟩, hrounded⟩

end

end Sys2Proof.Machine

namespace Sys2Proof.Machine.State

/-! ## The lane that holds a pass -/

theorem holderOf_isSome_iff (s : State) (p : PassNo) : (s.holderOf p).isSome = true ↔ ∃ n, s.ctxPass n = some p := by
  simp only [holderOf, List.find?_isSome, laneHolds_iff, books_seat, seat_pass, mem_lane_all, true_and]

end Sys2Proof.Machine.State

namespace Sys2Proof.Machine

/-! ## The checks of Table 7-4 -/

theorem findTariff_first {ts earlier later : List Tariff} {t : Tariff} {product : Nat} (hts : ts = earlier ++ t :: later)
    (ht : t.product = product) (hearlier : ∀ y ∈ earlier, y.product ≠ product) : findTariff ts product = some t := by
  subst hts
  rw [findTariff, List.find?_append, List.find?_eq_none.mpr fun y hy => by simpa using hearlier y hy, Option.none_or,
    List.find?_cons_of_pos (by simpa using ht)]

theorem findTariff_none {ts : List Tariff} {product : Nat} (h : ∀ t ∈ ts, t.product ≠ product) :
    findTariff ts product = none := List.find?_eq_none.mpr fun t ht => by simpa using h t ht

theorem recordState_iff (r : Option PassRecord) (x : RecState) :
    (r.map (·.state) == some x) = true ↔ ∃ y, r = some y ∧ y.state = x := by
  simp [Option.map_eq_some_iff]

theorem refundedQuote_iff (c : Card) (r : Option PassRecord) :
    (c.mark || r.map (·.state) == some .refunded) = true ↔ c.mark = true ∨ ∃ y, r = some y ∧ y.state = .refunded := by
  rw [Bool.or_eq_true, recordState_iff]

section

variable {s : State} {c : Card} {r : Option PassRecord} (day : Nat) (tk : Ticket)

theorem quoteChecks_refunded (h : c.mark = true ∨ ∃ y, r = some y ∧ y.state = .refunded) :
    quoteChecks s day c tk r = .inl .refunded := if_pos ((refundedQuote_iff c r).mpr h)

variable (hrefunded : ¬(c.mark = true ∨ ∃ y, r = some y ∧ y.state = .refunded))
include hrefunded

theorem quoteChecks_blocked (h : ∃ y, r = some y ∧ y.state = .blocked) :
    quoteChecks s day c tk r = .inl .blocked :=
  (if_neg (mt (refundedQuote_iff c r).mp hrefunded)).trans (if_pos ((recordState_iff r .blocked).mpr h))

variable (hblocked : ¬∃ y, r = some y ∧ y.state = .blocked)
include hblocked

theorem quoteChecks_inUse (h : ∃ n, s.ctxPass n = some c.pass) : quoteChecks s day c tk r = .inl .inUse := by
  rw [quoteChecks, if_neg (mt (refundedQuote_iff c r).mp hrefunded),
    if_neg (mt (recordState_iff r .blocked).mp hblocked), if_pos ((s.holderOf_isSome_iff c.pass).mpr h)]

variable (hfree : ¬∃ n, s.ctxPass n = some c.pass)
include hfree

/-- A pass neither refunded nor blocked nor in a lane is judged by the tariff of its product. -/
theorem quoteChecks_free : quoteChecks s day c tk r =
    match findTariff s.refund.tariffs tk.product with
    | none => .inl .noTariff
    | some t => if !t.refundable then .inl .notRefundable
        else if tk.lastDay + t.claim < day then .inl .expired else .inr t :=
  (if_neg (mt (refundedQuote_iff c r).mp hrefunded)).trans <|
    (if_neg (mt (recordState_iff r .blocked).mp hblocked)).trans <|
      if_neg (mt (s.holderOf_isSome_iff c.pass).mp hfree)

theorem quoteChecks_noTariff (h : findTariff s.refund.tariffs tk.product = none) :
    quoteChecks s day c tk r = .inl .noTariff := by
  simp only [quoteChecks_free day tk hrefunded hblocked hfree, h]

theorem quoteChecks_tariff {t : Tariff} (h : findTariff s.refund.tariffs tk.product = some t) :
    quoteChecks s day c tk r =
      if t.refundable = false then .inl .notRefundable
      else if tk.lastDay + t.claim < day then .inl .expired else .inr t := by
  simp only [quoteChecks_free day tk hrefunded hblocked hfree, h, Bool.not_eq_true']

end

end Sys2Proof.Machine

namespace Sys2Proof.Machine.State

/-! ## A card answer at the window, case by case (R136) -/

/-- The reading that a card answer at the window begins. -/
abbrev readingOf (s : State) (c : Card) : Reading :=
  { pass := c.pass, readDay := s.time.lastDay, seq := c.seq, quote := none }

/-- The state once the card answer is taken: the context holds its reading. -/
abbrev quoteBegun (s : State) (c : Card) : State := s.withCtx (.reading (some (s.readingOf c)))

/-- The state once the pass has been looked up (R6). -/
abbrev quoteSeen (s : State) (c : Card) : State := (s.quoteBegun c).seeRecord c.pass

/-- The state once the card has been merged into the record of its pass (R17). -/
abbrev quoteMerged (s : State) (c : Card) : State := (s.quoteSeen c).updateRecord c.pass (mergeWrite c)

/-- The state once the learning of an absent pass has failed and been counted (R9). -/
abbrev quoteUnlearned (s : State) (c : Card) : State :=
  (s.quoteSeen c).countLift fun l => { l with learnFailures := min max32 (l.learnFailures + 1) }

variable {s : State} {c : Card}

theorem quoteSeen_holderOf (p : PassNo) : (s.quoteSeen c).holderOf p = s.holderOf p :=
  holderOf_eq_of_lanes (by simp) p

theorem quoteSeen_record {o : Option PassRecord} (h : s.record c.pass = o) :
    (s.quoteSeen c).record c.pass = o.map fun r => { r with lastSeen := s.time.runSec } :=
  h ▸ seeRecord_record (s.quoteBegun c) c.pass

theorem quoteSeen_table (h : s.record c.pass = none) : (s.quoteSeen c).table = s.table :=
  seeRecord_table_of_absent (s := s.quoteBegun c) h

theorem quoteMerged_record {r : PassRecord} (h : s.record c.pass = some r) :
    (s.quoteMerged c).record c.pass = some (mergeWrite c { r with lastSeen := s.time.runSec }) :=
  mergeCard_record (quoteSeen_record h)

theorem learn_window_failed {t : State} {p : PassNo} (h : placeFor t.table p = none) :
    t.learn .ps p = t.countLift fun l => { l with learnFailures := min max32 (l.learnFailures + 1) } := by
  simp [learn, learnAllowed, h, addSat]

theorem learn_window_placed {t : State} {p q : PassNo} {k : Nat} (h : placeFor t.table p = some (k, q)) :
    t.learn .ps p = t.withTable fun u => putSlot u k (newRecord p .learned .active none t.time.runSec) := by
  simp [learn, learnAllowed, h]

/-! ### Cards refused alone -/

theorem quoteCard_unreadable (h : c.ticketOk = false) :
    s.quoteCard c = (s.quoteBegun c).refuseQuote .unreadable (.cardPass c.pass) := by
  simp [quoteCard, h]

theorem quoteCard_foreign (hok : c.ticketOk = true) (h : c.resort ≠ s.adm.settings.resort) :
    s.quoteCard c = (s.quoteBegun c).refuseQuote .foreign (.cardPass c.pass) := by
  simp [quoteCard, hok, h]

section

variable (hok : c.ticketOk = true) (hresort : c.resort = s.adm.settings.resort)
include hok hresort

/-! ### A pass that a lane context holds -/

theorem quoteCard_riding (hheld : (s.holderOf c.pass).isSome = true) {r : PassRecord} (hr : s.record c.pass = some r)
    {res : Result} (h : quoteChecks (s.quoteSeen c) s.time.lastDay c (r.ticket.getD c.ticket)
      (some { r with lastSeen := s.time.runSec }) = .inl res) :
    s.quoteCard c = (s.quoteSeen c).refuseQuote res (.cardPass c.pass) := by
  have hbasis : (recordBasis c { r with lastSeen := s.time.runSec }).ticket = r.ticket.getD c.ticket := by
    unfold recordBasis
    cases r.ticket <;> rfl
  simp [quoteCard, hok, hresort, quoteSeen_record hr, quoteSeen_holderOf, hheld, hbasis, h]

theorem quoteCard_riding_absent (hheld : (s.holderOf c.pass).isSome = true) (hnone : s.record c.pass = none)
    {res : Result} (h : quoteChecks (s.quoteSeen c) s.time.lastDay c c.ticket none = .inl res) :
    s.quoteCard c = (s.quoteSeen c).refuseQuote res (.cardPass c.pass) := by
  simp [quoteCard, hok, hresort, quoteSeen_record hnone, quoteSeen_holderOf, hheld, h]

/-! ### A record found (R17) -/

section

variable (hfree : ¬(s.holderOf c.pass).isSome = true) {r : PassRecord} (hr : s.record c.pass = some r)
include hfree hr

theorem quoteCard_merged_refused {res : Result}
    (h : quoteChecks (s.quoteMerged c) s.time.lastDay c (r.ticket.getD c.ticket)
      (some (mergeWrite c { r with lastSeen := s.time.runSec })) = .inl res) :
    s.quoteCard c = (s.quoteMerged c).refuseQuote res (.cardPass c.pass) := by
  have hrecord := quoteMerged_record hr
  simp [quoteCard, hok, hresort, quoteSeen_record hr, quoteSeen_holderOf, hfree, mergeCard, hrecord, h]

theorem quoteCard_merged {t : Tariff}
    (h : quoteChecks (s.quoteMerged c) s.time.lastDay c (r.ticket.getD c.ticket)
      (some (mergeWrite c { r with lastSeen := s.time.runSec })) = .inr t) :
    s.quoteCard c = (s.quoteMerged c).quoteRecord (s.readingOf c) c
      ((s.quoteSeen c).mergeCard c { r with lastSeen := s.time.runSec }).2
      (mergeWrite c { r with lastSeen := s.time.runSec }) t := by
  have hrecord := quoteMerged_record hr
  simp [quoteCard, hok, hresort, quoteSeen_record hr, quoteSeen_holderOf, hfree, mergeCard, hrecord, h]

end

/-! ### An absent pass (R7, R9) -/

section

variable (hfree : ¬(s.holderOf c.pass).isSome = true) (hnone : s.record c.pass = none)
include hfree hnone

theorem quoteCard_absent_unreadable (husage : c.usageOk = false) :
    s.quoteCard c = (s.quoteSeen c).refuseQuote .unreadable (.cardPass c.pass) := by
  simp [quoteCard, hok, hresort, quoteSeen_record hnone, quoteSeen_holderOf, hfree, husage]

variable (husage : c.usageOk = true)
include husage

/-- A card that shows the refund mark is learned and merged where that can be, and refused REFUNDED. -/
theorem quoteCard_absent_marked (hmark : c.mark = true) {u : State} (hlearn : (s.quoteSeen c).learn .ps c.pass = u) :
    (u.record c.pass = none → s.quoteCard c = u.refuseQuote .refunded (.cardPass c.pass)) ∧
      ∀ r, u.record c.pass = some r →
        s.quoteCard c = (u.updateRecord c.pass (mergeWrite c)).refuseQuote .refunded (.cardPass c.pass) := by
  refine ⟨fun hu => ?_, fun r hu => ?_⟩ <;>
    simp [quoteCard, hok, hresort, quoteSeen_record hnone, quoteSeen_holderOf, hfree, husage, hmark, hlearn,
      hu, mergeCard]

variable (hmark : c.mark = false)
include hmark

theorem quoteCard_absent_refused {res : Result}
    (h : quoteChecks (s.quoteSeen c) s.time.lastDay c c.ticket none = .inl res) :
    s.quoteCard c = (s.quoteSeen c).refuseQuote res (.cardPass c.pass) := by
  simp [quoteCard, hok, hresort, quoteSeen_record hnone, quoteSeen_holderOf, hfree, husage, hmark, h]

/-- A card that passes the checks is learned, and quoted on its merged record, or refused TABLE_FULL. -/
theorem quoteCard_absent_taken {t : Tariff}
    (h : quoteChecks (s.quoteSeen c) s.time.lastDay c c.ticket none = .inr t) {u : State}
    (hlearn : (s.quoteSeen c).learn .ps c.pass = u) :
    (u.record c.pass = none → s.quoteCard c = u.refuseQuote .tableFull (.cardPass c.pass)) ∧
      ∀ r, u.record c.pass = some r → s.quoteCard c = (u.updateRecord c.pass (mergeWrite c)).quoteRecord
        (s.readingOf c) c (u.mergeCard c r).2 (mergeWrite c r) t := by
  refine ⟨fun hu => ?_, fun r hu => ?_⟩
  · simp [quoteCard, hok, hresort, quoteSeen_record hnone, quoteSeen_holderOf, hfree, husage, hmark, h, quoteAbsent,
      hlearn, hu]
  · have hrecord : (u.updateRecord c.pass (mergeWrite c)).record c.pass = some (mergeWrite c r) := mergeCard_record hu
    simp [quoteCard, hok, hresort, quoteSeen_record hnone, quoteSeen_holderOf, hfree, husage, hmark, h, quoteAbsent,
      hlearn, hu, hrecord, mergeCard]

end

end

/-! ### The quote of a record (R137) -/

section

variable {s : State} {b : Basis} (rd : Reading) (c : Card) (r : PassRecord) (t : Tariff)

theorem quoteRecord_held (h : b.behind = false) : s.quoteRecord rd c b r t =
    s.placeHold rd (computeQuote rd.readDay b.ticket b.used t r (ridesToday s.time r)) := by
  simp [quoteRecord, h]

theorem quoteRecord_writesBack (h : b.behind = true) : s.quoteRecord rd c b r t =
    (s.withCtx (.reading (some { rd with
      quote := some (computeQuote rd.readDay b.ticket b.used t r (ridesToday s.time r)) }))).requestWriteBackStamp
        (s.newStamp .ps .writeBack c.pass r false rd.seq) := by
  rw [quoteRecord, if_pos h]
  rfl

/-- With PS away the write-back fails at once (R36). -/
theorem quoteRecord_away (h : b.behind = true) (haway : s.unworkable .ps = true) : s.quoteRecord rd c b r t =
    (s.withCtx (.reading (some { rd with
      quote := some (computeQuote rd.readDay b.ticket b.used t r (ridesToday s.time r)) }))).settleWriteBack false :=
  (quoteRecord_writesBack rd c r t h).trans (if_pos haway)

theorem quoteRecord_waits (h : b.behind = true) (hhere : s.unworkable .ps = false) : s.quoteRecord rd c b r t =
    (s.withCtx (.reading (some { rd with
      quote := some (computeQuote rd.readDay b.ticket b.used t r (ridesToday s.time r)) }))).withReader fun d =>
        { d with slot := some (.stamp (s.newStamp .ps .writeBack c.pass r false rd.seq)) } :=
  (quoteRecord_writesBack rd c r t h).trans (if_neg (Bool.eq_false_iff.mp hhere))

end

/-! ### Learning at the window -/

theorem quoteSeen_learn_failed (hnone : s.record c.pass = none) (hplace : placeFor s.table c.pass = none) :
    (s.quoteSeen c).learn .ps c.pass = s.quoteUnlearned c ∧ (s.quoteUnlearned c).record c.pass = none := by
  refine ⟨learn_window_failed (by rw [quoteSeen_table hnone, hplace]), ?_⟩
  simpa using quoteSeen_record hnone

theorem quoteSeen_learn_placed (hnone : s.record c.pass = none) {k : Nat} {evicted : PassNo}
    (hplace : placeFor s.table c.pass = some (k, evicted)) {u : State}
    (hu : ((s.quoteSeen c).withTable fun t =>
      putSlot t k (newRecord c.pass .learned .active none s.time.runSec)) = u) :
    (s.quoteSeen c).learn .ps c.pass = u ∧
      u.record c.pass = some (newRecord c.pass .learned .active none s.time.runSec) := by
  have hplace : placeFor (s.quoteSeen c).table c.pass = some (k, evicted) := by rw [quoteSeen_table hnone, hplace]
  subst hu
  exact ⟨learn_window_placed hplace, learned_record (quoteSeen_record hnone) hplace _ rfl⟩

/-- A card whose usage check passed is never behind the new record of its pass. -/
theorem aheadOf_newRecord (h : c.usageOk = true) (now : Nat) :
    aheadOf c (newRecord c.pass .learned .active none now) = false := by
  simp [aheadOf, h, newRecord, dayAhead]

/-! ### A service read whose outcome is CARD (R43) -/

theorem exec_serviceRead {v : CardVisit} {k : Nat} {r : Reception} {f : List Byte} (hrunning : s.stopped = false)
    (hvisit : s.reader.visit = some (.card v)) (hpurpose : v.purpose = .serviceRead) (hposition : v.position = .ps)
    (hslot : s.reader.slot = some (.read k)) (hcard : outcomeOf 28 0xA1 r = .card) (hframe : r.frame = some f) :
    exec (.readVisitCompletion r) s =
      .next (((s.applyOutcome .ps v.antenna .card).withReader fun d =>
        { d with slot := none }).quoteCard (cardOf f)).endVisit := by
  have hslot : (s.applyOutcome .ps v.antenna .card).reader.slot = some (.read k) := by
    rw [applyOutcome_reader]
    exact hslot
  rw [exec_readVisit r hrunning hvisit (by rw [hpurpose]; rfl), hposition, hcard, hframe]
  simp only [deliverRead, hposition, serviceReadAnswered, hslot, if_true, Option.getD_some]

end Sys2Proof.Machine.State

namespace Sys2Proof.Machine

/-- Settles O42: the computation, the service read, the checks of Table 7-4, and the cases of the card answer. -/
theorem serviceReadIsQuoted : Obligations.ServiceReadIsQuoted := by
  refine ⟨fun today used rides tk t r _ hD => ?_, fun v k r f s => State.exec_serviceRead,
    fun c tk r today s => ?_, fun c s => ?_⟩
  · intro q credited rounded below hle
    have hcredited : q.flags.credited = true ↔ credited := creditDue_iff today used r rides
    have hcharge : q.charge = if q.flags.credited then used - 1 else used := rfl
    obtain ⟨hpaid, hfloor, hceil⟩ := computeQuote_usedValue today used rides tk t r hD hle
    obtain ⟨hrefund, hbelow⟩ := computeQuote_refund today used rides tk t r
    obtain ⟨hmultiple, hbound⟩ := computeQuote_refund_bound today used rides tk t r
    exact ⟨rfl, rfl, rfl, rfl, by simp only [hcharge, hcredited], hcredited, rfl, decide_eq_true_iff, rfl, rfl, hpaid,
      hfloor, hceil, rfl, rfl, rfl, decide_eq_true_iff, rfl, rfl, hrefund, hbelow, rfl, hmultiple, hbound, rfl,
      fun k x => Tariff.price_succ⟩
  · refine ⟨quoteChecks_refunded today tk, quoteChecks_blocked today tk, quoteChecks_inUse today tk,
      fun hrefunded hblocked hfree => ⟨fun hnone => ?_, fun t earlier later hts ht hearlier => ?_⟩⟩
    · exact quoteChecks_noTariff today tk hrefunded hblocked hfree (findTariff_none hnone)
    · exact quoteChecks_tariff today tk hrefunded hblocked hfree (findTariff_first hts ht hearlier)
  · simp only [← s.holderOf_isSome_iff]
    refine ⟨State.quoteCard_unreadable, State.quoteCard_foreign, fun hok hresort =>
      ⟨fun r hheld hr res => State.quoteCard_riding hok hresort hheld hr,
        fun hheld hnone res => State.quoteCard_riding_absent hok hresort hheld hnone,
        fun r hfree hr => ⟨fun res => State.quoteCard_merged_refused hok hresort hfree hr, fun t ht => ?_⟩,
        fun hfree hnone => ⟨State.quoteCard_absent_unreadable hok hresort hfree hnone, fun husage hmark => ?_,
          fun husage hmark => ⟨fun res => State.quoteCard_absent_refused hok hresort hfree hnone husage hmark,
            fun t ht => ?_⟩⟩⟩⟩
    · have hquote := State.quoteCard_merged hok hresort hfree hr ht
      exact ⟨fun hahead => hquote.trans (State.quoteRecord_held _ _ _ _ hahead),
        fun hahead haway => hquote.trans (State.quoteRecord_away (s := s.quoteMerged c) _ _ _ _ hahead haway),
        fun hahead hhere => hquote.trans (State.quoteRecord_waits (s := s.quoteMerged c) _ _ _ _ hahead hhere)⟩
    · refine ⟨fun k evicted hplace => ?_, fun hplace => ?_⟩
      · obtain ⟨hlearn, hrecord⟩ := State.quoteSeen_learn_placed hnone hplace rfl
        exact (State.quoteCard_absent_marked hok hresort hfree hnone husage hmark hlearn).2 _ hrecord
      · obtain ⟨hlearn, hrecord⟩ := State.quoteSeen_learn_failed hnone hplace
        exact (State.quoteCard_absent_marked hok hresort hfree hnone husage hmark hlearn).1 hrecord
    · refine ⟨fun hplace => ?_, fun k evicted hplace => ?_⟩
      · obtain ⟨hlearn, hrecord⟩ := State.quoteSeen_learn_failed hnone hplace
        exact (State.quoteCard_absent_taken hok hresort hfree hnone husage hmark ht hlearn).1 hrecord
      · obtain ⟨hlearn, hrecord⟩ := State.quoteSeen_learn_placed hnone hplace rfl
        exact ((State.quoteCard_absent_taken hok hresort hfree hnone husage hmark ht hlearn).2 _ hrecord).trans
          (State.quoteRecord_held _ _ _ _ (State.aheadOf_newRecord husage _))

end Sys2Proof.Machine

/-! # A step of the machine (O1) -/

namespace Sys2Proof.Machine

/-! ## The three things a step can do (log 1) -/

theorem step_command (c : Instr) (rest : List Instr) (s : State) :
    step { s with pending := c :: rest } = exec c { s with pending := rest } := rfl

theorem step_due {s : State} {c : Instr} {cs : List Instr} (h : s.pending = []) (hdue : s.due = c :: cs) :
    step s = exec c s := by
  simp [step, h, hdue]

theorem step_idle {s : State} (h : s.pending = []) (hdue : s.due = []) : step s = .next s.tick := by
  simp [step, h, hdue]

/-! ## One millisecond (R155, R183) -/

theorem State.tick_time_stopped {s : State} (h : s.stopped = true) : s.tick.time = s.time := by
  simp [tick, h]

theorem State.tick_time_running {s : State} (h : s.stopped = false) : s.tick.time = s.time.tick s.free := by
  simp [tick, h]

/-- Below the greatest values no free value is taken (R155; log 5). -/
theorem TimeUnit.tick_below_limits {t : TimeUnit} (hms : t.ms < maxMs) (hsec : t.runSec < max32) (free : Nat) :
    t.tick free =
      { t with ms := t.ms + 1, runSec := if (t.ms + 1) % 1000 = 0 then t.runSec + 1 else t.runSec } := by
  simp [tick, nextMs, nextRunSec, hms, hsec]

/-- Settles O1: the branches of a step, and of the millisecond that passes on an empty queue. -/
theorem stepRunsTheFrontCommand : Obligations.StepRunsTheFrontCommand :=
  ⟨step_command, fun _ h => ⟨fun _ _ => step_due h, step_idle h, State.tick_time_stopped,
    fun hrunning hms hsec => (State.tick_time_running hrunning).trans (TimeUnit.tick_below_limits hms hsec _)⟩⟩

end Sys2Proof.Machine

/-! # Rollover and CLOCK SET (O49) -/

namespace Sys2Proof.Machine

/-! ## A rollover (R127, R158) -/

@[simp] theorem State.rollover_time (s : State) (day : Nat) : (s.rollover day).time = { s.time with lastDay := day } := rfl

theorem State.rollover_counts (s : State) (day : Nat) : (s.rollover day).counts =
    { s.counts with
      previous := some s.counts.current
      current := { CountSet.zero day with lift := { LiftCounts.zero with peak := s.load.occupancy } } } := rfl

theorem State.rollover_adm (s : State) (day : Nat) : (s.rollover day).adm = { s.adm with quiet := .const none } := rfl

theorem State.rollover_notices (s : State) (day : Nat) :
    ((s.rollover day).port .sp).notices = (s.port .sp).notices ||| StationNotice.rollover.mask := by
  simp [rollover]

/-! ## CLOCK SET (R126, R159) -/

/-- The open bin stays open exactly where the clock was SET in the same minute (R126). -/
theorem closesBin_eq_false_iff (old : Option Nat) (tod : Nat) :
    closesBin old tod = false ↔ ∃ t, old = some t ∧ t / 60 = tod / 60 := by
  cases old <;> simp [closesBin]

theorem State.setClock_same_minute {s : State} {tod : Nat} (h : closesBin s.time.tod tod = false) (day hour : Nat) :
    s.setClock day tod hour = (if s.time.lastDay < day then s.rollover day else s).withTime fun t =>
      { t with tod := some tod, boundaryHour := hour } := by
  simp [setClock, h]

theorem State.setClock_closes {s : State} {tod : Nat} (h : closesBin s.time.tod tod = true) (day hour : Nat) :
    s.setClock day tod hour = ((if s.time.lastDay < day then s.rollover day else s).withTime fun t =>
      { t with tod := some tod, boundaryHour := hour }).withCounts (Counts.closeBin (some (tod / 60))) := by
  simp [setClock, h]

theorem clockSetBlock_ok {s : State} {day tod hour : Nat} (h : tod ≤ 86399 ∧ hour ≤ 23 ∧ s.time.lastDay ≤ day) :
    clockSetBlock day tod hour s = answerOk (s.setClock day tod hour) (.clockSet tod day hour) := if_pos h

theorem clockSetBlock_badArg {s : State} {day tod hour : Nat}
    (h : ¬(tod ≤ 86399 ∧ hour ≤ 23 ∧ s.time.lastDay ≤ day)) :
    clockSetBlock day tod hour s = refuseWith s .badArg := if_neg h

/-- Settles O49: the ranges of CLOCK SET and its minute, and what a rollover writes block by block. -/
theorem clockSetAndRollover : Obligations.ClockSetAndRollover := by
  refine ⟨fun day time hour s hopen => ⟨fun hbad => ?_, fun hok => ⟨fun hsame => ?_, fun hother => ?_⟩⟩, fun day s => ?_⟩
  · exact takeOrder_answered hopen rfl (clockSetBlock_badArg (s := s.taken .sp) hbad)
  · have hset := State.setClock_same_minute (s := s.taken .sp) ((closesBin_eq_false_iff _ _).mpr hsame)
    exact takeOrder_answered hopen rfl
      ((clockSetBlock_ok (s := s.taken .sp) hok).trans (congrArg (answerOk · _) (hset _ _)))
  · have hset := State.setClock_closes (s := s.taken .sp)
      (Bool.eq_true_of_not_eq_false fun h => hother ((closesBin_eq_false_iff _ _).mp h))
    exact takeOrder_answered hopen rfl
      ((clockSetBlock_ok (s := s.taken .sp) hok).trans (congrArg (answerOk · _) (hset _ _)))
  · exact ⟨s.rollover_time day, by rw [s.rollover_counts], by rw [s.rollover_counts], by rw [s.rollover_counts],
      by rw [s.rollover_counts], s.rollover_adm day, s.rollover_notices day, by simp, by simp, by simp, by simp, by simp⟩

end Sys2Proof.Machine

/-! # Local seconds and run minutes (O50) -/

namespace Sys2Proof.Machine

/-! ## LOCAL SECOND BOUNDARY (R126, R156 to R158) -/

theorem execLocalSecondBoundary_early {s : State} (hrunning : s.stopped = false) (h : s.time.ms < s.time.secEnd) :
    execLocalSecondBoundary s = .next s := by
  rw [execLocalSecondBoundary, State.running_of_not_stopped hrunning, if_neg (Nat.not_le.mpr h)]

theorem execLocalSecondBoundary_due {s : State} (hrunning : s.stopped = false) (h : s.time.secEnd ≤ s.time.ms) :
    execLocalSecondBoundary s = .next s.secondBoundary := by
  rw [execLocalSecondBoundary, State.running_of_not_stopped hrunning, if_pos h]

/-- The next local second, begun at the scheduled end of the one in progress (R156). -/
def State.secondBegun (s : State) : State :=
  s.withTime fun t => { t with secStart := t.secEnd, secEnd := t.secEnd + 1000 }

theorem State.secondBoundary_unset {s : State} (h : s.time.tod = none) : s.secondBoundary = s.secondBegun := by
  simp [secondBoundary, secondBegun, h]

theorem State.secondBoundary_set {s : State} {tod : Nat} (h : s.time.tod = some tod) :
    s.secondBoundary = s.secondBegun.advanceTod tod := by
  simp [secondBoundary, secondBegun, h]

/-- The day boundary comes with the second that reaches the boundary hour, the end of the bin with a whole minute. -/
theorem State.advanceTod_eq (s : State) (tod : Nat) : s.advanceTod tod =
    let moved := s.withTime fun t => { t with tod := some (nextTod tod) }
    let rolled := if nextTod tod ≠ s.time.boundaryHour * 3600 then moved else moved.dayBoundary
    if nextTod tod % 60 = 0 then rolled.withCounts (Counts.closeBin (some (nextTod tod / 60))) else rolled := by
  simp only [advanceTod, ne_eq, ite_not]
  rfl

/-! ## Bins (R126) -/

theorem Counts.closeBin_ring_below {c : Counts} (h : c.ring.length < 60) (minute : Option Nat) :
    (c.closeBin minute).ring = c.ring ++ [c.openBin] := by
  have hdrop : (c.ring ++ [c.openBin]).length - 60 = 0 := by
    rw [List.length_append, List.length_singleton]
    omega
  rw [closeBin, hdrop, List.drop_zero]

/-- A full ring loses its oldest bin. -/
theorem Counts.closeBin_ring_full {c : Counts} (h : c.ring.length = 60) (minute : Option Nat) :
    (c.closeBin minute).ring = c.ring.tail ++ [c.openBin] := by
  have hdrop : (c.ring ++ [c.openBin]).length - 60 = 1 := by
    rw [List.length_append, List.length_singleton]
    omega
  have hne : c.ring ≠ [] := List.ne_nil_of_length_pos (by omega)
  rw [closeBin, hdrop, List.drop_one, List.tail_append_of_ne_nil hne]

/-! ## RUN MINUTE (R126) -/

theorem State.runMinuteDue_iff (s : State) :
    s.runMinuteDue = true ↔ s.time.tod = none ∧ s.time.runSec % 60 = 0 ∧ s.time.runSec ≠ 0 ∧
      s.time.runMinuteTaken ≠ s.time.runSec := by
  simp [runMinuteDue, and_assoc]

theorem execRunMinute_due {s : State} (hrunning : s.stopped = false) (h : s.runMinuteDue = true) :
    execRunMinute s =
      .next ((s.withTime fun t => { t with runMinuteTaken := t.runSec }).withCounts (Counts.closeBin none)) := by
  rw [execRunMinute, State.running_of_not_stopped hrunning, if_pos h]

theorem execRunMinute_not_due {s : State} (hrunning : s.stopped = false) (h : ¬s.runMinuteDue = true) :
    execRunMinute s = .next s := by
  rw [execRunMinute, State.running_of_not_stopped hrunning, if_neg h]

/-- Settles O50, by whether the moment of each command has come, and whether the clock is SET. -/
theorem secondsAndRunMinutesPass : Obligations.SecondsAndRunMinutesPass := by
  refine ⟨fun s hrunning => ⟨execLocalSecondBoundary_early hrunning, fun hdue => ⟨fun hunset => ?_, fun tod hset => ?_⟩⟩,
    fun s hrunning => ⟨fun hunset hminute hsome hnew => ?_, fun hnot => ?_⟩⟩
  · exact (execLocalSecondBoundary_due hrunning hdue).trans
      (congrArg Host.Outcome.next (State.secondBoundary_unset hunset))
  · exact (execLocalSecondBoundary_due hrunning hdue).trans (congrArg Host.Outcome.next
      ((State.secondBoundary_set hset).trans (s.secondBegun.advanceTod_eq tod)))
  · exact ⟨_, execRunMinute_due hrunning (s.runMinuteDue_iff.mpr ⟨hunset, hminute, hsome, hnew⟩), rfl,
      fun hbelow => Counts.closeBin_ring_below hbelow none, fun hfull => Counts.closeBin_ring_full hfull none, rfl, rfl⟩
  · refine execRunMinute_not_due hrunning fun hdue => ?_
    obtain ⟨hunset, hminute, hsome, hnew⟩ := s.runMinuteDue_iff.mp hdue
    rcases hnot with h | h | h | h
    · exact h hunset
    · exact h hminute
    · exact hsome h
    · exact hnew h

end Sys2Proof.Machine

/-! # CLOCK SYNC and the station time pulse (O51) -/

namespace Sys2Proof.Machine

/-! ## CLOCK SYNC (R160, R164) -/

theorem syncModeOf_oneShot_iff (b : Byte) : syncModeOf b = some .oneShot ↔ b = 1 := by
  rw [← BitVec.toNat_inj]
  unfold syncModeOf
  split <;> simp_all

theorem le_of_syncModeOf {b : Byte} {m : SyncMode} (h : syncModeOf b = some m) : b.toNat ≤ 3 := by
  unfold syncModeOf at h
  split at h <;> [omega; omega; omega; omega; cases h]

theorem syncOf_ok {mode window arm : Byte} {m : SyncMode} (hmode : syncModeOf mode = some m)
    (hwindow : 1 ≤ window.toNat ∧ window.toNat ≤ 250) (harm : arm.toNat ≤ 1) (harmed : ¬(mode = 1 ∧ arm = 0)) :
    syncOf mode window arm = some (m, window.toNat) := by
  have hshot : ¬(m = .oneShot ∧ decide (arm = 1) = false) := by
    rintro ⟨rfl, hzero⟩
    refine harmed ⟨(syncModeOf_oneShot_iff mode).mp hmode, BitVec.eq_of_toNat_eq ?_⟩
    have hne : arm.toNat ≠ 1 := fun h => of_decide_eq_false hzero (BitVec.eq_of_toNat_eq h)
    show arm.toNat = 0
    omega
  unfold syncOf
  rw [hmode, inRange_mem hwindow.1 hwindow.2, boolOf_of_le harm]
  exact if_neg hshot

theorem syncOf_bad {mode window arm : Byte}
    (h : ¬(mode.toNat ≤ 3 ∧ 1 ≤ window.toNat ∧ window.toNat ≤ 250 ∧ arm.toNat ≤ 1 ∧ ¬(mode = 1 ∧ arm = 0))) :
    syncOf mode window arm = none := by
  unfold syncOf
  split
  · next m w a hmode hwindow harm =>
    refine if_pos (not_not.mp fun hshot => h ?_)
    obtain ⟨hlow, hhigh⟩ := mem_of_inRange hwindow
    refine ⟨le_of_syncModeOf hmode, hlow, hhigh, Nat.le_of_lt_succ (lt_of_boolOf harm), ?_⟩
    rintro ⟨rfl, rfl⟩
    exact hshot ⟨(Option.some.inj hmode).symm, (Option.some.inj harm).symm⟩
  · rfl

/-- Leaving OFF makes the pulse PRESENT and starts the watch; going to OFF stops it (R160, R164). -/
theorem TimeUnit.setMode_eq (t : TimeUnit) (m : SyncMode) (w : Nat) :
    t.setMode m w =
      { t with mode := m, jitter := w, pulseLost := if m ≠ .off ∧ t.mode = .off then false else t.pulseLost
               watch := if m = .off then none else if t.mode = .off then some (t.ms + 3000) else t.watch } := by
  unfold setMode
  by_cases hm : m = .off
  · simp [hm]
  · by_cases hoff : t.mode = .off <;> simp [hm, hoff]

theorem clockSyncBlock_some (m : SyncMode) (w : Nat) (s : State) :
    clockSyncBlock (some (m, w)) s = answerOk (s.withTime fun t => t.setMode m w)
      (.clockSync m w (s.time.setMode m w).pulseLost) := by
  have hmode : (s.time.setMode m w).mode = m ∧ (s.time.setMode m w).jitter = w := by
    rw [TimeUnit.setMode_eq]
    exact ⟨rfl, rfl⟩
  simp [clockSyncBlock, hmode]

/-! ## A pulse that is not counted (R161) -/

theorem TimeUnit.spurious_iff (t : TimeUnit) : t.spurious = true ↔ ∃ l, t.lastPulse = some l ∧ t.ms < l + 500 := by
  unfold spurious
  cases t.lastPulse <;> simp

theorem execStpPulse_ignored {s : State} (hrunning : s.stopped = false)
    (h : s.time.mode = .off ∨ s.time.spurious = true) : execStpPulse s = .next s := by
  rw [execStpPulse, State.running_of_not_stopped hrunning, if_pos h]

theorem execStpPulse_counted {s : State} (hrunning : s.stopped = false)
    (h : ¬(s.time.mode = .off ∨ s.time.spurious = true)) : execStpPulse s = .next s.countedPulse := by
  rw [execStpPulse, State.running_of_not_stopped hrunning, if_neg h]

/-! ## What a counted pulse does (R161 to R163) -/

theorem TimeUnit.phaseError_range (t : TimeUnit) : -500 ≤ t.phaseError ∧ t.phaseError ≤ 499 := by
  unfold phaseError
  exact ⟨le_max_left _ _, max_le (by omega) (min_le_left _ _)⟩

/-- Where alignment puts the end of the second in progress: for a positive error a second and the error after its start,
for a negative one earlier by the error (R162; log 30). -/
def TimeUnit.alignedEnd (t : TimeUnit) (e : Int) : Nat :=
  if 0 < e then t.secStart + 1000 + e.toNat else if e < 0 then t.secEnd - (-e).toNat else t.secEnd

theorem TimeUnit.align_eq (t : TimeUnit) (e : Int) : t.align e = { t with secEnd := t.alignedEnd e } := by
  unfold align alignedEnd
  split
  · rfl
  · split <;> rfl

section

variable {t : TimeUnit} {e : Int}

theorem TimeUnit.alignedEnd_of_pos (h : 0 < e) : t.alignedEnd e = t.secStart + 1000 + e.toNat := if_pos h

theorem TimeUnit.alignedEnd_of_neg (h : e < 0) : t.alignedEnd e = t.secEnd - (-e).toNat :=
  (if_neg (not_lt.mpr h.le)).trans (if_pos h)

theorem TimeUnit.alignedEnd_of_zero (h : e = 0) : t.alignedEnd e = t.secEnd := by
  simp [alignedEnd, h]

end

theorem State.countDrift_time (s : State) (e : Int) : (s.countDrift e).time =
    { s.time with driftCount :=
        if s.time.jitter < e.natAbs then min max16 (s.time.driftCount + 1) else s.time.driftCount } := by
  unfold countDrift
  split <;> simp [addSat]

theorem State.countDrift_notices (s : State) (e : Int) : ((s.countDrift e).port .sp).notices =
    if s.time.jitter < e.natAbs then (s.port .sp).notices ||| StationNotice.clock.mask else (s.port .sp).notices := by
  unfold countDrift
  split <;> simp

/-- Whether a counted pulse counts drift: outside ONE_SHOT, beyond the jitter window (R163). -/
abbrev TimeUnit.Drifts (t : TimeUnit) (e : Int) : Prop := t.mode ≠ .oneShot ∧ t.jitter < e.natAbs

theorem SyncMode.on_cases {m : SyncMode} (h : m ≠ .off) : m = .oneShot ∨ m = .continuous ∨ m = .monitor := by
  cases m <;> simp_all

section

variable {s : State} (e : Int)

theorem State.actOnPulse_oneShot (h : s.time.mode = .oneShot) :
    s.actOnPulse e = s.withTime fun t => { t.align e with mode := .monitor } := by
  simp [actOnPulse, h]

theorem State.actOnPulse_continuous (h : s.time.mode = .continuous) :
    s.actOnPulse e = (s.withTime (TimeUnit.align e)).countDrift e := by
  simp [actOnPulse, h]

theorem State.actOnPulse_monitor (h : s.time.mode = .monitor) : s.actOnPulse e = s.countDrift e := by
  simp [actOnPulse, h]

/-- Each mode's part in a counted pulse: alignment outside MONITOR, drift outside ONE_SHOT, and the end of ONE_SHOT
(R163). -/
theorem State.actOnPulse_time (h : s.time.mode ≠ .off) :
    (s.actOnPulse e).time =
      { s.time with
        secEnd := if s.time.mode = .monitor then s.time.secEnd else s.time.alignedEnd e
        mode := if s.time.mode = .oneShot then .monitor else s.time.mode
        driftCount := if s.time.Drifts e then min max16 (s.time.driftCount + 1) else s.time.driftCount } := by
  rcases SyncMode.on_cases h with hmode | hmode | hmode
  · rw [actOnPulse_oneShot e hmode]
    simp [hmode, TimeUnit.align_eq]
  · rw [actOnPulse_continuous e hmode, countDrift_time]
    simp [TimeUnit.Drifts, hmode, TimeUnit.align_eq]
  · rw [actOnPulse_monitor e hmode, countDrift_time]
    simp [TimeUnit.Drifts, hmode]

theorem State.actOnPulse_notices (h : s.time.mode ≠ .off) : ((s.actOnPulse e).port .sp).notices =
    if s.time.Drifts e then (s.port .sp).notices ||| StationNotice.clock.mask else (s.port .sp).notices := by
  rcases SyncMode.on_cases h with hmode | hmode | hmode
  · rw [actOnPulse_oneShot e hmode]
    simp [hmode]
  · rw [actOnPulse_continuous e hmode, countDrift_notices]
    simp [TimeUnit.Drifts, hmode, TimeUnit.align_eq]
  · rw [actOnPulse_monitor e hmode, countDrift_notices]
    simp [TimeUnit.Drifts, hmode]

end

/-- The state after steps 2 to 4 of R161, before the mode acts. -/
def State.pulseTaken (s : State) : State :=
  (if s.time.pulseLost then s.raiseStation .clock else s).withTime (TimeUnit.countPulse s.time.phaseError)

theorem State.countedPulse_eq (s : State) : s.countedPulse = s.pulseTaken.actOnPulse s.time.phaseError := rfl

theorem State.pulseTaken_time (s : State) : s.pulseTaken.time = s.time.countPulse s.time.phaseError := by
  unfold pulseTaken
  split <;> simp

theorem State.pulseTaken_notices (s : State) : (s.pulseTaken.port .sp).notices =
    if s.time.pulseLost then (s.port .sp).notices ||| StationNotice.clock.mask else (s.port .sp).notices := by
  unfold pulseTaken
  split <;> simp

/-- The time unit after a counted pulse: steps 2 to 4 of R161, and then the mode's part. -/
theorem State.countedPulse_time {s : State} (h : s.time.mode ≠ .off) :
    s.countedPulse.time =
      { s.time.countPulse s.time.phaseError with
        secEnd := if s.time.mode = .monitor then s.time.secEnd else s.time.alignedEnd s.time.phaseError
        mode := if s.time.mode = .oneShot then .monitor else s.time.mode
        driftCount :=
          if s.time.Drifts s.time.phaseError then min max16 (s.time.driftCount + 1) else s.time.driftCount } := by
  have hmode : s.pulseTaken.time.mode ≠ .off := by rwa [pulseTaken_time]
  rw [countedPulse_eq, actOnPulse_time _ hmode, pulseTaken_time]
  rfl

/-- CLOCK rises where the pulse was LOST, and at drift (R163, R164). -/
theorem State.countedPulse_notices {s : State} (h : s.time.mode ≠ .off) : (s.countedPulse.port .sp).notices =
    if s.time.pulseLost = true ∨ s.time.Drifts s.time.phaseError then
      (s.port .sp).notices ||| StationNotice.clock.mask
    else (s.port .sp).notices := by
  have hmode : s.pulseTaken.time.mode ≠ .off := by rwa [pulseTaken_time]
  have hdrifts : s.pulseTaken.time.Drifts s.time.phaseError ↔ s.time.Drifts s.time.phaseError := by
    rw [pulseTaken_time]
    rfl
  rw [countedPulse_eq, actOnPulse_notices _ hmode, pulseTaken_notices]
  by_cases hdrift : s.time.Drifts s.time.phaseError
  · have hclock : s.time.pulseLost = true ∨ s.time.Drifts s.time.phaseError := .inr hdrift
    rw [if_pos (hdrifts.mpr hdrift), if_pos hclock]
    split <;> simp [BitVec.or_assoc]
  · rw [if_neg (mt hdrifts.mp hdrift)]
    simp only [or_iff_left hdrift]

/-! ## The pulse watch (R164) -/

section

variable {s : State} {d : Nat} (hrunning : s.stopped = false) (hwatch : s.time.watch = some d)
include hrunning hwatch

theorem execPulseWatchExpiry_due (h : d ≤ s.time.ms) : execPulseWatchExpiry s =
    .next ((s.withTime fun t => { t with pulseLost := true, watch := none }).raiseStation .clock) := by
  have hdue : s.time.watchDue = true := by simp [TimeUnit.watchDue, hwatch, h]
  rw [execPulseWatchExpiry, State.running_of_not_stopped hrunning, if_pos hdue]

theorem execPulseWatchExpiry_early (h : s.time.ms < d) : execPulseWatchExpiry s = .next s := by
  have hdue : ¬s.time.watchDue = true := by simp [TimeUnit.watchDue, hwatch, h]
  rw [execPulseWatchExpiry, State.running_of_not_stopped hrunning, if_neg hdue]

end

/-- Settles O51: CLOCK SYNC by its ranges, a counted pulse by the one equation of its time unit, and the watch by its
deadline. -/
theorem stationTimePulseIsWatched : Obligations.StationTimePulseIsWatched := by
  refine ⟨fun mode window arm s hopen => ⟨fun hbad => ?_, fun m hok hmode => ?_⟩,
    fun s hrunning => ⟨fun hignored => ?_, fun hmode hgenuine => ?_⟩,
    fun d s hrunning hwatch => ⟨execPulseWatchExpiry_due hrunning hwatch, execPulseWatchExpiry_early hrunning hwatch⟩⟩
  · exact takeOrder_answered hopen rfl (congrArg (clockSyncBlock · (s.taken .sp)) (syncOf_bad hbad))
  · obtain ⟨-, hlow, hhigh, harm, harmed⟩ := hok
    have hblock := clockSyncBlock_some m window.toNat (s.taken .sp)
    simp only [TimeUnit.setMode_eq] at hblock
    exact takeOrder_answered hopen rfl
      ((congrArg (clockSyncBlock · (s.taken .sp)) (syncOf_ok hmode ⟨hlow, hhigh⟩ harm harmed)).trans hblock)
  · exact execStpPulse_ignored hrunning (hignored.imp_right (TimeUnit.spurious_iff _).mpr)
  · have hcounted := execStpPulse_counted hrunning
      (not_or.mpr ⟨hmode, fun h => hgenuine ((TimeUnit.spurious_iff _).mp h)⟩)
    obtain ⟨hfloor, hceil⟩ := s.time.phaseError_range
    have htime := State.countedPulse_time hmode
    refine ⟨s.countedPulse, hcounted, hfloor, hceil, ?_⟩
    rw [htime]
    exact ⟨rfl, rfl, rfl, rfl, rfl, rfl, rfl, State.countedPulse_notices hmode, fun h => if_pos h,
      fun h hpos => (if_neg h).trans (TimeUnit.alignedEnd_of_pos hpos),
      fun h hneg => (if_neg h).trans (TimeUnit.alignedEnd_of_neg hneg),
      fun h hzero => (if_neg h).trans (TimeUnit.alignedEnd_of_zero hzero), rfl, rfl, rfl, rfl⟩

end Sys2Proof.Machine

/-! # The operating day (O60)

No operation puts the operating day back, but for the cold start, which the check of the retained region rules out. -/

namespace Sys2Proof.Machine

/-! ## What writes the operating day (R157 to R159) -/

theorem State.dayBoundary_day (s : State) : s.time.lastDay ≤ s.dayBoundary.time.lastDay := by
  unfold dayBoundary
  split <;> simp

theorem State.advanceTod_day (s : State) (tod : Nat) : s.time.lastDay ≤ (s.advanceTod tod).time.lastDay := by
  have hday := (s.withTime fun t => { t with tod := some (nextTod tod) }).dayBoundary_day
  rw [advanceTod_eq]
  dsimp only
  by_cases hhour : nextTod tod ≠ s.time.boundaryHour * 3600
  · rw [if_pos hhour]
    split <;> exact Nat.le_refl _
  · rw [if_neg hhour]
    split <;> exact hday

theorem State.secondBoundary_day (s : State) : s.time.lastDay ≤ s.secondBoundary.time.lastDay := by
  cases htod : s.time.tod with
  | none => exact Nat.le_of_eq (congrArg (·.time.lastDay) (secondBoundary_unset htod)).symm
  | some tod =>
    rw [secondBoundary_set htod]
    exact s.secondBegun.advanceTod_day tod

theorem State.setClock_day (s : State) (day tod hour : Nat) : s.time.lastDay ≤ (s.setClock day tod hour).time.lastDay := by
  have hrolled : s.time.lastDay ≤ (if s.time.lastDay < day then s.rollover day else s).time.lastDay := by
    split
    · next hlater => exact hlater.le
    · exact Nat.le_refl _
  cases hcloses : closesBin s.time.tod tod with
  | false => rwa [setClock_same_minute hcloses]
  | true => rwa [setClock_closes hcloses]

theorem State.countedPulse_day {s : State} (h : s.time.mode ≠ .off) : s.countedPulse.time.lastDay = s.time.lastDay :=
  (congrArg TimeUnit.lastDay (countedPulse_time h)).trans rfl

theorem clockSetBlock_day (day tod hour : Nat) (s : State) :
    s.time.lastDay ≤ (clockSetBlock day tod hour s).state.time.lastDay := by
  unfold clockSetBlock
  split
  · exact s.setClock_day day tod hour
  · exact Nat.le_refl _

theorem clockSyncBlock_day (x : Option (SyncMode × Nat)) (s : State) :
    (clockSyncBlock x s).state.time.lastDay = s.time.lastDay := by
  cases x with
  | none => rfl
  | some x => rw [clockSyncBlock_some, answerOk_state, State.withTime_time, TimeUnit.setMode_eq]

/-- A warm start keeps the operating day (R186). -/
theorem State.startUp_day {s : State} (h : s.supply.checkValid = true) (cause : StartCause) (selected : PerPort Bool) :
    (s.startUp cause selected).time.lastDay = s.time.lastDay := by
  simp [startUp, h, warmContent, TimeUnit.start]

theorem State.tick_day (s : State) : s.tick.time.lastDay = s.time.lastDay := by
  cases hstopped : s.stopped with
  | true => rw [tick_time_stopped hstopped]
  | false => rw [tick_time_running hstopped]; rfl

/-! ## Orders and frames -/

theorem orderEffect_day (i : Instr) (s : State) : s.time.lastDay ≤ (orderEffect i s).time.lastDay := by
  have taken : ∀ (p : Port) (code : Byte) (done : DoneNotice) (rights : Rights) (block : State → Answer),
      (∀ t : State, t.time.lastDay ≤ (block t).state.time.lastDay) →
        s.time.lastDay ≤ (takeOrder p code done rights block s).time.lastDay :=
    fun p code done rights block hblock =>
      takeOrder_holds (P := fun t => s.time.lastDay ≤ t.time.lastDay) (fun _ _ _ ht => ht) p code done rights
        (fun t ht => ht.trans (hblock t)) (Nat.le_refl _)
  cases i with
  | clockSet p day time hour => exact taken _ _ _ _ _ (clockSetBlock_day _ _ _)
  | clockSync p mode window arm => exact taken _ _ _ _ _ fun t => (clockSyncBlock_day _ t).ge
  | _ => simp [orderEffect]

theorem checkFrame_day (p : Port) (code : Byte) (bytes : List Byte) (insideByte : Bool) (s : State) :
    s.time.lastDay ≤ (checkFrame p code bytes insideByte s).time.lastDay := by
  unfold checkFrame
  split
  · simp
  · split
    · simp
    · split
      · simp
      · unfold orderEffectOf
        split
        · exact orderEffect_day _ s
        · simp

theorem State.takeFrame_day (s : State) (p : Port) (bytes : List Byte) (insideByte : Bool) :
    s.time.lastDay ≤ (s.takeFrame p bytes insideByte).time.lastDay := by
  unfold takeFrame
  split
  · simp
  · split
    · split <;> simp
    · split <;> simp
    · split
      · simp
      · split
        · simp
        all_goals exact checkFrame_day _ _ _ _ s

/-! ## Commands and steps -/

theorem State.running_day {s : State} {f : State → State} (h : s.time.lastDay ≤ (f s).time.lastDay) :
    s.time.lastDay ≤ (s.running f).time.lastDay := by
  unfold running
  split
  · exact Nat.le_refl _
  · exact h

/-- Of a part whose retained region is valid, no command puts the operating day back. -/
theorem exec_day {s : State} (hvalid : s.supply.checkValid = true) (i : Instr) :
    ∃ t, exec i s = .next t ∧ s.time.lastDay ≤ t.time.lastDay := by
  have event : ∀ f : State → State, exec i s = .next (s.running f) → s.time.lastDay ≤ (f s).time.lastDay →
      ∃ t, exec i s = .next t ∧ s.time.lastDay ≤ t.time.lastDay := fun _ h hf => ⟨_, h, State.running_day hf⟩
  have order : exec i s = .next (orderEffect i s) → ∃ t, exec i s = .next t ∧ s.time.lastDay ≤ t.time.lastDay :=
    fun h => ⟨_, h, orderEffect_day i s⟩
  cases i with
  | orderFrame p bytes insideByte => exact event _ rfl (s.takeFrame_day p bytes insideByte)
  | localSecondBoundary =>
    refine event _ rfl ?_
    split
    · exact s.secondBoundary_day
    · exact Nat.le_refl _
  | startUp cause selected =>
    refine ⟨_, rfl, ?_⟩
    cases cause with
    | power =>
      dsimp only
      split
      · exact (State.startUp_day hvalid _ _).ge
      · exact Nat.le_refl _
    | reset =>
      dsimp only
      split
      · split
        · exact (State.startUp_day (s := s.withSupply fun u => { u with resetHeld := false }) hvalid _ _).ge
        · exact Nat.le_refl _
      · exact Nat.le_refl _
  | beamRawChange | boardRawChange | reset => exact ⟨_, rfl, Nat.le_refl _⟩
  | liftStop | vmainChange | vbakFailure =>
    refine ⟨_, rfl, ?_⟩
    split <;> simp
  | stpPulse =>
    refine event _ rfl ?_
    split
    · exact Nat.le_refl _
    · next hcounted => exact (State.countedPulse_day (mt .inl hcounted)).ge
  | readVisitCompletion | stampAttemptCompletion | tuneCompletion => exact event _ rfl (by simp)
  | withdrawalTaken n r =>
    refine event _ rfl ?_
    dsimp only
    split <;> simp
  | orderFrameDiscarded | fetchTransaction | fetchStatusFixed | beamDebouncedChange | boardPulse | boardDebouncedInactive
  | grantExpiry | holdTimeout | repeatQuietDeadline | timedSignalEnd | tonePatternEnd
  | refundHoldExpiry | runMinute | pulseWatchExpiry | recoveryTimer =>
    refine event _ rfl ?_
    split <;> simp
  | _ => exact order rfl

/-- Settles O60: every command, and the millisecond, keeps the operating day or moves it forward. -/
theorem operatingDayNeverDecreases : Obligations.OperatingDayNeverDecreases := by
  intro s t hvalid h
  have command : ∀ (i : Instr) (u : State), u.supply.checkValid = true → exec i u = .next t →
      u.time.lastDay ≤ t.time.lastDay := by
    intro i u hu hi
    obtain ⟨t', ht', hday⟩ := exec_day hu i
    rw [ht'] at hi
    cases hi
    exact hday
  unfold step at h
  split at h
  · next c rest _ => exact command c { s with pending := rest } hvalid h
  · split at h
    · exact command _ s hvalid h
    · cases h
      exact s.tick_day.ge

end Sys2Proof.Machine

/-! # Orders outside the rights of their port (O7) -/

namespace Sys2Proof.Machine

/-! ## The rights of each family of orders (R171) -/

/-- An order without the right to its port is denied at the taking. -/
theorem takeOrder_refused {p : Port} {rights : Rights} {s : State} (h : s.portOpen p = true) (hr : rights = false)
    (code : Byte) (block : State → Answer) :
    (Host.Outcome.next (takeOrder p code .raised rights block s) : Host.Outcome State Fault Refusal) =
      .next ((s.taken p).answered p code .denied .none) := by
  rw [takeOrder_denied _ _ _ _ _ _ h hr, State.replyNow_raised]

/-- Every row of the station's orders is taken with the rights of the station port alone. -/
theorem exec_stationRow {i : Instr} (hrow : stationRow i = true) {p : Port} (hport : orderPort i = some p) {code : Byte}
    {body : List Byte} (hbody : orderBody i = some (code, body)) :
    ∃ block, ∀ s, exec i s = .next (takeOrder p code .raised (stationOnly p) block s) := by
  cases i with
  | passPut | passBlock | passUnblock | passErase | passClearLearned | tableStatus | readerSet | antennaMap | antennaTune
  | positionStatus | admitSet | rulePut | ruleQuery | laneSet | loadingSet | loadingStatus | tariffPutPart1
  | tariffPutPart2 | tariffQuery | tariffErase | refundSet | refundQuote | refundCommit | refundRelease | refundStatus
  | journalRead | journalRemove | clockSet | clockSync | clockStatus | supplyStatus =>
    cases hport
    cases hbody
    exact ⟨_, fun _ => rfl⟩
  | _ => exact absurd hrow Bool.false_ne_true

/-- From a lane port, every order that names one lane is taken with the rights to that lane. -/
theorem exec_namedLane {i : Instr} {lane : Byte} (hnamed : namedLane i = some lane) {n : Lane}
    (hport : orderPort i = some (.lp n)) {code : Byte} {body : List Byte} (hbody : orderBody i = some (code, body)) :
    ∃ block, ∀ s, exec i s = .next (takeOrder (.lp n) code .raised (ownLane (.lp n) lane) block s) := by
  cases i with
  | verdictFetch | laneMode | laneStatus | manualGrant =>
    cases hnamed
    cases hport
    cases hbody
    exact ⟨_, fun _ => rfl⟩
  | _ => exact nomatch hnamed

theorem ownLane_other {n m : Lane} {lane : Byte} (hlane : laneOf lane = some m) (h : m ≠ n) :
    ownLane (.lp n) lane = false := by
  simp [ownLane, hlane, h.symm]

/-- The lift's part and the bins are the station port's, and so are the parts of another lane. -/
theorem countsRights_refused {n : Lane} {part lane : Byte}
    (h : part = 2 ∨ part = 3 ∨ (part.toNat ≤ 1 ∧ ∃ m, laneOf lane = some m ∧ m ≠ n)) :
    countsRights (.lp n) part lane = false := by
  rcases h with rfl | rfl | ⟨hpart, m, hlane, hm⟩
  · rfl
  · rfl
  · rw [countsRights_lane_or_refusal _ hpart, ownLane_other hlane hm]

/-- Settles O7, by the rights of each of the four families. -/
theorem ordersWithoutRightsAreDenied : Obligations.OrdersWithoutRightsAreDenied := by
  intro i p code body s hbody hport hopen
  refine ⟨fun n hp hrow => ?_, fun n m lane hp hnamed hlane hm => ?_,
    fun n period part lane start number hp hi hrights => ?_, fun lane hp hi => ?_⟩
  · obtain ⟨block, htaken⟩ := exec_stationRow hrow hport hbody
    exact (htaken s).trans (takeOrder_refused hopen (hp ▸ rfl) code block)
  · subst hp
    obtain ⟨block, htaken⟩ := exec_namedLane hnamed hport hbody
    exact (htaken s).trans (takeOrder_refused hopen (ownLane_other hlane hm) code block)
  · subst hp hi
    cases hbody
    exact takeOrder_refused hopen (countsRights_refused hrights) _ _
  · subst hp hi
    cases hbody
    exact takeOrder_refused hopen rfl _ _

end Sys2Proof.Machine

/-! # Frames that a port refuses or discards (O6) -/

namespace Sys2Proof.Machine

/-! ## The check of a frame (R169) -/

theorem statedLength_cons (code : Byte) (rest : List Byte) : statedLength (code :: rest) = (rest.headD 0).toNat := by
  cases rest <;> rfl

theorem malformed_cons_iff (code : Byte) (rest : List Byte) (insideByte : Bool) :
    malformed (code :: rest) insideByte = true ↔
      insideByte = true ∨ rest = [] ∨ 56 < (rest.headD 0).toNat ∨ (code :: rest).length ≠ (rest.headD 0).toNat + 3 ∨
        (code :: rest).getLast? ≠ some (crc8 (code :: rest).dropLast) := by
  have honly : (code :: rest).length ≤ 1 ↔ rest = [] := by simp
  simp only [malformed, statedLength_cons, Bool.or_eq_true, decide_eq_true_eq, bne_iff_ne, honly, or_assoc]

/-- A frame that the port refuses is taken and answered like an order with an empty reply (R170, R178; log 14). -/
theorem State.refuseFrame_eq (s : State) (p : Port) (code : Byte) (res : Result) :
    s.refuseFrame p code res = (s.taken p).answered p code res .none := State.replyNow_raised _ p code res .none

section

variable {code : Byte} {bytes : List Byte} {insideByte : Bool} (p : Port) (s : State)

theorem checkFrame_malformed (h : malformed bytes insideByte = true) :
    checkFrame p code bytes insideByte s = (s.taken p).answered p code .badFrame .none := by
  rw [checkFrame, if_pos h, State.refuseFrame_eq]

theorem checkFrame_unknown (h : ¬malformed bytes insideByte = true) (hcode : orderLength code = none) :
    checkFrame p code bytes insideByte s = (s.taken p).answered p code .unknown .none := by
  rw [checkFrame, if_neg h]
  simp only [hcode, State.refuseFrame_eq]

theorem checkFrame_wrong_length {k : Nat} (h : ¬malformed bytes insideByte = true) (hcode : orderLength code = some k)
    (hk : statedLength bytes ≠ k) :
    checkFrame p code bytes insideByte s = (s.taken p).answered p code .badArg .none := by
  rw [checkFrame, if_neg h]
  simp only [hcode, if_pos hk, State.refuseFrame_eq]

end

/-! ## The end of a frame (R167, R169, R170) -/

section

variable {s : State} {p : Port} {code : Byte} (hfetch : code ≠ 0xF0#8) (rest : List Byte) (insideByte : Bool)
include hfetch

/-- A frame that ends on an open port is checked. -/
theorem exec_orderFrame_open (h : s.portOpen p = true) :
    exec (.orderFrame p (code :: rest) insideByte) s = .next (checkFrame p code (code :: rest) insideByte s) := by
  change Host.Outcome.next (s.running fun s => s.takeFrame p (code :: rest) insideByte) = _
  obtain ⟨hrunning, hawait, hslot⟩ := (s.portOpen_iff p).mp h
  cases hs : (s.port p).slot with
  | inProgress c => exact absurd hs (hslot c)
  | empty | ready _ => simp [State.running, State.takeFrame, hrunning, hawait, hfetch, hs]

/-- A frame that ends while a long order is in progress on its port is discarded. -/
theorem exec_orderFrame_busy (hrunning : s.stopped = false) (hawait : (s.port p).awaitRelease = false) {c : Byte}
    (hs : (s.port p).slot = .inProgress c) :
    exec (.orderFrame p (code :: rest) insideByte) s =
      .next (s.withPort p fun c => { c with lost := true, sent := [] }) := by
  change Host.Outcome.next (s.running fun s => s.takeFrame p (code :: rest) insideByte) = _
  simp [State.running, State.takeFrame, hrunning, hawait, hfetch, hs]

end

theorem exec_orderFrameDiscarded_busy {s : State} {p : Port} (hrunning : s.stopped = false) {c : Byte}
    (hs : (s.port p).slot = .inProgress c) :
    exec (.orderFrameDiscarded p) s = .next (s.withPort p fun c => { c with lost := true, sent := [] }) := by
  change execOrderFrameDiscarded p s = _
  simp [execOrderFrameDiscarded, State.running, hrunning, hs]

/-- Settles O6: the check of a frame on an open port, and the discarding of a frame on a busy one. -/
theorem framesRefusedOrDiscarded : Obligations.FramesRefusedOrDiscarded := by
  refine ⟨fun p code rest insideByte s hopen hfetch => ?_, fun p inside bytes insideByte s hrunning hawait hslot => ?_⟩
  · have hchecked := exec_orderFrame_open hfetch rest insideByte hopen
    have hbad := malformed_cons_iff code rest insideByte
    refine ⟨fun h => ?_, fun h hcode => ?_, fun k h hcode hk => ?_⟩
    · rw [hchecked, checkFrame_malformed p s (hbad.mpr h)]
    · rw [hchecked, checkFrame_unknown p s (hbad.not.mpr h) hcode]
    · rw [hchecked, checkFrame_wrong_length p s (hbad.not.mpr h) hcode (statedLength_cons code rest ▸ hk)]
  · refine ⟨exec_orderFrameDiscarded_busy hrunning hslot, fun hne hfetch => ?_⟩
    cases bytes with
    | nil => exact absurd rfl hne
    | cons code rest =>
      have hcode : code ≠ 0xF0#8 := fun h => hfetch (congrArg some h)
      exact exec_orderFrame_busy hcode rest insideByte hrunning hawait hslot

end Sys2Proof.Machine

/-! # The fetch (O8) -/

namespace Sys2Proof.Machine

/-! ## What a fetch sends (R172) -/

theorem PortCtx.fetchBytes_ready {c : PortCtx} {r : Reply} (h : c.slot = .ready r) :
    c.fetchBytes = r.bytes c.delivered := by
  simp [PortCtx.fetchBytes, h]

theorem PortCtx.fetchBytes_not_ready {c : PortCtx} (h : ∀ r, c.slot ≠ .ready r) : c.fetchBytes = [] := by
  cases hslot : c.slot with
  | ready r => exact absurd hslot (h r)
  | empty | inProgress _ => simp [PortCtx.fetchBytes, hslot]

/-- A fetch that sends `bytes` ends after `n` of its own. -/
theorem PortCtx.endFetch_eq {c : PortCtx} {bytes : List Byte} (h : c.fetch.getD c.fetchBytes = bytes) (n : Nat) :
    c.endFetch n = { c with fetch := none, sent := bytes.take n ++ List.replicate (n - bytes.length) 0,
                            delivered := c.delivered || (decide (bytes ≠ []) && decide (bytes.length ≤ n)) } := by
  have hsome : (!bytes.isEmpty) = decide (bytes ≠ []) := by cases bytes <;> rfl
  simp only [PortCtx.endFetch, h, sentBytes, hsome]

/-! ## The two steps of a fetch (R167, R172) -/

theorem State.withPort_congr (s : State) {p : Port} {f g : PortCtx → PortCtx} (h : f (s.port p) = g (s.port p)) :
    s.withPort p f = s.withPort p g := congrArg (fun c => s.withPort p fun _ => c) h

section

variable {s : State} {p : Port} (hrunning : s.stopped = false)
include hrunning

theorem exec_fetchStatusFixed (hawait : (s.port p).awaitRelease = false) {bytes : List Byte}
    (h : (s.port p).fetchBytes = bytes) :
    exec (.fetchStatusFixed p) s = .next (s.withPort p fun c => { c with fetch := some bytes }) := by
  change execFetchStatusFixed p s = _
  simp only [execFetchStatusFixed, State.running, hrunning, hawait, Bool.false_eq_true, if_false]
  exact congrArg Host.Outcome.next (s.withPort_congr (by rw [h]))

theorem exec_fetchTransaction (hawait : (s.port p).awaitRelease = false) {bytes : List Byte}
    (h : (s.port p).fetch.getD (s.port p).fetchBytes = bytes) (n : Nat) :
    exec (.fetchTransaction p n) s =
      .next (s.withPort p fun c =>
        { c with fetch := none, sent := bytes.take n ++ List.replicate (n - bytes.length) 0,
                 delivered := c.delivered || (decide (bytes ≠ []) && decide (bytes.length ≤ n)) }) := by
  change execFetchTransaction p n s = _
  simp only [execFetchTransaction, State.running, hrunning, hawait, Bool.false_eq_true, if_false]
  exact congrArg Host.Outcome.next (s.withPort_congr (PortCtx.endFetch_eq h n))

theorem exec_fetchStatusFixed_awaiting (hawait : (s.port p).awaitRelease = true) :
    exec (.fetchStatusFixed p) s = .next s := by
  change execFetchStatusFixed p s = _
  simp [execFetchStatusFixed, State.running, hrunning, hawait]

theorem exec_fetchTransaction_awaiting (hawait : (s.port p).awaitRelease = true) (n : Nat) :
    exec (.fetchTransaction p n) s = .next (s.withPort p fun c => { c with awaitRelease := false }) := by
  change execFetchTransaction p n s = _
  simp [execFetchTransaction, State.running, hrunning, hawait]

end

/-! ## The bytes of a reply (Tables 9-2, 11-2 and 11-3) -/

theorem replyFlags_eq (lost again : Bool) :
    replyFlags lost again = BitVec.ofNat 8 ((if lost then 1 else 0) + if again then 2 else 0) := rfl

/-- Settles O8: the two steps of a fetch, a port that awaits its release, and the layout of a reply. -/
theorem fetchSendsTheReadyReply : Obligations.FetchSendsTheReadyReply := by
  refine ⟨fun p n s hrunning hawait => ?_, fun p n s hrunning hawait => ?_, fun r again => ⟨?_, ?_⟩⟩
  · have hends := fun {bytes} h => exec_fetchTransaction hrunning hawait (bytes := bytes) h n
    refine ⟨fun r hr => ?_, fun hnone => ?_, fun bytes hfixed => hends ?_, fun hunfixed => ⟨fun r hr => hends ?_,
      fun hnone => hends ?_⟩⟩
    · exact exec_fetchStatusFixed hrunning hawait (PortCtx.fetchBytes_ready hr)
    · exact exec_fetchStatusFixed hrunning hawait (PortCtx.fetchBytes_not_ready hnone)
    · rw [hfixed, Option.getD_some]
    · rw [hunfixed, Option.getD_none, PortCtx.fetchBytes_ready hr]
    · rw [hunfixed, Option.getD_none, PortCtx.fetchBytes_not_ready hnone]
  · exact ⟨exec_fetchStatusFixed_awaiting hrunning hawait, exec_fetchTransaction_awaiting hrunning hawait n⟩
  · rw [← replyFlags_eq]
    rfl
  · cases r.result <;> rfl

end Sys2Proof.Machine

/-! # NOTICE FETCH, NOTICE MASK and IDENT (O9, O10, O11) -/

namespace Sys2Proof.Machine

/-- An order that raises no ORDER_DONE, answered by its block at the taking (R178). -/
theorem takeOrder_answeredSilently {p : Port} {code : Byte} {rights : Rights} {block : State → Answer} {s t : State}
    {res : Result} {body : Body} (h : s.portOpen p = true) (hr : rights = true)
    (hb : block (s.taken p) = ⟨t, some (res, body)⟩) :
    (Host.Outcome.next (takeOrder p code .silent rights block s) : Host.Outcome State Fault Refusal) =
      .next (t.answeredSilently p code res body) := by
  rw [takeOrder_replied _ _ _ _ _ _ _ _ _ h hr hb, State.replyNow_silent]

theorem State.taken_notices (s : State) (p : Port) : ((s.taken p).port p).notices = (s.port p).notices := by
  rw [State.taken_port_same]

/-! ## NOTICE FETCH (R152, R176) -/

/-- The state after a NOTICE FETCH of the station port: no notice is pending but JOURNAL while the journal holds
entries, and the start kind is removed. -/
def State.stationNoticesFetched (s : State) : State :=
  let notices := if s.refund.journal = [] then 0 else StationNotice.journal.mask
  { s with ports := { ctx := s.ports.ctx.set .sp { s.port .sp with notices := notices }, startKind := none } }

theorem noticeFetchBlock_lane (n : Lane) (s : State) : noticeFetchBlock (.lp n) s =
    answerOk (s.withPort (.lp n) fun c => { c with notices := 0 }) (.notices (s.port (.lp n)).notices none) := rfl

theorem noticeFetchBlock_station (s : State) : noticeFetchBlock .sp s =
    answerOk s.stationNoticesFetched (.notices (s.port .sp).notices (some s.ports.startKind)) := by
  have hstate : (s.clearNotices .sp).raiseJournalAgain .sp = s.stationNoticesFetched := by
    cases h : s.refund.journal with
    | nil =>
      simp [State.raiseJournalAgain, State.stationNoticesFetched, h, State.clearNotices, State.withPort, State.port]
    | cons e rest =>
      simp [State.raiseJournalAgain, State.stationNoticesFetched, h, State.clearNotices, State.raiseStation,
        State.raiseBits, State.withPort, State.port]
  rw [noticeFetchBlock, hstate]
  rfl

/-- Settles O9, on a lane port and on the station port. -/
theorem noticeFetchClearsTheNotices : Obligations.NoticeFetchClearsTheNotices := by
  refine fun s => ⟨fun n h => ?_, fun h => ?_⟩
  · rw [← s.taken_notices (.lp n)]
    exact takeOrder_answeredSilently h rfl (noticeFetchBlock_lane n _)
  · refine ⟨(s.taken .sp).stationNoticesFetched, ?_, rfl, rfl, fun _ => rfl, rfl⟩
    rw [← s.taken_notices .sp]
    exact takeOrder_answeredSilently h rfl (noticeFetchBlock_station _)

/-! ## NOTICE MASK (R175, R177) -/

section

variable {p : Port} {mask : BitVec 16}

theorem noticeMaskBlock_badArg (h : mask &&& ~~~(portNotices p) ≠ 0) (s : State) :
    noticeMaskBlock p mask s = refuseWith s .badArg := if_pos h

theorem noticeMaskBlock_ok (h : mask &&& ~~~(portNotices p) = 0) (s : State) : noticeMaskBlock p mask s =
    answerOk (s.withPort p fun c => { c with mask := mask }) (.noticeMask mask (s.port p).notices) :=
  if_neg (not_not_intro h)

end

/-- In a running part, ATN is active exactly while a notice outside the mask is pending. -/
theorem State.atn_iff {s : State} (h : s.stopped = false) (p : Port) :
    s.atn p = true ↔ (s.port p).notices &&& ~~~(s.port p).mask ≠ 0 := by
  simp [State.atn, h]

/-- Settles O10: the mask refused, and the mask taken with ATN after it. -/
theorem noticeMaskTakesThePortsNotices : Obligations.NoticeMaskTakesThePortsNotices := by
  refine fun p mask s h => ⟨fun hbad => takeOrder_answeredSilently h rfl (noticeMaskBlock_badArg hbad _),
    fun hok => ⟨_, ?_, rfl, ?_, ?_⟩⟩
  · rw [← s.taken_notices p]
    exact takeOrder_answeredSilently h rfl (noticeMaskBlock_ok hok _)
  · simp
  · refine (State.atn_iff ?_ p).trans ?_
    · exact s.portOpen_running p h
    · simp

/-! ## IDENT (R179) -/

/-- Settles O11: IDENT's block answers with the port itself and changes nothing. -/
theorem identNamesThePort : Obligations.IdentNamesThePort := by
  refine fun p s h => ⟨takeOrder_answered h rfl rfl, ?_, fun q hq => ?_⟩
  · cases p with
    | sp => rfl
    | lp n => cases n <;> rfl
  · rw [State.answered_port_other _ _ _ _ _ _ hq, State.taken_port_other _ _ _ hq]

end Sys2Proof.Machine

/-! # A stopped part (O4) -/

namespace Sys2Proof.Machine

namespace State

variable {s : State} (h : s.stopped = true)
include h

/-! ## Commands (R183) -/

theorem running_of_stopped (f : State → State) : s.running f = s := if_pos h

/-- A stopped part carries out a command only where the command is a pin or a start-up: an order ends at its taking, an
event before its effect (log 19). -/
theorem exec_of_stopped {c : Instr} (hpin : isPin c = false) : exec c s = .next s := by
  have event : ∀ f : State → State, exec c s = .next (s.running f) → exec c s = .next s :=
    fun f hexec => hexec.trans (congrArg Host.Outcome.next (running_of_stopped h f))
  have order : ∀ (p : Port) (code : Byte) (done : DoneNotice) (rights : Rights) (block : State → Answer),
      exec c s = .next (takeOrder p code done rights block s) → exec c s = .next s :=
    fun p code done rights block hexec =>
      hexec.trans (congrArg Host.Outcome.next (takeOrder_stopped p code done rights block s h))
  cases c with
  | beamRawChange | boardRawChange | liftStop | vmainChange | reset | startUp | vbakFailure => exact nomatch hpin
  | orderFrame | orderFrameDiscarded | fetchTransaction | fetchStatusFixed | readVisitCompletion
  | stampAttemptCompletion | tuneCompletion | beamDebouncedChange | boardPulse | boardDebouncedInactive | grantExpiry
  | holdTimeout | withdrawalTaken | repeatQuietDeadline | timedSignalEnd | tonePatternEnd | refundHoldExpiry
  | localSecondBoundary | runMinute | stpPulse | pulseWatchExpiry | recoveryTimer => exact event _ rfl
  | _ => exact order _ _ _ _ _ rfl

/-! ## Lines, antennas and data outputs (R183) -/

theorem lines_of_stopped (n : Lane) :
    s.rel n = false ∧ s.greenLamp n = false ∧ s.redLamp n = false ∧ s.toneLine n = none := by
  simp [rel, greenLamp, redLamp, toneLine, h]

theorem drivenAntenna_of_stopped : s.drivenAntenna = none := if_pos h

theorem airBytes_of_stopped : s.airBytes = [] := if_pos h

theorem port_of_stopped (p : Port) : s.atn p = false ∧ ∀ i, s.dataByte p i = 0 := by
  simp [atn, dataByte, h]

end State

/-- Settles O4: the commands, the lines, the air and the ports of a stopped part. -/
theorem stoppedPartTakesNothing : Obligations.StoppedPartTakesNothing := fun _ h =>
  ⟨fun _ hpin => State.exec_of_stopped h hpin, State.lines_of_stopped h,
    State.drivenAntenna_of_stopped h, State.airBytes_of_stopped h, State.port_of_stopped h⟩

end Sys2Proof.Machine

/-! # The cold start (O2) -/

namespace Sys2Proof.Machine

/-- Of the cold lane rules only rule 0 is enabled: it admits every product at every time, with a charge (R59). -/
theorem coldRules_get (i : Fin 16) : coldRules[i.val] = if i.val = 0 then LaneRule.cold0 else LaneRule.cold := by
  simp only [coldRules, Vector.getElem_set, Vector.getElem_replicate, eq_comm]

/-- What every lane has at reset: its unit, its verdict record and its repeat-quiet memory (R80, R103). -/
theorem State.reset_lane (n : Lane) :
    State.reset.lane n = .cold ∧ State.reset.adm.verdicts.get n = none ∧ State.reset.adm.quiet.get n = none :=
  ⟨PerLane.get_const LaneUnit.cold n, PerLane.get_const none n, PerLane.get_const none n⟩

theorem State.reset_antenna (a : Antenna) :
    State.reset.reader.levels.get a = 8 ∧ State.reset.reader.tunes.get a = none :=
  ⟨PerAnt.get_const 8 a, PerAnt.get_const none a⟩

/-- Settles O2, value by value: what each lane, each antenna and each lane rule holds, and the rest by the definition of
the cold values. -/
theorem resetIsTheColdStart : Obligations.ResetIsTheColdStart := by
  refine ⟨rfl, rfl, State.reset_antenna, rfl, rfl, rfl, coldRules_get, rfl, fun n => ?_, rfl, rfl, rfl, rfl, rfl, rfl,
    rfl, rfl, rfl, rfl, rfl, rfl, rfl, rfl, rfl, rfl, rfl, rfl, PerLane.get_const PortCtx.start, rfl, rfl, rfl, rfl⟩
  obtain ⟨hlane, hverdict, hquiet⟩ := State.reset_lane n
  rw [hlane]
  exact ⟨rfl, rfl, rfl, rfl, rfl, hverdict, hquiet⟩

end Sys2Proof.Machine

/-! # The withdrawal of the queue (O52)

Outside RUN no room exists (R109), so the withdrawal of the whole queue takes its entries away one by one and grants
none. `State.Withdrawn s gone t` says that `t` is `s` without the entries of the lanes `gone`. -/

namespace Sys2Proof.Machine

/-! ## Slots and LIVE pins of the table (R1, R12) -/

/-- Tables that agree record by record have the same slots. -/
theorem EachRecord.slots {R : PassRecord → PassRecord → Prop} {t t' : PassTable} (h : EachRecord R t t') :
    t'.map (·.1) = t.map (·.1) := by
  unfold EachRecord at h
  induction h with
  | nil => rfl
  | cons he _ ih => simp [he.1, ih]

/-- A record whose LIVE pin stands only where it names a lane of `keep`. -/
def PassRecord.keepPins (keep : Lane → Bool) (r : PassRecord) : PassRecord := { r with live := r.live.filter keep }

theorem PassRecord.keepPins_kept {keep : Lane → Bool} {r : PassRecord}
    (h : ∀ n, r.live = some n → keep n = true) : r.keepPins keep = r := by
  cases hlive : r.live with
  | none => rw [keepPins, hlive, Option.filter_none, ← hlive]
  | some n => rw [keepPins, hlive, Option.filter_some_pos (h n hlive), ← hlive]

theorem PassRecord.keepPins_ended {keep : Lane → Bool} {r : PassRecord} {n : Lane} (hlive : r.live = some n)
    (h : keep n = false) : r.keepPins keep = { r with live := none } := by
  rw [keepPins, hlive, Option.filter_some_neg h]

theorem PassRecord.keepPins_all : PassRecord.keepPins (fun _ => true) = id :=
  funext fun _ => keepPins_kept fun _ _ => rfl

theorem PassRecord.unpinned_eq (n : Lane) : PassRecord.unpinned n = PassRecord.keepPins fun m => !decide (m = n) := by
  funext r
  unfold unpinned keepPins
  cases r.live with
  | none => rfl
  | some m => by_cases hm : m = n <;> simp [Option.filter, hm]

theorem PassRecord.keepPins_keepPins (f g : Lane → Bool) :
    PassRecord.keepPins g ∘ PassRecord.keepPins f = PassRecord.keepPins fun n => f n && g n := by
  funext r
  simp [keepPins, Option.filter_filter]

namespace State

/-- The LIVE pin of a record of the pass outlasts the ends of the contexts of the lanes `gone`, unless it names one of
these lanes and the lane's context held the pass (R12, R87). -/
def keepsPin (s : State) (gone : Lane → Bool) (p : PassNo) (n : Lane) : Bool :=
  !(gone n && decide (s.ctxPass n = some p))

/-! ## The withdrawal of one entry, at its lane and beside it (R113) -/

theorem dropEntry_verdict_other (s : State) {n m : Lane} (h : m ≠ n) (r : WithdrawReason) :
    (s.dropEntry n r).adm.verdicts.get m = s.adm.verdicts.get m := by
  simp only [dropEntry, countLane_frame, startTone_frame, startSignal_frame, putVerdict_verdict_other _ _ _ _ h,
    endContext_verdicts, withLoad_adm]

theorem putVerdict_port_other (s : State) {n : Lane} {p : Port} (h : p ≠ .lp n) (v : Verdict) :
    (s.putVerdict n v).port p = s.port p := by
  simp only [putVerdict, raiseLane, raiseBits_port, if_neg h, withLane_port, withAdm_port]

theorem dropEntry_port_other (s : State) {n : Lane} {p : Port} (h : p ≠ .lp n) (r : WithdrawReason) :
    (s.dropEntry n r).port p = s.port p := by
  simp [dropEntry, putVerdict_port_other _ h]

/-- A withdrawal is counted at its lane, and nothing else is counted (R92). -/
theorem dropEntry_counts (s : State) (n : Lane) (r : WithdrawReason) :
    (s.dropEntry n r).counts = { s.counts with current := { s.counts.current with
      lanes := s.counts.current.lanes.set n { s.counts.current.lanes.get n with
        withdrawals := min max32 ((s.counts.current.lanes.get n).withdrawals + 1) } } } := by
  simp [dropEntry, countLane, addSat]

/-- Mode and settings of every lane outlast a withdrawal. -/
theorem dropEntry_lane_retained (s : State) (n m : Lane) (r : WithdrawReason) :
    ((s.dropEntry n r).lane m).mode = (s.lane m).mode ∧
      ((s.dropEntry n r).lane m).settings = (s.lane m).settings := by
  by_cases hm : m = n
  · subst hm
    simp [dropEntry]
  · rw [dropEntry_lane_other _ _ _ _ hm]
    exact ⟨rfl, rfl⟩

/-- Of what is retained, only the table and the current counts may move (Table 10-2). -/
theorem retained_eq_of_frame {s t : State}
    (hlanes : ∀ n, (t.lane n).mode = (s.lane n).mode ∧ (t.lane n).settings = (s.lane n).settings)
    (hreader : t.reader = s.reader) (hadm : t.adm.settings = s.adm.settings ∧ t.adm.rules = s.adm.rules)
    (hdebounce : t.debounce = s.debounce) (hload : t.load.limit = s.load.limit ∧ t.load.hold = s.load.hold)
    (hprevious : t.counts.previous = s.counts.previous) (hrefund : t.refund = s.refund) (htime : t.time = s.time) :
    t.retained = { s.retained with table := t.table, current := t.counts.current } := by
  have hmodes : t.lanes.map (·.mode) = s.lanes.map (·.mode) := PerLane.ext_get fun n => by
    simpa [lane] using (hlanes n).1
  have hsettings : t.lanes.map (·.settings) = s.lanes.map (·.settings) := PerLane.ext_get fun n => by
    simpa [lane] using (hlanes n).2
  simp only [retained, hmodes, hsettings, hreader, hadm, hdebounce, hload, hprevious, hrefund, htime]

theorem endContext_adm_retained (s : State) (n : Lane) :
    (s.endContext n).adm.settings = s.adm.settings ∧ (s.endContext n).adm.rules = s.adm.rules := by
  unfold endContext
  split <;> exact ⟨rfl, rfl⟩

theorem dropEntry_adm_retained (s : State) (n : Lane) (r : WithdrawReason) :
    (s.dropEntry n r).adm.settings = s.adm.settings ∧ (s.dropEntry n r).adm.rules = s.adm.rules := by
  simp [dropEntry, putVerdict, endContext_adm_retained]

theorem dropEntry_retained (s : State) (n : Lane) (r : WithdrawReason) :
    (s.dropEntry n r).retained =
      { s.retained with table := (s.dropEntry n r).table, current := (s.dropEntry n r).counts.current } :=
  retained_eq_of_frame (fun m => s.dropEntry_lane_retained n m r) (by simp) (s.dropEntry_adm_retained n r) (by simp)
    (by simp) (by rw [dropEntry_counts]) (by simp) (by simp)

/-- A withdrawal keeps the slots of the table (R1, R12). -/
theorem dropEntry_slots (s : State) (n : Lane) (r : WithdrawReason) :
    (s.dropEntry n r).table.map (·.1) = s.table.map (·.1) := (s.dropEntry_records n r).slots

theorem dropEntry_record_other {s : State} {n : Lane} {p : PassNo} (h : s.ctxPass n ≠ some p) (r : WithdrawReason) :
    (s.dropEntry n r).record p = s.record p := by
  cases hctx : s.ctxPass n with
  | none =>
    have hended := endContext_table_of_none (s := s.withLoad fun l =>
      { l with queue := l.queue.filter fun e => e.lane != n
               handed := l.handed.filter fun h => h.lane != n }) hctx
    exact record_eq_of_table (by simpa [dropEntry] using hended) p
  | some q => exact (dropEntry_record hctx r).2 p fun hq => h (hq ▸ hctx)

/-- A withdrawal ends the LIVE pin of the pass that its lane's context held, and no other (R12). -/
theorem dropEntry_record_eq (s : State) (n : Lane) (r : WithdrawReason) (p : PassNo) :
    (s.dropEntry n r).record p = (s.record p).map (PassRecord.keepPins (s.keepsPin (fun m => decide (m = n)) p)) := by
  by_cases hctx : s.ctxPass n = some p
  · have hkeep : s.keepsPin (fun m => decide (m = n)) p = fun m => !decide (m = n) := by
      funext m
      by_cases hm : m = n <;> simp [keepsPin, hm, hctx]
    rw [hkeep, (dropEntry_record hctx r).1, PassRecord.unpinned_eq]
  · have hkeep : s.keepsPin (fun m => decide (m = n)) p = fun _ => true := by
      funext m
      by_cases hm : m = n <;> simp [keepsPin, hm, hctx]
    rw [hkeep, dropEntry_record_other hctx, PassRecord.keepPins_all, Option.map_id_fun, id]

theorem inQueue_iff_mem (s : State) (n : Lane) : s.inQueue n = true ↔ ∃ e ∈ s.load.queue, e.lane = n := by
  simp [inQueue]

theorem inQueue_of_mem {s : State} {e : QueueEntry} (h : e ∈ s.load.queue) : s.inQueue e.lane = true :=
  (s.inQueue_iff_mem e.lane).mpr ⟨e, h, rfl⟩

/-! ## The withdrawal of some entries, one after the other (R115) -/

/-- `t` is `s` with the entries of the lanes `gone` withdrawn with LOW_SUPPLY: the contexts of these lanes have ended
with their LIVE pins, each is counted once, and all else that is retained, the reader, the refund engine, the clock, the
supply, the station port and the other lanes are as in `s`. -/
structure Withdrawn (s : State) (gone : Lane → Bool) (t : State) : Prop where
  load : t.load = { s.load with queue := s.load.queue.filter fun e => !gone e.lane
                                handed := s.load.handed.filter fun h => !gone h.lane }
  ended : ∀ n, gone n = true → (t.lane n).passage = .idle ∧ (t.lane n).ctx = none ∧
    ∃ v, t.adm.verdicts.get n = some v ∧ v.kind = .withdrawn .lowSupply
  others : ∀ n, gone n = false → t.lane n = s.lane n ∧ t.adm.verdicts.get n = s.adm.verdicts.get n ∧
    t.port (.lp n) = s.port (.lp n)
  counted : ∀ n, t.counts.current.lanes.get n =
    let c := s.counts.current.lanes.get n
    if gone n then { c with withdrawals := min max32 (c.withdrawals + 1) } else c
  counts : t.counts = { s.counts with current := { s.counts.current with lanes := t.counts.current.lanes } }
  record : ∀ p, t.record p = (s.record p).map (PassRecord.keepPins (s.keepsPin gone p))
  slots : t.table.map (·.1) = s.table.map (·.1)
  retained : t.retained = { s.retained with table := t.table, current := t.counts.current }
  reader : t.reader = s.reader
  refund : t.refund = s.refund
  time : t.time = s.time
  supply : t.supply = s.supply
  station : t.port .sp = s.port .sp

namespace Withdrawn

variable {s t : State} {gone : Lane → Bool}

theorem refl (s : State) : s.Withdrawn (fun _ => false) s where
  load := by simp
  ended _ h := nomatch h
  others _ _ := ⟨rfl, rfl, rfl⟩
  counted _ := rfl
  counts := rfl
  record p := by
    have hkeep : s.keepsPin (fun _ => false) p = fun _ => true := rfl
    rw [hkeep, PassRecord.keepPins_all, Option.map_id_fun, id]
  slots := rfl
  retained := rfl
  reader := rfl
  refund := rfl
  time := rfl
  supply := rfl
  station := rfl

/-- What belongs to some lanes is taken out of a list, and then what belongs to one more. -/
theorem filter_of_lanes {α : Type} (gone : Lane → Bool) (n : Lane) (f : α → Lane) (l : List α) :
    (l.filter fun x => !gone (f x)).filter (fun x => f x != n) =
      l.filter fun x => !(gone (f x) || decide (f x = n)) := by
  rw [List.filter_filter]
  exact List.filter_congr fun x _ => by simp [Bool.and_comm, bne, beq_eq_decide]

/-- One more lane's entry is withdrawn. -/
theorem drop (h : s.Withdrawn gone t) {n : Lane} (hn : gone n = false) :
    s.Withdrawn (fun m => gone m || decide (m = n)) (t.dropEntry n .lowSupply) where
  load := by
    rw [dropEntry_load, h.load]
    simp only [filter_of_lanes]
  ended m hm := by
    by_cases hsame : m = n
    · subst hsame
      obtain ⟨hpassage, hctx, _⟩ := t.dropEntry_effect m .lowSupply
      obtain ⟨v, hv, hkind, _⟩ := t.dropEntry_verdict m .lowSupply
      exact ⟨hpassage, hctx, v, hv, hkind⟩
    · rw [dropEntry_lane_other _ _ _ _ hsame, dropEntry_verdict_other _ hsame]
      exact h.ended m (by simpa [hsame] using hm)
  others m hm := by
    obtain ⟨hgone, hother⟩ : gone m = false ∧ m ≠ n := by simpa using hm
    rw [dropEntry_lane_other _ _ _ _ hother, dropEntry_verdict_other _ hother,
      dropEntry_port_other _ fun heq => hother (Port.lp.inj heq)]
    exact h.others m hgone
  counted m := by
    rw [dropEntry_counts, PerLane.get_set, h.counted n]
    by_cases hsame : m = n
    · subst hsame
      simp [hn]
    · simpa [hsame] using h.counted m
  counts := by rw [dropEntry_counts, h.counts]
  record p := by
    rw [dropEntry_record_eq, h.record, Option.map_map, PassRecord.keepPins_keepPins]
    congr 2
    funext m
    cases hgone : gone m with
    | true =>
      have hother : m ≠ n := fun heq => nomatch (heq ▸ hn).symm.trans hgone
      simp [keepsPin, hgone, hother]
    | false =>
      have hctx : t.ctxPass m = s.ctxPass m := by rw [ctxPass, (h.others m hgone).1, ctxPass]
      simp [keepsPin, hgone, hctx]
  slots := (t.dropEntry_slots n .lowSupply).trans h.slots
  retained := by rw [dropEntry_retained, h.retained]
  reader := by simpa using h.reader
  refund := by simpa using h.refund
  time := by simpa using h.time
  supply := by simpa using h.supply
  station := (dropEntry_port_other t (n := n) (p := .sp) (by simp) _).trans h.station

theorem inQueue_iff (h : s.Withdrawn gone t) (n : Lane) :
    t.inQueue n = true ↔ s.inQueue n = true ∧ gone n = false := by
  simp only [State.inQueue, h.load, List.any_eq_true, List.mem_filter, Bool.not_eq_true', beq_iff_eq]
  constructor
  · rintro ⟨e, ⟨he, hgone⟩, rfl⟩
    exact ⟨⟨e, he, rfl⟩, hgone⟩
  · rintro ⟨⟨e, he, rfl⟩, hgone⟩
    exact ⟨e, ⟨he, hgone⟩, rfl⟩

/-- Outside RUN a withdrawal takes the lane's entry where it has one, and serves none (R109). -/
theorem withdraw (h : s.Withdrawn gone t) (hstate : s.supply.state ≠ .run) (n : Lane) :
    s.Withdrawn (fun m => gone m || (decide (m = n) && s.inQueue m)) (t.withdraw n .lowSupply) := by
  rw [withdraw_outside_run _ _ _ (h.supply ▸ hstate)]
  split
  · next hqueued =>
    obtain ⟨hin, hn⟩ := (h.inQueue_iff n).mp hqueued
    have hgone : (fun m => gone m || (decide (m = n) && s.inQueue m)) = fun m => gone m || decide (m = n) := by
      funext m
      by_cases hm : m = n <;> simp [hm, hin]
    exact hgone ▸ h.drop hn
  · next habsent =>
    have hgone : (fun m => gone m || (decide (m = n) && s.inQueue m)) = gone := by
      funext m
      by_cases hm : m = n
      · subst hm
        cases hg : gone m with
        | true => simp
        | false => simpa [hg] using fun hin : s.inQueue m = true => habsent ((h.inQueue_iff m).mpr ⟨hin, hg⟩)
      · simp [hm]
    exact hgone.symm ▸ h

/-- The lanes of a list are withdrawn from one after the other. -/
theorem foldl (hstate : s.supply.state ≠ .run) (ns : List Lane) (h : s.Withdrawn gone t) :
    s.Withdrawn (fun m => gone m || (decide (m ∈ ns) && s.inQueue m))
      (ns.foldl (fun u n => u.withdraw n .lowSupply) t) := by
  induction ns generalizing gone t with
  | nil => simpa using h
  | cons n ns ih =>
    have hgone : (fun m => gone m || (decide (m ∈ n :: ns) && s.inQueue m)) = fun m =>
        (gone m || (decide (m = n) && s.inQueue m)) || (decide (m ∈ ns) && s.inQueue m) := by
      funext m
      simp [Bool.or_assoc, Bool.and_or_distrib_right]
    exact hgone ▸ ih (h.withdraw hstate n)

end Withdrawn

/-- Outside RUN the withdrawal of the whole queue takes the entries of all its lanes (R115). -/
theorem withdrawAll_withdrawn {s : State} (hstate : s.supply.state ≠ .run) : s.Withdrawn s.inQueue s.withdrawAll := by
  have hall := (Withdrawn.refl s).foldl hstate (s.load.queue.map (·.lane))
  have hgone : (fun m => false || (decide (m ∈ s.load.queue.map (·.lane)) && s.inQueue m)) = s.inQueue := by
    funext m
    cases hin : s.inQueue m with
    | false => simp
    | true => simpa [inQueue] using hin
  exact hgone ▸ hall

theorem withdrawAll_empty {s : State} (h : s.load.queue = []) : s.withdrawAll = s := by simp [withdrawAll, h]

/-- The service order of the withdrawals is the order of the entries (R115). -/
theorem withdrawAll_eq_foldl (s : State) :
    s.withdrawAll = s.load.queue.foldl (fun s e => s.withdraw e.lane .lowSupply) s := List.foldl_map

namespace Withdrawn

variable {s t : State} (h : s.Withdrawn s.inQueue t)
include h

theorem load_all : t.load = { s.load with queue := [], handed := s.load.handed.filter fun h => !s.inQueue h.lane } := by
  have hqueue : s.load.queue.filter (fun e => !s.inQueue e.lane) = [] :=
    List.filter_eq_nil_iff.mpr fun e he => by simpa using inQueue_of_mem he
  rw [h.load, hqueue]

theorem ended_of_mem {e : QueueEntry} (he : e ∈ s.load.queue) : (t.lane e.lane).passage = .idle ∧
    (t.lane e.lane).ctx = none ∧ ∃ v, t.adm.verdicts.get e.lane = some v ∧ v.kind = .withdrawn .lowSupply :=
  h.ended e.lane (inQueue_of_mem he)

/-- The LIVE pins that end are those of the queue's entries. -/
theorem record_all (p : PassNo) : t.record p = (s.record p).map fun r =>
    if ∃ e ∈ s.load.queue, s.ctxPass e.lane = some p ∧ r.live = some e.lane then { r with live := none } else r := by
  rw [h.record]
  congr 1
  funext r
  split
  · next hended =>
    obtain ⟨e, he, hctx, hlive⟩ := hended
    exact PassRecord.keepPins_ended hlive (by simp [keepsPin, inQueue_of_mem he, hctx])
  · next hkept =>
    refine PassRecord.keepPins_kept fun n hlive => ?_
    simp only [keepsPin, Bool.not_eq_true', Bool.and_eq_false_imp, decide_eq_false_iff_not]
    intro hin hctx
    obtain ⟨e, he, rfl⟩ := (s.inQueue_iff_mem n).mp hin
    exact hkept ⟨e, he, hctx, hlive⟩

end Withdrawn
end State

/-! # The supply monitor, RESET and VBAK (O52) -/

section

variable {s : State}

/-! ## VMAIN in a running part (R181) -/

namespace State

/-- The state after VMAIN has moved and before the supply monitor acts (R181). -/
def vmainMoved (s : State) (band : VmainBand) : State := s.withSupply (Supply.moveVmain band)

end State

theorem exec_vmainChange_running (hrunning : s.stopped = false) (band : VmainBand) :
    exec (.vmainChange band) s = .next (s.vmainMoved band).monitorRunning := by
  change execVmainChange band s = _
  simp [execVmainChange, hrunning, State.vmainMoved]

theorem exec_vmainChange_stopped (hstopped : s.stopped = true) (band : VmainBand) :
    exec (.vmainChange band) s = .next ((s.vmainMoved band).withSupply Supply.monitorHeld) := by
  change execVmainChange band s = _
  simp [execVmainChange, hstopped, State.vmainMoved]

namespace State

theorem monitorRunning_down (h : s.supply.state ≠ .down) (hvmain : s.supply.vmain = .belowRetention) :
    s.monitorRunning = s.enterDown := by
  unfold monitorRunning
  cases hstate : s.supply.state with
  | run | low => simp [hvmain]
  | down => exact absurd hstate h

/-- The state at a fall below the retention threshold, before the queue is withdrawn (R181). -/
def fallen (s : State) : State :=
  s.withSupply fun u => { u with state := .down, recovery := none, lastChange := some s.time.runSec }

/-- DOWN withdraws the queue like LOW, and leaves what is retained but for the withdrawals (R115, R181, R183). -/
theorem enterDown_effect (s : State) :
    s.enterDown.supply = s.fallen.supply ∧ s.enterDown.stopped = true ∧ s.enterDown.load.queue = [] ∧
      (s.load.queue = [] → s.enterDown = s.fallen) ∧
      s.enterDown.retained =
        { s.retained with table := s.enterDown.table, current := s.enterDown.counts.current } ∧
      ∀ e ∈ s.load.queue, (s.enterDown.lane e.lane).passage = .idle ∧ (s.enterDown.lane e.lane).ctx = none ∧
        ∃ v, s.enterDown.adm.verdicts.get e.lane = some v ∧ v.kind = .withdrawn .lowSupply := by
  have hall : s.fallen.Withdrawn s.fallen.inQueue s.enterDown := withdrawAll_withdrawn nofun
  exact ⟨hall.supply, (stopped_iff _).mpr (.inl (by rw [hall.supply]; rfl)), congrArg Loading.queue hall.load_all,
    fun hempty => withdrawAll_empty (s := s.fallen) hempty, hall.retained, fun _ he => hall.ended_of_mem he⟩

theorem monitorRunning_sags (h : s.supply.state = .run) (hvmain : s.supply.vmain = .belowWarning) :
    s.monitorRunning = s.enterLow := by
  simp [monitorRunning, h, hvmain, sagging]

theorem monitorRunning_stays (h : s.supply.state = .run)
    (hvmain : s.supply.vmain = .belowRecovery ∨ s.supply.vmain = .aboveRecovery) : s.monitorRunning = s := by
  rcases hvmain with hvmain | hvmain <;> simp [monitorRunning, h, hvmain, sagging]

theorem monitorRunning_rises (h : s.supply.state = .low) (hvmain : s.supply.vmain = .aboveRecovery) :
    s.monitorRunning =
      s.withSupply fun u => { u with recovery := some (s.supply.recovery.getD (s.time.ms + 200)) } := by
  unfold monitorRunning
  cases hrecovery : s.supply.recovery <;>
    simp [h, hvmain, hrecovery, withSupply, Supply.watchRecovery]

theorem monitorRunning_falls (h : s.supply.state = .low)
    (hvmain : s.supply.vmain = .belowWarning ∨ s.supply.vmain = .belowRecovery) :
    s.monitorRunning = s.withSupply fun u => { u with recovery := none } := by
  rcases hvmain with hvmain | hvmain <;> simp [monitorRunning, h, hvmain, withSupply, Supply.watchRecovery]

/-! ## RECOVERY TIMER (R181) -/

theorem recoveryDue_iff {d : Nat} (hstate : s.supply.state = .low) (h : s.supply.recovery = some d) :
    s.recoveryDue = true ↔ d ≤ s.time.ms := by
  simp [recoveryDue, hstate, h]

end State

theorem exec_recoveryTimer_running (hrunning : s.stopped = false) :
    exec .recoveryTimer s = .next (if s.recoveryDue then s.enterRun else s) :=
  congrArg Host.Outcome.next (State.running_of_not_stopped hrunning _)

/-! ## RESET and VBAK (R183, R184) -/

theorem Supply.monitorHeld_vmain (u : Supply) : u.monitorHeld.vmain = u.vmain := by
  unfold Supply.monitorHeld
  (repeat' split) <;> rfl

/-- While RESET is held a fall below the retention threshold is DOWN (R181; log 19). -/
theorem Supply.monitorHeld_falls (u : Supply) : (u.moveVmain .belowRetention).monitorHeld.state = .down :=
  (u.moveVmain .belowRetention).monitorHeld_follows.1 (Supply.monitorHeld_vmain _)

theorem exec_vbakFailure_kept (h : s.supply.vmain ≠ .belowRetention) : exec .vbakFailure s = .next s :=
  congrArg Host.Outcome.next (if_neg h)

theorem exec_vbakFailure_lost (h : s.supply.vmain = .belowRetention) : exec .vbakFailure s =
    .next { s with supply := { s.supply with checkSkew := lostSkew s.free }, free := s.free + 1 } :=
  congrArg Host.Outcome.next (if_pos h)

end

/-- Settles O52: the supply monitor by band and state, RESET, VBAK, and what the withdrawal of the queue leaves. -/
theorem supplyMonitorResetAndVbak : Obligations.SupplyMonitorResetAndVbak := by
  refine ⟨fun band s hrunning => ?_, fun s => ⟨⟨_, rfl, ?_, rfl, rfl, rfl⟩, fun hheld _ =>
    ⟨_, exec_vmainChange_stopped (s.stopped_iff.mpr (.inr hheld)) _, rfl, s.supply.monitorHeld_falls⟩,
    exec_vbakFailure_kept, fun hbelow => ⟨_, lostSkew_ne_zero s.free, exec_vbakFailure_lost hbelow⟩, fun hstate => ?_,
    s.withdrawAll_eq_foldl⟩⟩
  · have hmonitor := exec_vmainChange_running hrunning band
    have hup : s.supply.state ≠ .down := fun hdown => by simp [State.stopped, hdown] at hrunning
    refine ⟨fun hrun => ⟨fun hband => ?_, fun hband => ?_⟩, fun hband => ?_, fun hlow => ⟨fun hband => ?_,
      fun hband => ?_, fun d hd => ⟨fun hearly => ?_, fun hdue => ?_⟩⟩⟩
    · rw [hmonitor, State.monitorRunning_sags (s := s.vmainMoved band) hrun hband]
      rfl
    · rw [hmonitor, State.monitorRunning_stays (s := s.vmainMoved band) hrun hband]
      rfl
    · rw [hmonitor, State.monitorRunning_down (s := s.vmainMoved band) hup hband]
      exact ⟨_, rfl, rfl, (s.vmainMoved band).enterDown_effect⟩
    · rw [hmonitor, State.monitorRunning_rises (s := s.vmainMoved band) hlow hband]
      rfl
    · rw [hmonitor, State.monitorRunning_falls (s := s.vmainMoved band) hlow hband]
      rfl
    · rw [exec_recoveryTimer_running hrunning, if_neg]
      exact mt (State.recoveryDue_iff hlow hd).mp (Nat.not_le.mpr hearly)
    · rw [exec_recoveryTimer_running hrunning, if_pos ((State.recoveryDue_iff hlow hd).mpr hdue)]
      rfl
  · exact (State.stopped_iff _).mpr (.inr rfl)
  · have hall := State.withdrawAll_withdrawn hstate
    exact ⟨hall.load_all, fun e he => hall.ended_of_mem he, hall.others, hall.counted, hall.counts, hall.record_all,
      hall.slots, hall.retained, hall.reader, hall.refund, hall.time, hall.supply, hall.station⟩

end Sys2Proof.Machine

/-! # Start-ups (O53)

A start-up gives every block its start-up values over the retained content, warm or cold, and then lets the arbiter
start the first visit. `State.started` is the part before that visit; the arbiter moves visit and pointer of the reader
alone. -/

namespace Sys2Proof

/-! ## The lanes in their order -/

theorem Lane.all_getElem?_toNat (n : Lane) : Lane.all[n.toNat]? = some n := by
  cases n <;> rfl

theorem Lane.toNat_injective : Function.Injective Lane.toNat := fun n m h =>
  Option.some.inj (by rw [← n.all_getElem?_toNat, h, m.all_getElem?_toNat])

/-- A search through the lanes finds the first one that fits. -/
theorem Lane.find?_all {q : Lane → Bool} {n : Lane} (hn : q n = true)
    (hfirst : ∀ m, m.toNat < n.toNat → q m = false) : Lane.all.find? q = some n := by
  cases n with
  | l0 => simp [Lane.all, hn]
  | l1 => simp [Lane.all, hn, hfirst .l0 (by decide)]
  | l2 => simp [Lane.all, hn, hfirst .l0 (by decide), hfirst .l1 (by decide)]
  | l3 => simp [Lane.all, hn, hfirst .l0 (by decide), hfirst .l1 (by decide), hfirst .l2 (by decide)]

theorem Lane.exists_first {P : Lane → Prop} (h : ∃ n, P n) : ∃ n, P n ∧ ∀ m, m.toNat < n.toNat → ¬P m := by
  obtain ⟨n, hn, hmin⟩ := (measure Lane.toNat).wf.has_min {n | P n} h
  exact ⟨n, hn, fun m hlt hm => hmin m hm hlt⟩

theorem Lane.first_unique {P : Lane → Prop} {n m : Lane} (hn : P n) (hm : P m)
    (hnfirst : ∀ k, k.toNat < n.toNat → ¬P k) (hmfirst : ∀ k, k.toNat < m.toNat → ¬P k) : n = m := by
  have hle : n.toNat ≤ m.toNat := Nat.not_lt.mp fun hlt => hnfirst m hlt hm
  have hge : m.toNat ≤ n.toNat := Nat.not_lt.mp fun hlt => hmfirst n hlt hn
  exact Lane.toNat_injective (Nat.le_antisymm hle hge)

end Sys2Proof

namespace Sys2Proof.Machine

/-! ## The part before its first visit (R185 to R187) -/

namespace State

/-- The retained content that a start-up keeps: as it stands with the warm fix-ups, or the cold values (R186, R187). -/
def startContent (s : State) : State := if s.supply.checkValid then s.warmContent else s.coldContent

def startKind (s : State) : StartKind := if s.supply.checkValid then .warm else .cold

/-- The start-up values of every block over the content `c` (R185 step 3). -/
def started (c : State) (kind : StartKind) (cause : StartCause) (selected : PerPort Bool) : State :=
  { table := c.table
    reader := c.reader.start
    adm := c.adm.start
    lanes := c.lanes.map LaneUnit.start
    debounce := c.debounce
    load := c.load.start
    counts := c.counts.start
    refund := c.refund.start
    time := c.time.start
    ports := .start kind (!c.refund.journal.isEmpty) selected
    supply := c.supply.start kind cause
    free := c.free
    pending := c.pending }

theorem startUp_eq (s : State) (cause : StartCause) (selected : PerPort Bool) :
    s.startUp cause selected = (s.startContent.started s.startKind cause selected).arbiter := by
  unfold startUp startContent startKind
  cases s.supply.checkValid <;> rfl

section

variable {s : State}

theorem startContent_warm (h : s.supply.checkValid = true) : s.startContent = s.warmContent := if_pos h

theorem startKind_warm (h : s.supply.checkValid = true) : s.startKind = .warm := if_pos h

theorem startContent_cold (h : s.supply.checkValid = false) : s.startContent = s.coldContent := by
  simp [startContent, h]

theorem startKind_cold (h : s.supply.checkValid = false) : s.startKind = .cold := by
  simp [startKind, h]

/-- Neither content moves the supply. -/
theorem startContent_supply (s : State) : s.startContent.supply = s.supply := by
  unfold startContent
  split <;> rfl

theorem coldContent_lane (s : State) (n : Lane) :
    (s.coldContent.lane n).mode = .closed ∧ (s.coldContent.lane n).settings = .cold := by
  simp [lane, coldContent]

/-- A start-up ends the hold of RESET itself (R185). -/
theorem startUp_released (s : State) (cause : StartCause) (selected : PerPort Bool) :
    (s.withSupply fun u => { u with resetHeld := false }).startUp cause selected = s.startUp cause selected := by
  have hvalid : (s.withSupply fun u => { u with resetHeld := false }).supply.checkValid = s.supply.checkValid := rfl
  rw [startUp_eq, startUp_eq, startContent, startContent, startKind, startKind, hvalid]
  cases s.supply.checkValid <;> rfl

end

end State

/-- The command starts a part that is DOWN by power return, or held by RESET, where VMAIN stands (R185). -/
theorem exec_startUp {s : State} {cause : StartCause} (selected : PerPort Bool)
    (hvmain : s.supply.vmain ≠ .belowRetention)
    (hready : (cause = .power ∧ s.supply.state = .down ∧ s.supply.resetHeld = false) ∨
      (cause = .reset ∧ s.supply.resetHeld = true)) :
    exec (.startUp cause selected) s = .next (s.startUp cause selected) := by
  rcases hready with ⟨rfl, hdown, hreleased⟩ | ⟨rfl, hheld⟩
  · exact congrArg Host.Outcome.next (if_pos ⟨hdown, hreleased, hvmain⟩)
  · rw [← State.startUp_released]
    exact congrArg Host.Outcome.next ((if_pos hheld).trans (if_pos hvmain))

/-! ## The blocks of a start-up -/

/-- A fault flag is set where the antenna's tune record shows OPEN or SHORT (R57). -/
theorem Reader.startPos_fault (d : Reader) (p : Position) :
    (d.startPos p).fault = true ↔
      ∃ a x, d.map.get p = some a ∧ d.tunes.get a = some x ∧ (x.result = .opened ∨ x.result = .shorted) := by
  unfold Reader.startPos
  cases hmap : d.map.get p with
  | none => simp
  | some a => cases htune : d.tunes.get a <;> simp [htune]

/-- VMAIN above the recovery level for 200 ms gives RUN, and LOW else, with the timer running above that level
(R185 step 4). -/
theorem Supply.start_state (u : Supply) (kind : StartKind) (cause : StartCause) :
    let full := u.vmain = .aboveRecovery ∧ 200 ≤ u.stood
    (full → (u.start kind cause).state = .run ∧ (u.start kind cause).recovery = none) ∧
      (¬full → (u.start kind cause).state = .low ∧
        (u.start kind cause).recovery = if u.vmain = .aboveRecovery then some 200 else none) := by
  refine ⟨fun ⟨hvmain, hstood⟩ => by simp [Supply.start, hvmain, hstood], fun hnot => ?_⟩
  by_cases hvmain : u.vmain = .aboveRecovery
  · have hstood : ¬200 ≤ u.stood := fun h => hnot ⟨hvmain, h⟩
    simp [Supply.start, hvmain, hstood]
  · simp [Supply.start, hvmain]

theorem Supply.start_running (u : Supply) (kind : StartKind) (cause : StartCause) :
    (u.start kind cause).state ≠ .down ∧ (u.start kind cause).resetHeld = false := by
  refine ⟨?_, rfl⟩
  unfold Supply.start
  dsimp only
  split <;> nofun

section

variable (c : State) (kind : StartKind) (cause : StartCause) (selected : PerPort Bool)

namespace State

theorem started_lane (n : Lane) : (c.started kind cause selected).lane n = (c.lane n).start :=
  PerLane.get_map LaneUnit.start c.lanes n

/-- Mode and settings of a lane are retained (R103, Table 10-2). -/
theorem started_lane_retained (n : Lane) :
    ((c.started kind cause selected).lane n).mode = (c.lane n).mode ∧
      ((c.started kind cause selected).lane n).settings = (c.lane n).settings := by
  rw [started_lane]
  exact ⟨rfl, rfl⟩

/-- Nothing of a rider outlasts a start-up at a lane (R80, R103). -/
theorem started_lane_empty (n : Lane) :
    let t := c.started kind cause selected
    (t.lane n).passage = .idle ∧ (t.lane n).tracker = .clear ∧ (t.lane n).ctx = none ∧ (t.lane n).signal = none ∧
      (t.lane n).tone = none ∧ (t.lane n).report = none ∧ t.adm.verdicts.get n = none ∧ t.adm.quiet.get n = none ∧
      t.adm.notes.get n = none := by
  dsimp only
  rw [started_lane]
  exact ⟨rfl, rfl, rfl, rfl, rfl, rfl, PerLane.get_const none n, PerLane.get_const none n, PerLane.get_const none n⟩

theorem started_pos (p : Position) : (c.started kind cause selected).reader.pos.get p = c.reader.startPos p := by
  cases p with
  | ps => rfl
  | lane n => cases n <;> rfl

/-- A position remembers its fault alone, from the tune record of its antenna (R57). -/
theorem started_pos_fresh (p : Position) :
    let t := c.started kind cause selected
    (t.reader.pos.get p).faultCount = 0 ∧ (t.reader.pos.get p).degraded = false ∧
      (t.reader.pos.get p).collideRun = 0 ∧ (t.reader.pos.get p).lastOutcome = none ∧
      ((t.reader.pos.get p).fault = true ↔ ∃ a x, t.reader.map.get p = some a ∧ t.reader.tunes.get a = some x ∧
        (x.result = .opened ∨ x.result = .shorted)) := by
  dsimp only
  rw [started_pos]
  exact ⟨rfl, rfl, rfl, rfl, c.reader.startPos_fault p⟩

theorem started_port_lane (n : Lane) :
    (c.started kind cause selected).port (.lp n) = .startWith (selected.lp.get n) :=
  PerLane.get_map PortCtx.startWith selected.lp n

/-- Every port is empty and waits for its select where that is active (R167, R168). -/
theorem started_port_empty (p : Port) :
    let t := c.started kind cause selected
    (t.port p).slot = .empty ∧ (t.port p).lost = false ∧ (t.port p).delivered = false ∧ (t.port p).mask = 0 ∧
      (t.port p).awaitRelease = selected.get p := by
  cases p with
  | sp => exact ⟨rfl, rfl, rfl, rfl, rfl⟩
  | lp n =>
    dsimp only
    rw [started_port_lane]
    exact ⟨rfl, rfl, rfl, rfl, rfl⟩

theorem started_port_lane_notices (n : Lane) : ((c.started kind cause selected).port (.lp n)).notices = 0 := by
  rw [started_port_lane]
  rfl

/-- The station port starts with START, and with JOURNAL where the journal holds entries (R152, R168). -/
theorem started_port_station_notices :
    ((c.started kind cause selected).port .sp).notices =
      (StationNotice.start.mask ||| if c.refund.journal = [] then 0 else StationNotice.journal.mask) := by
  cases hjournal : c.refund.journal <;>
    simp [started, port, Ports.start, PerPort.get, hjournal]

theorem started_running : (c.started kind cause selected).stopped = false := by
  obtain ⟨hstate, hreset⟩ := c.supply.start_running kind cause
  have hnot := (stopped_iff (c.started kind cause selected)).not.mpr (not_or_intro hstate (by simp [started, hreset]))
  simpa using hnot

end State

end

/-! ## The first visit (R38, R39) -/

namespace State

/-- A lane whose position a part without work may scan: in RUN, OPEN, mapped and without a fault (R35, R38). -/
def scannable (s : State) (n : Lane) : Prop :=
  s.supply.state = .run ∧ (s.lane n).mode = .opened ∧ s.reader.map.get (.lane n) ≠ none ∧
    (s.reader.pos.get (.lane n)).fault = false

theorem scannable.mapped {s : State} {n : Lane} (h : s.scannable n) : ∃ a, s.reader.map.get (.lane n) = some a := by
  obtain ⟨_, _, hmapped, _⟩ := h
  exact Option.ne_none_iff_exists'.mp hmapped

/-- No work waits at the reader, no visit is in flight, and every lane is IDLE. -/
structure WithoutWork (s : State) : Prop where
  visit : s.reader.visit = none
  slot : s.reader.slot = none
  stamps : s.reader.stamps = []
  tunes : s.reader.tuneList = []
  idle : ∀ n, (s.lane n).passage = .idle

namespace WithoutWork

variable {s : State} (h : s.WithoutWork)
include h

theorem posState_eq_scan_iff (n : Lane) : s.posState (.lane n) = .scan ↔
    (s.lane n).mode = .opened ∧ s.reader.map.get (.lane n) ≠ none ∧ (s.reader.pos.get (.lane n)).fault = false := by
  have htuned : ¬(s.reader.map.get (.lane n) ≠ none ∧ s.reader.map.get (.lane n) = s.tuning) := by
    simp [tuning, h.visit]
  have hbusy : ¬s.posBusy (.lane n) = true := by simp [posBusy_lane_iff, h.idle, h.stamps]
  by_cases hfault : (s.reader.pos.get (.lane n)).fault = true
  · simp [posState_fault htuned hfault, hfault]
  · by_cases hmap : s.reader.map.get (.lane n) = none
    · simp [posState_unmapped htuned hfault hmap, hmap]
    · rw [posState_free htuned hfault hmap hbusy]
      by_cases hmode : (s.lane n).mode = .opened <;> simp [hmap, hfault, hmode]

theorem serviceChoice_none : s.serviceChoice = none := serviceChoice_of_empty h.slot

/-- No lane can be scanned: the arbiter starts nothing. -/
theorem arbiter_still (hnone : ∀ n, ¬s.scannable n) : s.arbiter = s := by
  by_cases hrun : s.stopped = false ∧ s.supply.state = .run
  · obtain ⟨hrunning, hstate⟩ := hrun
    refine arbiter_rests ⟨hrunning, hstate, h.visit⟩ h.serviceChoice_none (stampChoice_of_nil h.stamps) h.tunes ?_
    exact scanChoice_of_none fun n hscan => hnone n ⟨hstate, (h.posState_eq_scan_iff n).mp hscan⟩
  · refine arbiter_waits ?_
    cases hstopped : s.stopped with
    | true => exact .inl rfl
    | false => exact .inr (.inl fun hstate => hrun ⟨hstopped, hstate⟩)

/-- From P3 on the pointer goes round to the first lane that can be scanned (R39). -/
theorem arbiter_scans (hrunning : s.stopped = false) (hpointer : s.reader.pointer = .l3) {n : Lane} {a : Antenna}
    (hn : s.scannable n) (hfirst : ∀ m, m.toNat < n.toNat → ¬s.scannable m)
    (hmap : s.reader.map.get (.lane n) = some a) :
    s.arbiter = (s.startVisit (s.cardVisit .scanRead (.lane n) a)).withReader fun d => { d with pointer := n } := by
  obtain ⟨hrun, hfree⟩ := hn
  have hchoice : s.scanChoice = some n := by
    rw [scanChoice_eq, hpointer]
    refine Lane.find?_all (by simpa using (h.posState_eq_scan_iff n).mpr hfree) fun m hm => ?_
    simpa using fun hscan => hfirst m hm ⟨hrun, (h.posState_eq_scan_iff m).mp hscan⟩
  rw [arbiter_scan ⟨hrunning, hrun, h.visit⟩ h.serviceChoice_none (stampChoice_of_nil h.stamps) h.tunes hchoice]
  exact startScan_of_mapped hmap

/-- The arbiter moves visit and pointer alone: it starts the scan read of the first lane that can be scanned
(R38, R39). -/
theorem arbiter_reader (hrunning : s.stopped = false) (hpointer : s.reader.pointer = .l3) :
    ∃ v n, s.arbiter = s.withReader (fun d => { d with visit := v, pointer := n }) ∧
      ((∀ m, ¬s.scannable m) → n = .l3 ∧ v = none) ∧
      ∀ m a, s.scannable m → (∀ k, k.toNat < m.toNat → ¬s.scannable k) → s.reader.map.get (.lane m) = some a →
        n = m ∧ v = some (s.cardVisit .scanRead (.lane m) a) := by
  by_cases hnone : ∀ m, ¬s.scannable m
  · refine ⟨none, .l3, (h.arbiter_still hnone).trans ?_, fun _ => ⟨rfl, rfl⟩, fun m _ hm => absurd hm (hnone m)⟩
    rw [withReader, ← h.visit, ← hpointer]
  · obtain ⟨n, hn, hfirst⟩ := Lane.exists_first (not_forall_not.mp hnone)
    obtain ⟨a, ha⟩ := hn.mapped
    refine ⟨_, n, h.arbiter_scans hrunning hpointer hn hfirst ha, fun hall => absurd hn (hall n),
      fun m b hm hmfirst hb => ?_⟩
    obtain rfl := Lane.first_unique hn hm hfirst hmfirst
    obtain rfl : a = b := Option.some.inj (ha.symm.trans hb)
    exact ⟨rfl, rfl⟩

end WithoutWork

theorem started_withoutWork (c : State) (kind : StartKind) (cause : StartCause) (selected : PerPort Bool) :
    (c.started kind cause selected).WithoutWork where
  visit := rfl
  slot := rfl
  stamps := rfl
  tunes := rfl
  idle n := (c.started_lane_empty kind cause selected n).1

end State

/-! ## The start-up as a whole -/

/-- Settles O53: the values of both kinds of start, the first visit, and the items of Table 10-2, kept or cold. -/
theorem startUpIsWarmOrCold : Obligations.StartUpIsWarmOrCold := by
  refine ⟨State.checkValid_iff, fun cause selected s hvmain hready => ?_⟩
  have hexec := exec_startUp selected hvmain hready
  rw [State.startUp_eq] at hexec
  have hsupply := s.startContent_supply
  obtain ⟨c, hc⟩ : ∃ c, s.startContent = c := ⟨_, rfl⟩
  obtain ⟨kind, hkind⟩ : ∃ kind, s.startKind = kind := ⟨_, rfl⟩
  rw [hc] at hexec hsupply
  rw [hkind] at hexec
  have hrunning := c.started_running kind cause selected
  obtain ⟨v, pointer, harbiter, hstill, hscans⟩ :=
    (c.started_withoutWork kind cause selected).arbiter_reader hrunning rfl
  rw [harbiter] at hexec
  refine ⟨_, hexec, hrunning, (State.checkValid_iff _).mp rfl, c.started_lane_empty kind cause selected, rfl, rfl, rfl,
    rfl, rfl, rfl, rfl, c.started_pos_fresh kind cause selected, rfl, rfl, rfl, rfl, rfl, rfl, rfl, rfl, rfl, rfl, rfl,
    rfl, rfl, rfl, rfl, rfl, rfl, ⟨hstill, hscans⟩, hsupply ▸ c.supply.start_state kind cause, rfl, rfl, rfl, rfl,
    c.started_port_empty kind cause selected, c.started_port_lane_notices kind cause selected,
    c.started_port_station_notices kind cause selected, fun hvalid => ?_, fun hvalid => ?_⟩
  · obtain rfl := hc.symm.trans (State.startContent_warm hvalid)
    obtain rfl := hkind.symm.trans (State.startKind_warm hvalid)
    refine ⟨rfl, ?_, rfl, rfl, rfl, rfl, rfl, rfl, s.warmContent.started_lane_retained .warm cause selected, rfl, rfl,
      rfl, rfl, rfl, rfl, rfl, rfl, rfl, rfl, rfl, rfl⟩
    refine List.map_congr_left fun e _ => ?_
    dsimp only [warmRecord]
    cases e.2.state <;> rfl
  · obtain rfl := hc.symm.trans (State.startContent_cold hvalid)
    obtain rfl := hkind.symm.trans (State.startKind_cold hvalid)
    refine ⟨rfl, rfl, rfl, fun a => ⟨PerAnt.get_const 8 a, PerAnt.get_const none a⟩, rfl, rfl, coldRules_get,
      fun n => ?_, rfl, rfl, rfl, rfl, rfl, rfl, rfl, rfl, rfl, rfl, rfl, rfl⟩
    obtain ⟨hmode, hsettings⟩ := s.coldContent.started_lane_retained .cold cause selected n
    obtain ⟨hclosed, hcold⟩ := s.coldContent_lane n
    exact ⟨hmode.trans hclosed, hsettings.trans hcold⟩

end Sys2Proof.Machine

/-! # Every order stands in its frame (O5) -/

namespace Sys2Proof.Machine

/-! ## Operands at their places (R190) -/

section

variable {b : List Byte} {i : Nat}

theorem ofNat_field {k w : Nat} (hw : w = 8 * k) {x : BitVec w} (h : (b.drop i).take k = beBytes k x.toNat) :
    BitVec.ofNat w (field b i k) = x := by
  rw [field, h, beNat_beBytes_toNat hw, BitVec.ofNat_toNat, BitVec.setWidth_eq]

theorem passAt_eq {x : PassNo} (h : (b.drop i).take 5 = beBytes 5 x.toNat) : passAt b i = x := ofNat_field rfl h

theorem wordAt_eq {x : BitVec 16} (h : (b.drop i).take 2 = beBytes 2 x.toNat) : wordAt b i = x := ofNat_field rfl h

theorem tripleAt_eq {x : BitVec 24} (h : (b.drop i).take 3 = beBytes 3 x.toNat) : tripleAt b i = x := ofNat_field rfl h

end

/-! ## Operands behind a known number of bytes -/

section

variable {before : List Byte} {n : Nat} (hn : before.length = n) (after : List Byte) (i : Nat)
include hn

theorem byteAt_behind : byteAt (before ++ after) (n + i) = byteAt after i := by
  subst hn
  rw [byteAt, List.getD_append_right _ _ _ _ (Nat.le_add_right ..), Nat.add_sub_cancel_left]
  rfl

theorem wordAt_behind : wordAt (before ++ after) (n + i) = wordAt after i := by
  subst hn
  rw [wordAt, field, List.drop_length_add_append]
  rfl

end

/-! ## TARIFF PUT, part 1 (R191) -/

theorem length_prices {k : Nat} (prices : Vector (BitVec 24) k) :
    (prices.toList.map fun x => beBytes 3 x.toNat).flatten.length = 3 * k := by
  simp [List.length_flatten, length_beBytes, Function.comp_def, Nat.mul_comm]

/-- A part 1 body carries its product, its prices and the terms behind them. -/
theorem tariffPutOf_part1 (p : Port) (product : BitVec 16) (prices : Vector (BitVec 24) 11) (fee : BitVec 16)
    (minDays : Byte) (unit minRefund : BitVec 16) (claim refundable : Byte) :
    tariffPutOf p ([1] ++ beBytes 2 product.toNat ++ (prices.toList.map fun x => beBytes 3 x.toNat).flatten ++
        beBytes 2 fee.toNat ++ [minDays] ++ beBytes 2 unit.toNat ++ beBytes 2 minRefund.toNat ++ [claim, refundable]) =
      some (.tariffPutPart1 p product prices fee minDays unit minRefund claim refundable) := by
  generalize hterms : beBytes 2 fee.toNat ++ ([minDays] ++ (beBytes 2 unit.toNat ++ (beBytes 2 minRefund.toNat ++
    [claim, refundable]))) = terms
  have hprices := pricesAt_body (head := [1] ++ beBytes 2 product.toNat) (after := terms) rfl prices
  have hbefore : ([1] ++ (beBytes 2 product.toNat ++
      (prices.toList.map fun x : BitVec 24 => beBytes 3 x.toNat).flatten)).length = 36 := by
    simp only [List.length_append, length_beBytes, length_prices]
    rfl
  have hbyte := byteAt_behind hbefore terms
  have hword := wordAt_behind hbefore terms
  simp only [List.append_assoc] at hprices hbyte hword ⊢
  rw [hterms]
  refine congrArg some ((Instr.tariffPutPart1.injEq ..).mpr
    ⟨rfl, wordAt_eq rfl, hprices, (hword 0).trans ?_, (hbyte 2).trans ?_, (hword 3).trans ?_, (hword 5).trans ?_,
      (hbyte 7).trans ?_, (hbyte 8).trans ?_⟩) <;> subst hterms
  · exact wordAt_eq rfl
  · rfl
  · exact wordAt_eq rfl
  · exact wordAt_eq rfl
  · rfl
  · rfl

/-! ## Every order and its body (Table 11-1) -/

/-- No body of Table 11-1 is above the 56 bytes of R169. -/
theorem orderLength_le {code : Byte} {n : Nat} (h : orderLength code = some n) : n ≤ 56 := by
  unfold orderLength at h
  split at h <;> simp at h <;> omega

section

variable {i : Instr} {p : Port} {code : Byte} {body : List Byte} (hbody : orderBody i = some (code, body))
include hbody

theorem orderLength_orderBody : orderLength code = some body.length := by
  cases i <;> cases hbody
  case tariffPutPart1 | tariffPutPart2 =>
    simp only [List.length_append, length_beBytes, length_prices]
    rfl
  all_goals rfl

theorem orderBody_ne_fetch : code ≠ 0xF0#8 := by
  rintro rfl
  exact nomatch orderLength_orderBody hbody

variable (hport : orderPort i = some p)
include hport

/-- A body read at the places of its order's operands gives that order back. -/
theorem orderOf_orderBody : orderOf p code body = some i := by
  cases i <;> cases hbody <;> cases hport
  case passPut | passBlock | passUnblock | passErase | passQuery =>
    refine congrArg some ?_
    congr 1
    exact passAt_eq rfl
  case ruleQuery | readerSet | tariffQuery | tariffErase | refundSet | refundCommit | refundRelease | journalRemove
      | noticeMask =>
    refine congrArg some ?_
    congr 1
    exact wordAt_eq rfl
  case admitSet | rulePut =>
    refine congrArg some ?_
    congr 1 <;> exact wordAt_eq rfl
  case clockSet =>
    refine congrArg some ?_
    congr 1
    · exact wordAt_eq rfl
    · exact tripleAt_eq rfl
  case tariffPutPart1 => exact (orderOf_tariffPut ..).trans (tariffPutOf_part1 ..)
  case tariffPutPart2 => exact (orderOf_tariffPut ..).trans (tariffPutOf_part2 ..)
  all_goals rfl

/-- An order's row is the taking of its frame, with the order's own rights and block (log 4). -/
theorem exec_order_takes : ∃ done rights block, ∀ s, orderEffect i s = takeOrder p code done rights block s ∧
    exec i s = .next (takeOrder p code done rights block s) := by
  cases i <;> cases hbody <;> cases hport
  all_goals exact ⟨_, _, _, fun _ => ⟨rfl, rfl⟩⟩

end

/-- Settles O5: the frame is well-formed, its body reads back as the order, and both are the same taking. -/
theorem frameIsTheOrderItCarries : Obligations.FrameIsTheOrderItCarries := by
  intro i p code body s hbody hport
  obtain ⟨done, rights, block, htakes⟩ := exec_order_takes hbody hport
  have hlength := orderLength_orderBody hbody
  have heffect (t : State) : orderEffectOf p code body t = takeOrder p code done rights block t := by
    rw [orderEffectOf, orderOf_orderBody hbody hport]
    exact (htakes t).1
  calc exec (.orderFrame p (frameOf code body) false) s
      = .next (takeOrder p code done rights block s) :=
        exec_frameOf (orderLength_le hlength) (orderBody_ne_fetch hbody) hlength heffect s
    _ = exec i s := (htakes s).2.symm

end Sys2Proof.Machine

/-! # Every command and the queue (O3)

A stopped part takes pins and start-ups alone, so the other commands matter in a running part; there each is the effect
of an order or of an event, and no effect writes the queue. -/

namespace Sys2Proof.Machine

/-- A start-up command that meets its cause starts the part, and no start-up writes the queue (R185). -/
theorem exec_startUp_pending (cause : StartCause) (selected : PerPort Bool) (s : State) :
    ∃ t, exec (.startUp cause selected) s = .next t ∧ t.pending = s.pending := by
  refine ⟨_, rfl, ?_⟩
  cases cause with
  | power =>
    dsimp only
    split
    · exact s.startUp_pending _ _
    · rfl
  | reset =>
    dsimp only
    split
    · split
      · exact State.startUp_pending _ _ _
      · rfl
    · rfl

/-- A pin or a start-up has its effect in every state, stopped or not, and none writes the queue (R183; log 19). -/
theorem exec_pin_pending {c : Instr} (hpin : isPin c = true) (s : State) :
    ∃ t, exec c s = .next t ∧ t.pending = s.pending := by
  cases c with
  | beamRawChange | boardRawChange | reset => exact ⟨_, rfl, rfl⟩
  | liftStop | vmainChange | vbakFailure =>
    refine ⟨_, rfl, ?_⟩
    split <;> simp
  | startUp cause selected => exact exec_startUp_pending cause selected s
  | _ => exact nomatch hpin

/-- In a running part an order is taken on its port, and an event acts where its moment has come and changes nothing
elsewhere (log 3); neither writes the queue. -/
theorem exec_running_pending {s : State} (hrunning : s.stopped = false) {c : Instr} (hpin : isPin c = false) :
    ∃ t, exec c s = .next t ∧ t.pending = s.pending := by
  have event : ∀ f : State → State, exec c s = .next (s.running f) → (f s).pending = s.pending →
      ∃ t, exec c s = .next t ∧ t.pending = s.pending :=
    fun f hexec hf => ⟨f s, by rw [hexec, State.running_of_not_stopped hrunning], hf⟩
  have order : exec c s = .next (orderEffect c s) → ∃ t, exec c s = .next t ∧ t.pending = s.pending :=
    fun hexec => ⟨_, hexec, (orderEffect_frame c s).2.2⟩
  cases c with
  | beamRawChange | boardRawChange | liftStop | vmainChange | reset | startUp | vbakFailure => exact nomatch hpin
  | orderFrame | readVisitCompletion | stampAttemptCompletion | tuneCompletion => exact event _ rfl (by simp)
  | withdrawalTaken n r =>
    refine event _ rfl ?_
    dsimp only
    split <;> simp
  | orderFrameDiscarded | fetchTransaction | fetchStatusFixed | beamDebouncedChange | boardPulse | boardDebouncedInactive
  | grantExpiry | holdTimeout | repeatQuietDeadline | timedSignalEnd | tonePatternEnd | refundHoldExpiry
  | localSecondBoundary | runMinute | stpPulse | pulseWatchExpiry | recoveryTimer =>
    refine event _ rfl ?_
    split <;> simp
  | _ => exact order rfl

/-- Settles O3: a pin or a start-up acts in every state; any other command changes nothing in a stopped part and runs in a
running one. -/
theorem everyCommandCompletes : Obligations.EveryCommandCompletes := by
  intro c s
  cases hpin : isPin c with
  | true => exact exec_pin_pending hpin s
  | false =>
    cases hstopped : s.stopped with
    | true => exact ⟨s, State.exec_of_stopped hstopped hpin, rfl⟩
    | false => exact exec_running_pending hstopped hpin

end Sys2Proof.Machine

/-! # The laws at reset (O54)

At reset the table, the queue, the journal and the slot are empty, every lane is IDLE without a context, and the counts
and the reader hold their cold values. -/

namespace Sys2Proof.Machine

namespace State

/-- At reset no lane holds a pass (R103). -/
theorem reset_ctxPass (n : Lane) : State.reset.ctxPass n = none := by
  rw [ctxPass, (reset_lane n).1]
  rfl

/-- An empty table is in form (R4, R5). -/
theorem reset_tableForm : TableForm State.reset.table :=
  ⟨.nil, List.forall_mem_nil _, .nil⟩

/-- No lane is live, and the queue is empty as no lane is QUEUED (R87, R105, R110). -/
theorem reset_releaseAgrees : State.reset.releaseAgrees := by
  refine ⟨rfl, .nil, fun n => ?_, fun n => ?_⟩
  · rw [(reset_lane n).1]
    exact ⟨fun hqueued => (nomatch hqueued), fun hqueued => nomatch hqueued⟩
  · rw [(reset_lane n).1]
    exact ⟨fun hctx => (nomatch hctx), fun hpassage => absurd rfl hpassage⟩

theorem reset_admissionAgrees : State.reset.admissionAgrees := by
  refine ⟨reset_tableForm, reset_releaseAgrees, ⟨fun n _ p _ hheld => ?_, fun _ _ _ hrefund => nomatch hrefund⟩,
    List.forall_mem_nil _, fun _ _ _ _ hrecord => nomatch hrecord⟩
  rw [reset_ctxPass] at hheld
  exact nomatch hheld

/-- The context is IDLE over an empty slot, an empty table and an empty journal (R15, R37, R133, R148). -/
theorem reset_refundAgrees : State.reset.refundAgrees :=
  ⟨reset_tableForm, trivial, ⟨List.forall_mem_nil _, fun _ hheld => nomatch hheld⟩,
    Nat.zero_le _, Nat.zero_lt_succ _, List.forall_mem_nil _, trivial, List.forall_mem_nil _⟩

/-- A closed and IDLE lane shows the red steady lamp (Table 4-3). -/
theorem reset_lampsAgree : State.reset.lampsAgree := by
  intro n
  rw [(reset_lane n).1]
  rfl

/-- Nothing waits, and VMAIN stands above the retention threshold (R110, R111, R181). -/
theorem reset_queueLaws : State.reset.QueueLaws where
  order := .nil
  limit := by decide
  supply := fun hvmain => nomatch hvmain
  waits := fun _ => .inl rfl

/-- The cold drive levels lie in their range, and no position has a fault or a collide run (R31, R35, R49, R57). -/
theorem reset_inBounds : State.reset.inBounds := by
  obtain ⟨htarget, hlevels, _⟩ := State.reset.coldContent_reader_counts
  refine ⟨Nat.zero_le _, Nat.zero_le _, htarget, fun _ _ _ hvisit => (nomatch hvisit), hlevels, fun p => ?_⟩
  have hpos : State.reset.reader.pos.get p = .start := PerPos.get_const _ p
  rw [hpos]
  decide

end State

/-- Settles O54, law by law; the counts are those of a cold start. -/
theorem lawsHoldAtReset : Obligations.LawsHoldAtReset := by
  obtain ⟨_, _, hcounts⟩ := State.reset.coldContent_reader_counts
  obtain ⟨horder, hwaits, hsupply⟩ := State.reset.queueLaws_iff.mp State.reset_queueLaws
  exact ⟨State.reset_admissionAgrees, State.reset_refundAgrees, hcounts, State.reset_lampsAgree, horder, hwaits, hsupply,
    State.reset_inBounds, List.forall_mem_nil _⟩

end Sys2Proof.Machine
